-- ==== Sys2Proof/Word.lean ====
section
/-! DEFINITION. The words of the part: bytes on a link, the CRC register, event sets.
Everything else the manual gives as a number in stated units (counts, frames, ticks, mfps) is an
`Int` or a `Nat` in the model, since the manual's arithmetic on it is exact. -/

namespace Sys2Proof

/-- A byte on a link (file 11). -/
abbrev Byte := BitVec 8

/-- The 16-bit CRC register (R193). -/
abbrev Crc := BitVec 16

/-- The 3-byte event set that crosses a link: bit n stands for the nth kind of R189 (R192). -/
abbrev WireEvents := BitVec 24

/-- One bit per event kind, 17 in all (R176). -/
abbrev EventBits := BitVec 17

end Sys2Proof
end

