-- ==== Sys2Proof/Syntax.lean ====
section
/-! DEFINITION. The commands: one constructor of `Instr` per row of spec/opcode_table.json, with the
operands the rule of the row names. Numbers are decoded (R192); an enumeration is its byte, so that
a byte that spells no value is still an operand (it is refused RANGE). -/

namespace Sys2Proof

/-- The two links (R176). -/
inductive LinkId where
  | a
  | b
deriving DecidableEq, Repr

/-- The other link. -/
def LinkId.other : LinkId → LinkId
  | .a => .b
  | .b => .a

/-- One of the sixteen axes, as a pin or an axis unit names it. -/
abbrev AxisId := Fin 16

/-- The record fields of AXIS_SET as they arrive (R82, R83, 11.4). -/
structure RecordArgs where
  softLow : Int
  softHigh : Int
  vmax : Nat
  amax : Nat
  jmax : Nat
  vc : Nat
  ac : Nat
  pmax : Nat
  feMax : Int
  feWarn : Int
  /-- The home method byte (R192). -/
  homeMethod : Nat
  /-- The home direction byte (R192). -/
  homeDirection : Nat
  homeSpeed : Nat
  homeOffset : Int
  searchTravel : Int
  settleTime : Nat
deriving DecidableEq, Repr

/-- The fields of PASS_ARM as they arrive (R128, R129, section 11.1). -/
structure PassArgs where
  slot : Nat
  first : Nat
  last : Nat
  /-- The direction byte. -/
  direction : Nat
  /-- The sync mode byte. -/
  mode : Nat
  /-- The presence byte of the pass rate (R192). -/
  ratePresence : Nat
  /-- The pass rate; carried when the presence byte is 01h. -/
  rate : Nat
  /-- The pairs of axis and offset. -/
  axes : List (Nat × Int)
  lead : Nat
  trail : Nat
  holdRamp : Nat
  stopRamp : Nat
  /-- The roll source byte. -/
  rollSource : Nat
  stepTime : Nat
  stepSettle : Nat
  /-- The exposure control byte. -/
  exposureControl : Nat
  /-- The exposure time or the exposure timeout. -/
  exposureTime : Nat
  /-- The step input enable byte. -/
  stepInput : Nat
deriving DecidableEq, Repr

/-- The commands, in the order of spec/opcode_table.json. A track is its byte: 00h to 0Fh for the
axes, 10h for SPEED (R192). `exp` is the expected generation, absent when the frame carries none (R27). -/
inductive Instr where
  /-- HARD_RESET (R20). -/
  | hardReset
  /-- INITIALIZATION_END (R20). -/
  | initializationEnd
  /-- SOFT_RESET (R188). -/
  | softReset
  /-- STATUS (R183). -/
  | status (l : LinkId)
  /-- EVENTS_READ (R190). -/
  | eventsRead (l : LinkId)
  /-- EVENTS_MASK (R190): a set bit unmasks its kind. -/
  | eventsMask (l : LinkId) (mask : WireEvents)
  /-- EVENTS_CLEAR (R190). -/
  | eventsClear (l : LinkId) (kinds : WireEvents)
  /-- CRC_MODE (R179): 00h OFF, 01h ON. -/
  | crcMode (l : LinkId) (mode : Nat)
  /-- RESET (R188). -/
  | reset (l : LinkId)
  /-- FAULT_STATUS (R175). -/
  | faultStatus (l : LinkId)
  /-- MOVE_INFO (R16, R17). -/
  | moveInfo (l : LinkId) (slot : Nat)
  /-- KEYS_GET (R18). -/
  | keysGet (l : LinkId) (slot track : Nat)
  /-- MOVE_NEW (R29); an expected generation is ignored (R27). -/
  | moveNew (l : LinkId) (slot first last : Nat) (label : List Byte) (exp : Option Nat)
  /-- MOVE_SPAN (R31). -/
  | moveSpan (l : LinkId) (slot first last : Nat) (exp : Option Nat)
  /-- MOVE_LABEL (R32). -/
  | moveLabel (l : LinkId) (slot : Nat) (label : List Byte) (exp : Option Nat)
  /-- KEYS_PUT (R33). -/
  | keysPut (l : LinkId) (slot track : Nat) (exp : Option Nat)
  /-- KEY_MARK_FIRST (R39). -/
  | keyMarkFirst (l : LinkId) (slot track frame : Nat) (exp : Option Nat)
  /-- KEY_MARK_LAST (R40); an expected generation is ignored (R27). -/
  | keyMarkLast (l : LinkId) (frame : Nat) (exp : Option Nat)
  /-- KEY_DROP (R41). -/
  | keyDrop (l : LinkId) (exp : Option Nat)
  /-- TRACK_CLEAR (R42). -/
  | trackClear (l : LinkId) (slot track : Nat) (exp : Option Nat)
  /-- MOVE_COPY (R43). -/
  | moveCopy (l : LinkId) (src dst : Nat) (exp : Option Nat)
  /-- MOVE_RETIRE (R44). -/
  | moveRetire (l : LinkId) (slot : Nat) (exp : Option Nat)
  /-- MOVE_PROTECT (R47). -/
  | moveProtect (l : LinkId) (slot : Nat) (exp : Option Nat)
  /-- MOVE_UNPROTECT (R48). -/
  | moveUnprotect (l : LinkId) (slot : Nat) (exp : Option Nat)
  /-- MOVE_CHECK (R50). -/
  | moveCheck (l : LinkId) (slot : Nat) (exp : Option Nat)
  /-- AXIS_SET (R83, R84). -/
  | axisSet (l : LinkId) (axis : Nat) (rec : RecordArgs)
  /-- AXIS_GET (R87). -/
  | axisGet (l : LinkId) (axis : Nat)
  /-- AXIS_ENABLE (R91). -/
  | axisEnable (l : LinkId) (axis : Nat)
  /-- AXIS_DISABLE (R93). -/
  | axisDisable (l : LinkId) (axis : Nat)
  /-- AXIS_HOME (R96). -/
  | axisHome (l : LinkId) (axis : Nat)
  /-- AXIS_PARK (R102): pairs of axis and target. -/
  | axisPark (l : LinkId) (targets : List (Nat × Int))
  /-- AXIS_STOP (R104). -/
  | axisStop (l : LinkId) (axis : Nat)
  /-- PASS_ARM (R129). -/
  | passArm (l : LinkId) (args : PassArgs)
  /-- PASS_GO_START (R132). -/
  | passGoStart (l : LinkId)
  /-- PASS_RUN (R135). -/
  | passRun (l : LinkId)
  /-- PASS_HOLD (R137). -/
  | passHold (l : LinkId)
  /-- PASS_RESUME (R138). -/
  | passResume (l : LinkId)
  /-- PASS_ABORT (R134, R140, R159). -/
  | passAbort (l : LinkId)
  /-- PASS_DISARM (R147). -/
  | passDisarm (l : LinkId)
  /-- PASS_STEP (R152): count and step direction byte. -/
  | passStep (l : LinkId) (count direction : Nat)
  /-- PASS_EXPOSE (R158). -/
  | passExpose (l : LinkId)
  /-- PASS_STATUS (R146). -/
  | passStatus (l : LinkId)
  /-- CLOCK_STATUS (R126). -/
  | clockStatus (l : LinkId)
  /-- SUPPLY_SET (R174): level and action byte. -/
  | supplySet (l : LinkId) (level action : Nat)
  /-- COMMAND_FRAME_REJECTED (R178): the bytes of the selection, from the command marker on. -/
  | commandFrameRejected (l : LinkId) (bytes : List Byte)
  /-- DATA_BLOCK (R184): the bytes of the selection, from the data-block marker on. -/
  | dataBlock (l : LinkId) (bytes : List Byte)
  /-- END_MARKER (R37). -/
  | endMarker (l : LinkId)
  /-- COLLECT_REQUEST (R186). -/
  | collectRequest (l : LinkId)
  /-- LINK_DESELECT (R177). -/
  | linkDeselect (l : LinkId)
  /-- DATA_BLOCK_APPLIED (R36). -/
  | dataBlockApplied
  /-- KEY_DROP_END (R41). -/
  | keyDropEnd
  /-- TRACK_CLEAR_END (R42). -/
  | trackClearEnd
  /-- MOVE_COPY_END (R43). -/
  | moveCopyEnd
  /-- MOVE_RETIRE_END (R44). -/
  | moveRetireEnd
  /-- CHECK_END (R62, R63). -/
  | checkEnd
  /-- SERVO_TICK (R163). -/
  | servoTick
  /-- DRIVE_SETTLE_END (R92). -/
  | driveSettleEnd (axis : AxisId)
  /-- PUT_TRANSFER_TIMEOUT (R38). -/
  | putTransferTimeout (l : LinkId)
  /-- GET_TRANSFER_TIMEOUT (R19). -/
  | getTransferTimeout (l : LinkId)
  /-- PARK_EASE_END (R103). -/
  | parkEaseEnd
  /-- PARK_STOP_AT_REST (R104). -/
  | parkStopAtRest
  /-- APPROACH_EASE_END (R133). -/
  | approachEaseEnd
  /-- APPROACH_STOP_AT_REST (R134). -/
  | approachStopAtRest
  /-- HOME_BRAKING_AT_REST (R98). -/
  | homeBrakingAtRest (axis : AxisId)
  /-- HOME_FINISHING_AT_REST (R98). -/
  | homeFinishingAtRest (axis : AxisId)
  /-- HOME_STOP_REACHED (R99). -/
  | homeStopReached (axis : AxisId)
  /-- HOME_TRAVEL_EXCEEDED (R100). -/
  | homeTravelExceeded (axis : AxisId)
  /-- HOME_ABANDON_AT_REST (R100). -/
  | homeAbandonAtRest (axis : AxisId)
  /-- HOLD_RAMP_END (R114). -/
  | holdRampEnd
  /-- RESUME_RAMP_END (R114). -/
  | resumeRampEnd
  /-- STOP_RAMP_END (R115). -/
  | stopRampEnd
  /-- SYNC_LOSS_TIMEOUT (R121). -/
  | syncLossTimeout
  /-- LOCK_TIMEOUT (R118). -/
  | lockTimeout
  /-- STEP_EASE_END (R154). -/
  | stepEaseEnd
  /-- STEP_SETTLE_END (R155). -/
  | stepSettleEnd
  /-- EXPOSURE_TIME_END (R156). -/
  | exposureTimeEnd
  /-- EXPOSURE_TIMEOUT (R157). -/
  | exposureTimeout
  /-- CAMERA_FRAME_EDGE (R116): reference clocks since the latest tick. -/
  | cameraFrameEdge (offset : Nat)
  /-- ROLL_TRIGGER_EDGE (R135). -/
  | rollTriggerEdge
  /-- STEP_ADVANCE_EDGE (R153). -/
  | stepAdvanceEdge
  /-- EXPOSURE_DONE_EDGE (R156). -/
  | exposureDoneEdge
  /-- ESTOP_ASSERT (R170). -/
  | estopAssert
  /-- ESTOP_RELEASE (R171). -/
  | estopRelease
  /-- SUPPLY_MONITOR_LOW (R172): the voltage read, in tenths of a volt. -/
  | supplyMonitorLow (tenths : Nat)
  /-- SUPPLY_MONITOR_OK (R172): the voltage read, in tenths of a volt. -/
  | supplyMonitorOk (tenths : Nat)
  /-- HOME_SWITCH_ASSERT (R98). -/
  | homeSwitchAssert (axis : AxisId)
  /-- HOME_SWITCH_RELEASE (R98). -/
  | homeSwitchRelease (axis : AxisId)
  /-- ENCODER_TRANSITION (R89): true in the positive sense. -/
  | encoderTransition (axis : AxisId) (positive : Bool)
  /-- GET_DATA_BLOCK_SENT (R19). -/
  | getDataBlockSent (l : LinkId)
deriving DecidableEq, Repr

end Sys2Proof
end

