-- ==== Sys2Proof/Config.lean ====
section
/-! DEFINITION. The free values: what the manual leaves open while the part goes on. Neither constant
has a body, so nothing can be proved of its value. -/

namespace Sys2Proof

/-- The setpoint (or step position) the part holds when a creep generator or the shift of a home would
carry it to the given exact value, outside −2^30 to 2^30 − 1. The spec states no result there (R88
gives the range, R97 and R98 the sums). Read as a signed 31-bit value, so it lies in the range. Log entry 15. -/
opaque Config.setpointOutOfRange : Int → BitVec 31

/-- Where the part begins when several axes trip on one tick: R168 has them tripped "in any order".
Applied to the counter `freeIx` of State. Log entry 13. -/
opaque Config.firstToTrip : Nat → BitVec 4

/-- Whether the partner clocks out the first byte of the end marker or STALE read-error that ends a get
transfer, before it deselects: R186 leaves the transfer open if it does not, and no row of the table tells.
Applied to the counter `freeIx` of State. Log entry 39. -/
opaque Config.endClockedOut : Nat → Bool

end Sys2Proof
end

