-- ==== Sys2Proof/Machine/State.lean ====
section
/-! DEFINITION. The state of the part as plain data, block by block, and the state right after a hard
reset. Absence in the manual's records is `none`; a value carried by a named state (slopes with GIVEN,
settle remaining with SETTLING) is an argument of that constructor. -/

namespace Sys2Proof.Machine

/-! ## Names shared by the blocks -/

/-- The reason codes (R182), in the order of their values (R193). -/
inductive Reason where
  | none | state | range | held | isProtected | stale | full | order | spanKey | trackInUse
  | sequence | notReady | notHomed | owned | limits | ceiling | mode | notConfigured | estop
  | noTransfer | overrun | busyOther
deriving DecidableEq, Repr

/-- The event kinds, in the order of R189. -/
inductive EventKind where
  | initDone | checkDone | passAtStart | passEnded | passHeld | stepReady | homeDone | homeFailed
  | parkDone | axisTrip | estop | estopClear | supplyLow | supplyOk | syncLost | syncRelock
  | transferTimeout
deriving DecidableEq, Repr

/-- One of the seventeen tracks of a move (R6). -/
inductive TrackId where
  | axis (a : AxisId)
  | speed
deriving DecidableEq, Repr

/-- FORWARD or REVERSE: the pass direction (R128) and the step direction (R150). -/
inductive Direction where
  | forward | reverse
deriving DecidableEq, Repr

/-- The sync mode (R128). -/
inductive SyncMode where
  | master | follower | step
deriving DecidableEq, Repr

/-! ## The move store (files 01 and 02) -/

/-- A slope mode; the slopes stand exactly with GIVEN (R4). -/
inductive SlopeMode where
  | auto
  | flat
  | given (inSlope outSlope : Int)
deriving DecidableEq, Repr

/-- An axis key (R4). -/
structure AxisKey where
  frame : Nat
  value : Int
  mode : SlopeMode
deriving DecidableEq, Repr

/-- A speed key (R5). -/
structure SpeedKey where
  frame : Nat
  rate : Nat
deriving DecidableEq, Repr

/-- The keys of one data block, read as the transfer's track asks (section 2.4). -/
inductive BlockKeys where
  | axis (keys : List AxisKey)
  | speed (keys : List SpeedKey)
deriving DecidableEq, Repr

/-- The states of a slot that holds a move (R9); EMPTY is the absence of the record (R2). -/
inductive MoveState where
  | opened | checking | ready | bound
deriving DecidableEq, Repr

/-- The limiting axis of a check summary: an axis or DEVICE (R3). -/
inductive LimitingAxis where
  | axis (a : AxisId)
  | device
deriving DecidableEq, Repr

/-- The limiting cause (R3). -/
inductive LimitingCause where
  | velocity | acceleration | corner | deviceMax
deriving DecidableEq, Repr

/-- The extent of one axis track (R61). -/
structure Extent where
  axis : AxisId
  low : Int
  high : Int
deriving DecidableEq, Repr

/-- The check summary (R3). -/
structure Summary where
  ceiling : Nat
  limitingAxis : LimitingAxis
  cause : LimitingCause
  frame : Nat
  extents : List Extent
deriving DecidableEq, Repr

/-- The reasons a check fails (R3, R52). -/
inductive FailReason where
  | emptyMove | shortTrack | span | axisUnset | tooSlow | cancelled
deriving DecidableEq, Repr

/-- The failure record (R3); track `none` is NONE. -/
structure Failure where
  reason : FailReason
  track : Option TrackId
  frame : Nat
deriving DecidableEq, Repr

/-- A move record (R3). -/
structure Move where
  state : MoveState
  isProtected : Bool
  generation : Nat
  label : List Byte
  first : Nat
  last : Nat
  axisTracks : Vector (List AxisKey) 16
  speedTrack : List SpeedKey
  summary : Option Summary
  failure : Option Failure
  /-- The un-certification mark of R12. -/
  uncertify : Bool
deriving DecidableEq, Repr

/-- The store phase (R1). -/
inductive StorePhase where
  | initializing | serving
deriving DecidableEq, Repr

/-- The timed store operations (R22), with what each decided as it was taken (R25). -/
inductive EditOp where
  | dataBlock (slot : Nat) (track : TrackId) (keys : BlockKeys)
  | keyDrop (slot : Nat) (track : TrackId) (first last : Nat)
  | trackClear (slot : Nat) (track : TrackId)
  | moveCopy (src dst : Nat)
  | moveRetire (slot : Nat)
deriving DecidableEq, Repr

/-- An operation in progress. -/
structure EditRun where
  /-- The link it works for. -/
  link : LinkId
  op : EditOp
  /-- The sender is still selected, so the answer will be sent (R23, R180). -/
  answerDue : Bool
  /-- Its response carries RANGE_RESET (R30). -/
  rangeReset : Bool
  /-- Ticks since it was taken: the model's own count for the bounds of R22. -/
  elapsed : Nat
deriving DecidableEq, Repr

/-- A held store-edit command (R23). -/
inductive EditCmd where
  | moveNew (slot first last : Nat) (label : List Byte)
  | moveSpan (slot first last : Nat) (exp : Option Nat)
  | moveLabel (slot : Nat) (label : List Byte) (exp : Option Nat)
  | keysPut (slot track : Nat) (exp : Option Nat)
  | keyMarkFirst (slot track frame : Nat) (exp : Option Nat)
  | keyMarkLast (frame : Nat)
  | keyDrop (exp : Option Nat)
  | trackClear (slot track : Nat) (exp : Option Nat)
  | moveCopy (src dst : Nat) (exp : Option Nat)
  | moveRetire (slot : Nat) (exp : Option Nat)
  | moveProtect (slot : Nat) (exp : Option Nat)
  | moveUnprotect (slot : Nat) (exp : Option Nat)
deriving DecidableEq, Repr

/-! ## The check engine (file 03) -/

/-- The limits of one axis as the check read them (R51). -/
structure AxisLimits where
  axis : AxisId
  vmax : Nat
  amax : Nat
  jmax : Nat
  unset : Bool
deriving DecidableEq, Repr

/-- A peak and the frame it is attributed to (R57). -/
structure Peak where
  value : Nat
  frame : Nat
deriving DecidableEq, Repr

/-- The running peaks of one axis track (R49). -/
structure AxisPeaks where
  axis : AxisId
  velocity : Peak
  acceleration : Peak
  corner : Peak
deriving DecidableEq, Repr

/-- A check in progress (R49). -/
structure CheckRun where
  slot : Nat
  limits : List AxisLimits
  /-- The running peaks of the axis tracks worked through so far, in axis order. -/
  peaks : List AxisPeaks
  /-- The running extents, formed once the move ceiling is known to be 1,000 or above (R61). -/
  extents : List Extent
  /-- Ticks since it was accepted: the model's own count for the bound of R51. -/
  elapsed : Nat
deriving DecidableEq, Repr

/-! ## The axis units and the step output of an axis (files 05 and 09) -/

/-- The home method (R82). -/
inductive HomeMethod where
  | switch | stop
deriving DecidableEq, Repr

/-- The home direction (R82). -/
inductive HomeDirection where
  | negative | positive
deriving DecidableEq, Repr

/-- The axis record (R82). -/
structure AxisRecord where
  softLow : Int
  softHigh : Int
  vmax : Nat
  amax : Nat
  jmax : Nat
  vc : Nat
  ac : Nat
  pmax : Nat
  feMax : Nat
  feWarn : Nat
  homeMethod : HomeMethod
  homeDirection : HomeDirection
  homeSpeed : Nat
  homeOffset : Int
  searchTravel : Nat
  settleTime : Nat
deriving DecidableEq, Repr

/-- The drive state; the settle remaining stands with SETTLING (R88). -/
inductive Drive where
  | off
  | settling (remaining : Nat)
  | on
  | tripped
deriving DecidableEq, Repr

/-- The datum (R95). -/
inductive Datum where
  | unknown | seeking | known
deriving DecidableEq, Repr

/-- The motion owner (R94). -/
inductive Owner where
  | none | home | park | pass
deriving DecidableEq, Repr

/-- The legs of a home other than NONE (R88). -/
inductive HomeLeg where
  | searching | braking | backingOff | finishing | pressing | abandoning
deriving DecidableEq, Repr

/-- The causes of a last motion result (R88). -/
inductive MotionCause where
  | none | travel | stopped | trip | estop | supply | reset
deriving DecidableEq, Repr

/-- The outcomes of a last motion result (R88). -/
inductive MotionOutcome where
  | none | homeDone | homeFailed | parkDone
deriving DecidableEq, Repr

/-- The last motion result (R88). -/
structure MotionResult where
  outcome : MotionOutcome
  cause : MotionCause
deriving DecidableEq, Repr

/-- The creep generator (R97): position and velocity in units of 2^−16 count. -/
structure Creep where
  position : Int
  velocity : Int
  target : Int
  step : Nat
deriving DecidableEq, Repr

/-- A home in progress: its leg, leg start position, and, once ABANDONING, its cause (R96, R100, R101). -/
structure HomeRun where
  leg : HomeLeg
  start : Int
  cause : MotionCause
deriving DecidableEq, Repr

/-- The trip record (R162, R168). -/
structure TripRecord where
  error : Int
  owner : Owner
deriving DecidableEq, Repr

/-- One axis: its unit (R82, R88) and its part of the step output unit (R162, R165). -/
structure Axis where
  conf : AxisRecord
  staged : Option AxisRecord
  drive : Drive
  datum : Datum
  owner : Owner
  home : Option HomeRun
  creep : Option Creep
  setpoint : Int
  stepPosition : Int
  encoder : Int
  lastResult : MotionResult
  /-- The level of the home switch input. -/
  homeSwitch : Bool
  softClamp : Bool
  pulseClamp : Bool
  followingError : Int
  trip : Option TripRecord
  /-- The direction output: true in the positive sense. -/
  dirPositive : Bool
  /-- Step pulses issued in the tick and not dropped (R165). -/
  pulses : Nat
deriving DecidableEq, Repr

/-- One axis of a group ease: its start value and distance (R80). -/
structure EaseAxis where
  axis : AxisId
  start : Int
  dist : Int
deriving DecidableEq, Repr

/-- The record of a park or an approach: the ease of R80, and whether it is STOPPING (R102, R104, R134). -/
structure GroupEase where
  axes : List EaseAxis
  duration : Nat
  elapsed : Nat
  stopping : Bool
deriving DecidableEq, Repr

/-! ## The move clock (file 06) -/

/-- The clock state (R107). -/
inductive ClockState where
  | stopped | clocking | following | stepping
deriving DecidableEq, Repr

/-- The ramp, with its length H and tick k where they stand (R107, R114, R115). -/
inductive Ramp where
  | none
  | hold (h k : Nat)
  | held
  | resume (h k : Nat)
  | stop (h k : Nat)
deriving DecidableEq, Repr

/-- The lock state (R107). -/
inductive LockState where
  | acquiring | locked | syncLost
deriving DecidableEq, Repr

/-- The move clock (R107). -/
structure Clock where
  state : ClockState
  mode : Option SyncMode
  direction : Option Direction
  phase : Int
  currentFrame : Int
  travelLimit : Option Int
  remainder : Nat
  baseRate : Nat
  appliedRate : Nat
  ramp : Ramp
  lock : Option LockState
  firstFrameBegun : Option Bool
  lastEdge : Option Nat
  lastPeriod : Option Nat
  previousPeriod : Option Nat
  stableCount : Nat
  increment : Nat
  measuredRate : Nat
  glitchCount : Nat
  /-- The camera sync output: true is HIGH. -/
  cameraSync : Bool
deriving DecidableEq, Repr

/-! ## The pass controller (files 07 and 08) -/

/-- The pass states (R127) and the step states of file 08. -/
inductive PassState where
  | idle | armed | approaching | atStart | rolling | running | holding | held | resuming | stopping
  | trailing | ended | stepMoving | stepSettling | exposing | stepReady
deriving DecidableEq, Repr

/-- The roll source (R128). -/
inductive RollSource where
  | command | trigger
deriving DecidableEq, Repr

/-- The exposure control with its time or timeout (R128, R156). -/
inductive ExposureControl where
  | timed (ticks : Nat)
  | handshake (timeout : Nat)
deriving DecidableEq, Repr

/-- The step fields of a pass record (R128). -/
structure StepFields where
  stepTime : Nat
  settle : Nat
  exposure : ExposureControl
  inputEnable : Bool
deriving DecidableEq, Repr

/-- One pass axis with its offset (R128). -/
structure PassAxis where
  axis : AxisId
  offset : Int
deriving DecidableEq, Repr

/-- The pass record (R128). -/
structure PassRecord where
  slot : Nat
  first : Nat
  last : Nat
  direction : Direction
  mode : SyncMode
  rate : Option Nat
  axes : List PassAxis
  lead : Nat
  trail : Nat
  holdRamp : Nat
  stopRamp : Nat
  rollSource : RollSource
  step : Option StepFields
deriving DecidableEq, Repr

/-- The stop cause (R127). -/
inductive StopCause where
  | command | overspeed
deriving DecidableEq, Repr

/-- The report's outcome (R144). -/
inductive RunOutcome where
  | none | running | complete | aborted | faulted | reset
deriving DecidableEq, Repr

/-- The report's cause (R144). -/
inductive ReportCause where
  | command
  | overspeed
  | trip (a : AxisId)
  | estop
  | supply
deriving DecidableEq, Repr

/-- The report's set of conditions (R144, R145). -/
structure Conditions where
  syncLost : Bool
  relocked : Bool
  held : Bool
  setpointClamped : Bool
  pulseClamped : Bool
  feWarn : Bool
  exposeTimeout : Bool
deriving DecidableEq, Repr

/-- The peak following error of one pass axis (R144). -/
structure AxisPeakError where
  axis : AxisId
  magnitude : Nat
deriving DecidableEq, Repr

/-- The pass report (R144). -/
structure Report where
  outcome : RunOutcome
  cause : Option ReportCause
  frames : Nat
  conditions : Conditions
  peaks : Option (List AxisPeakError)
deriving DecidableEq, Repr

/-- A step ease: the ease of R80 with one quantity, the phase (R81, R150). -/
structure StepEase where
  start : Int
  dist : Int
  duration : Nat
  elapsed : Nat
deriving DecidableEq, Repr

/-- The stepping state (R150). -/
structure Stepping where
  pending : Nat
  direction : Option Direction
  destination : Option Int
  ease : Option StepEase
  settleRemaining : Option Nat
  exposureRemaining : Option Nat
  abortRequested : Bool
  /-- The exposure trigger output: true is HIGH. -/
  trigger : Bool
deriving DecidableEq, Repr

/-- The pass controller (R127, R144, R150). -/
structure Pass where
  state : PassState
  record : Option PassRecord
  stopCause : Option StopCause
  endReached : Option Bool
  approach : Option GroupEase
  report : Report
  /-- The camera run output: true is HIGH. -/
  cameraRun : Bool
  stepping : Stepping
deriving DecidableEq, Repr

/-! ## The supply monitor (file 09) -/

/-- The supply action (R173). -/
inductive SupplyAction where
  | flag | stop
deriving DecidableEq, Repr

/-! ## The control links (file 10) -/

/-- The range marks of a link (R1, R39, R40). -/
inductive Marks where
  | absent
  | first (slot : Nat) (track : TrackId) (frame : Nat)
  | both (slot : Nat) (track : TrackId) (frame last : Nat)
deriving DecidableEq, Repr

/-- An open key transfer: put (R34) or get (R18). The get position is the number of the next key, from 1. -/
inductive Transfer where
  | put (slot : Nat) (track : TrackId) (accepted idle : Nat)
  | get (slot : Nat) (track : TrackId) (generation position sent : Nat) (retired : Bool) (idle : Nat)
deriving DecidableEq, Repr

/-- A data block as received: its key count and the bytes of its keys (R184). -/
structure DataBlock where
  count : Nat
  body : List Byte
deriving DecidableEq, Repr

/-- A buffered data block, and whether its acknowledgement will still be sent (R24, R184). -/
structure BufferedBlock where
  block : DataBlock
  ackDue : Bool
deriving DecidableEq, Repr

/-- An item held behind the edit unit (R23, R37). -/
inductive HeldItem where
  | command (c : EditCmd)
  | endMarker
deriving DecidableEq, Repr

/-- An item whose last byte has not arrived: its bytes behind the marker (R176, R177). -/
inductive PartialItem where
  | frame (bytes : List Byte)
  | block (bytes : List Byte)
deriving DecidableEq, Repr

/-- A collection in progress (R19, R186). -/
inductive Collection where
  | none
  | waiting
  | sending (keys : Nat)
  /-- An end marker or a STALE read-error is ready, and the partner deselects before its first byte. -/
  | unsent
deriving DecidableEq, Repr

/-- The bits of the status byte that report the command answered (R181). INIT, BUSY and ATTENTION report the
part when the byte is sent: `State.statusByte` forms them then. -/
structure Status where
  illegal : Bool
  frame : Bool
  refused : Bool
  rangeReset : Bool
deriving DecidableEq, Repr

/-- The result of MOVE_INFO for a slot that holds a move (R16). -/
structure MoveInfo where
  state : MoveState
  isProtected : Bool
  generation : Nat
  label : List Byte
  first : Nat
  last : Nat
  /-- Key count and blocks held, axis track 0 to 15, then the speed track. -/
  counts : List (Nat × Nat)
  summary : Option Summary
  failure : Option Failure
deriving DecidableEq, Repr

/-- The result of MOVE_INFO for slot 0 (R17); a slot's state `none` is EMPTY. -/
structure DirectoryInfo where
  free : Nat
  emptySlots : Nat
  lowestEmpty : Nat
  boundSlot : Nat
  checkingSlot : Nat
  states : List (Option MoveState)
deriving DecidableEq, Repr

/-- The result of STATUS (R183). -/
structure StatusInfo where
  phase : StorePhase
  edit : Option (LinkId × List Nat)
  check : Option Nat
  crcOn : Bool
  transfer : Option Transfer
  outstanding : Bool
  held : Bool
  marks : Marks
deriving DecidableEq, Repr

/-- The fault unit's items of one axis (R175). -/
structure AxisFaultInfo where
  softClamp : Bool
  pulseClamp : Bool
  followingError : Int
  trip : Option TripRecord
deriving DecidableEq, Repr

/-- The result of FAULT_STATUS (R175); `supplyLow` is the supply state. -/
structure FaultInfo where
  axes : List AxisFaultInfo
  estop : Bool
  supplyLevel : Nat
  supplyAction : SupplyAction
  supplyLow : Bool
deriving DecidableEq, Repr

/-- The results a response carries, as each command's rule names them; AXIS_GET, PASS_STATUS and
CLOCK_STATUS carry the record they read as it stood. -/
inductive Results where
  | none
  | status (i : StatusInfo)
  | events (flags : EventBits)
  | crcMode (on : Bool)
  | faults (i : FaultInfo)
  | emptySlot (slot free : Nat)
  | move (slot free : Nat) (i : MoveInfo)
  | directory (i : DirectoryInfo)
  | keysGet (generation keys : Nat)
  | slotGeneration (slot generation : Nat)
  | generation (g : Nat)
  | spanKey (track : TrackId) (frame : Nat)
  | keysPut (generation keys free : Nat)
  | dropped (removed generation : Nat)
  | cleared (removed free generation : Nat)
  | copied (dst generation free : Nat)
  | retired (blocks free : Nat)
  | axisSet (staged : Bool)
  | axis (a : Axis)
  | armed (slot ceiling : Nat)
  | disarmed (state : MoveState)
  | stepping (pending : Nat) (direction : Direction) (committed : Int)
  | pass (p : Pass)
  | clock (c : Clock)
  | supply (level : Nat) (action : SupplyAction) (low : Bool)
deriving DecidableEq, Repr

/-- What a link sends (R180, R185, R186, R193). -/
inductive Answer where
  | response (st : Status) (reason : Reason) (results : Results)
  | blockAccepted
  | blockFrameError
  | blockRefused (reason : Reason)
  | close (accepted : Nat)
  | closeRefused
  | keys (ks : BlockKeys)
  | getEnd (sent : Nat)
  | readError (reason : Reason)
deriving DecidableEq, Repr

/-- One link (R176). -/
structure Link where
  crcOn : Bool
  item : Option PartialItem
  buffer : Option BufferedBlock
  held : Option HeldItem
  transfer : Option Transfer
  closedByReset : Bool
  marks : Marks
  flags : EventBits
  /-- A set bit is UNMASKED. -/
  mask : EventBits
  collection : Collection
  /-- A RESET of this link waits to be answered (R188). -/
  resetDue : Bool
  answer : Option Answer
deriving DecidableEq, Repr

/-! ## The whole part -/

/-- The state of the part, and the queue of the commands that wait. -/
structure State where
  phase : StorePhase
  /-- Ticks since initialization began: the model's own count for the bound of R20. -/
  initTicks : Nat
  /-- Slot n at index n − 1; an absent record is an EMPTY slot. -/
  slots : Vector (Option Move) 64
  free : Nat
  edit : Option EditRun
  check : Option CheckRun
  axes : Vector Axis 16
  park : Option GroupEase
  clock : Clock
  pass : Pass
  /-- The E-stop state, which is the level of the input (R169): true is ASSERTED. -/
  estop : Bool
  supplyLevel : Nat
  supplyAction : SupplyAction
  /-- The supply state: true is LOW. -/
  supplyLow : Bool
  /-- The voltage on the drive-supply sense input, in tenths of a volt (11.5). -/
  supplyTenths : Nat
  linkA : Link
  linkB : Link
  /-- A soft reset waits for the edit unit (R21). -/
  resetWaiting : Bool
  /-- The reference-clock time of the latest tick (log entry 8). -/
  refClock : Nat
  /-- The counter the free values are applied to (log entry 13). -/
  freeIx : Nat
  /-- The commands that wait, first in, first out. -/
  pending : List Instr
deriving DecidableEq, Repr

/-- No command of this part stops it: a command turned away is REFUSED with a reason and the part goes
on (R182), a trip or an E-stop is a change of state. So there is no fault to name. -/
inductive Fault where
deriving DecidableEq, Repr

/-- The one refusal the row's form names; no arm of `exec` and no meaning raises it. -/
inductive Refusal where
  /-- A command without a meaning. Raised by none. Safe: it would only stop a run. -/
  | notModelled (mnemonic : String)
deriving DecidableEq, Repr

/-! ## The state right after a hard reset -/

/-- The axis record after a hard reset (R82). -/
def AxisRecord.reset : AxisRecord :=
  { softLow := 0, softHigh := 0, vmax := 0, amax := 0, jmax := 0, vc := 0, ac := 0, pmax := 0,
    feMax := 0, feWarn := 0, homeMethod := .switch, homeDirection := .negative, homeSpeed := 0,
    homeOffset := 0, searchTravel := 0, settleTime := 0 }

/-- An axis after a hard reset (R82, R88, R162). DESIGN CHOICE (unsafe), entries 2 and 3: the home switch
input is not asserted and the direction output stands in the negative sense. -/
def Axis.reset : Axis :=
  { conf := .reset, staged := none, drive := .off, datum := .unknown, owner := .none, home := none,
    creep := none, setpoint := 0, stepPosition := 0, encoder := 0,
    lastResult := { outcome := .none, cause := .none }, homeSwitch := false, softClamp := false,
    pulseClamp := false, followingError := 0, trip := none, dirPositive := false, pulses := 0 }

/-- The move clock after any reset (R107). -/
def Clock.reset : Clock :=
  { state := .stopped, mode := none, direction := none, phase := 0, currentFrame := 0,
    travelLimit := none, remainder := 0, baseRate := 0, appliedRate := 0, ramp := .none, lock := none,
    firstFrameBegun := none, lastEdge := none, lastPeriod := none, previousPeriod := none,
    stableCount := 0, increment := 0, measuredRate := 0, glitchCount := 0, cameraSync := false }

/-- The empty set of conditions (R144). -/
def Conditions.empty : Conditions :=
  { syncLost := false, relocked := false, held := false, setpointClamped := false,
    pulseClamped := false, feWarn := false, exposeTimeout := false }

/-- The pass report after a hard reset (R144). -/
def Report.reset : Report :=
  { outcome := .none, cause := none, frames := 0, conditions := .empty, peaks := none }

/-- The stepping state after any reset and after every run (R150). -/
def Stepping.reset : Stepping :=
  { pending := 0, direction := none, destination := none, ease := none, settleRemaining := none,
    exposureRemaining := none, abortRequested := false, trigger := false }

/-- The pass controller after a hard reset (R127). -/
def Pass.reset : Pass :=
  { state := .idle, record := none, stopCause := none, endReached := none, approach := none,
    report := .reset, cameraRun := false, stepping := .reset }

/-- A link after a hard reset (R176). -/
def Link.reset : Link :=
  { crcOn := true, item := none, buffer := none, held := none, transfer := none,
    closedByReset := false, marks := .absent, flags := 0, mask := 0, collection := .none,
    resetDue := false, answer := none }

/-- The part right after a hard reset: initialization has begun (R20) and the queue is empty. DESIGN
CHOICE (unsafe), entry 2: the E-stop input is not asserted and the drive supply stands at 48.0 V, so
the E-stop state is CLEAR (R169) and the supply state OK (R172). Entries 8 and 13: the model's own
reference clock and free-value counter begin at 0. -/
def State.reset : State :=
  { phase := .initializing, initTicks := 0, slots := Vector.replicate 64 none, free := 512,
    edit := none, check := none, axes := Vector.replicate 16 .reset, park := none, clock := .reset,
    pass := .reset, estop := false, supplyLevel := 0, supplyAction := .flag, supplyLow := false,
    supplyTenths := 480, linkA := .reset, linkB := .reset, resetWaiting := false, refClock := 0,
    freeIx := 0, pending := [] }

end Sys2Proof.Machine
end

