-- ==== Sys2Proof/Machine/Units.lean ====
section
/-! DEFINITION. The units of the manual (00_scope.md), its ranges, and the integer arithmetic its rules
name: rounding up, the searches for a largest or smallest integer, saturation, wrapping. -/

namespace Sys2Proof.Machine

/-- The sixteen axes in order. -/
def allAxes : List AxisId := [0, 1, 2, 3, 4, 5, 6, 7, 8, 9, 10, 11, 12, 13, 14, 15]

/-- The two links in order. -/
def allLinks : List LinkId := [.a, .b]

/-- The slots 1 to 64 in order. -/
def allSlots : List Nat := (List.range 64).map (· + 1)

/-- Phase units in one frame (00_scope.md, Units). -/
def puPerFrame : Int := 65536

/-- Reference clocks in one tick (00_scope.md, Units). -/
def clocksPerTick : Nat := 16384

/-- The lowest count of a key value or a setpoint, −2^30. -/
def countMin : Int := -1073741824

/-- The highest count of a key value or a setpoint, 2^30 − 1. -/
def countMax : Int := 1073741823

/-- A value lies in the range of a count. -/
def inCount (x : Int) : Bool := decide (countMin ≤ x ∧ x ≤ countMax)

/-- A value held within two bounds. -/
def saturate (lo hi x : Int) : Int := if x < lo then lo else if hi < x then hi else x

/-- Saturation to the range of a count (R75, R90). -/
def saturateCount (x : Int) : Int := saturate countMin countMax x

/-- Saturation to the range of a following error (R166). -/
def saturateError (x : Int) : Int := saturate (-2147483648) 2147483647 x

/-- What the setpoint (or the step position) becomes when a generator or a home's shift gives the exact
value `x`: `x` in the range of R88, and outside it a free value of that range (log entry 15). -/
def fitSetpoint (x : Int) : Int :=
  if inCount x then x else (Config.setpointOutOfRange x).toInt

/-- The encoder count wraps over 32 bits (R89). -/
def wrapEncoder (x : Int) : Int := (x + 2147483648) % 4294967296 - 2147483648

/-- A generation raised by one, modulo 65,536 (R14). -/
def nextGeneration (g : Nat) : Nat := (g + 1) % 65536

/-- A quotient rounded up. -/
def ceilDiv (n d : Nat) : Nat := (n + d - 1) / d

/-- The bits of a square root, from the highest down: `isqrtBits n b r` extends `r` by `b` bits. -/
def isqrtBits (n : Nat) : Nat → Nat → Nat
  | 0, r => r
  | b + 1, r => isqrtBits n b (if (r + 2 ^ b) * (r + 2 ^ b) ≤ n then r + 2 ^ b else r)

/-- The largest r with r × r ≤ n (00_scope.md, Searches). -/
def isqrt (n : Nat) : Nat := isqrtBits n (Nat.log2 n / 2 + 1) 0

/-- The smallest r with r × r ≥ n. -/
def ceilSqrt (n : Nat) : Nat := if isqrt n * isqrt n = n then isqrt n else isqrt n + 1

/-- Blocks of the pool a track of n keys holds: ceil(n/32) (R7). -/
def blocksOf (n : Nat) : Nat := (n + 31) / 32

end Sys2Proof.Machine
end

