-- ==== Sys2Proof/Machine/Curve.lean ====
section
/-! DEFINITION. The curve evaluator (file 04) and the resolved slopes of file 03: track evaluation at a
phase, the speed-track rate, and the ease profile. It holds no state (R69). -/

namespace Sys2Proof.Machine

/-! ## Resolved slopes (R53) -/

/-- A key with its resolved slopes. -/
structure ResolvedKey where
  frame : Nat
  value : Int
  inSlope : Int
  outSlope : Int
deriving DecidableEq, Repr

/-- The slope of an interior AUTO key between its neighbours, truncated toward zero and saturated (R53). -/
def autoSlope (before after : AxisKey) : Int :=
  saturate (-8388608) 8388607
    ((after.value - before.value).tdiv ((after.frame : Int) - (before.frame : Int)))

/-- The resolved in and out slope of a key with its neighbours, where it has them (R53). -/
def resolveSlopes (before : Option AxisKey) (k : AxisKey) (after : Option AxisKey) : Int × Int :=
  match k.mode with
  | .flat => (0, 0)
  | .given i o => (i, o)
  | .auto =>
    match before, after with
    | some b, some a => (autoSlope b a, autoSlope b a)
    | _, _ => (0, 0)

/-- The resolved keys of the rest of a track after the key `before`. -/
def resolveFrom (before : Option AxisKey) : List AxisKey → List ResolvedKey
  | [] => []
  | k :: rest =>
    { frame := k.frame, value := k.value,
      inSlope := (resolveSlopes before k rest.head?).1,
      outSlope := (resolveSlopes before k rest.head?).2 } :: resolveFrom (some k) rest

/-- The resolved keys of a track (R53). -/
def resolve (keys : List AxisKey) : List ResolvedKey := resolveFrom none keys

/-! ## Segments (R54, R71) -/

/-- A segment from key i to key i+1: the quantities of R71. -/
structure Segment where
  start : Nat
  length : Nat
  v0 : Int
  dv : Int
  m0 : Int
  m1 : Int
deriving DecidableEq, Repr

/-- The segments of a resolved track, in frame order. -/
def segments : List ResolvedKey → List Segment
  | k :: n :: rest =>
    { start := k.frame, length := n.frame - k.frame, v0 := k.value, dv := n.value - k.value,
      m0 := k.outSlope, m1 := n.inSlope } :: segments (n :: rest)
  | _ => []

/-- The basis value b1 (R73). -/
def basis1 (u : Nat) : Int := ((u * u * (196608 - 2 * u)) / 65536 : Nat)

/-- The basis value b2 (R73). -/
def basis2 (u : Nat) : Int := ((u * ((65536 - u) * (65536 - u))) / 65536 : Nat)

/-- The basis value b3: the negative of a value rounded down (R73). -/
def basis3 (u : Nat) : Int := -(((u * u * (65536 - u)) / 65536 : Nat) : Int)

/-- The value before offset at the reduction u of a segment: the exact sum, rounded once (R74). -/
def Segment.value (g : Segment) (u : Nat) : Int :=
  g.v0 + (g.dv * basis1 u + (g.length : Int) * g.m0 * basis2 u + (g.length : Int) * g.m1 * basis3 u
    + 2147483648) / 4294967296

/-- The reduction u of a phase within a segment, rounded down (R72). -/
def Segment.reduction (g : Segment) (phase : Int) : Nat :=
  (phase - (g.start : Int) * puPerFrame).toNat * 65536 / (g.length * 65536)

/-- A phase lies in the segment: from its key's frame start to just below the next one's (R71). -/
def Segment.holds (g : Segment) (phase : Int) : Bool :=
  decide ((g.start : Int) * puPerFrame ≤ phase ∧
    phase < ((g.start : Int) + (g.length : Int)) * puPerFrame)

/-- The value of a track at a phase, before offset (R70 to R74). A track without keys is never asked
for (R69); it gives 0. -/
def trackRaw (keys : List AxisKey) (phase : Int) : Int :=
  match keys.head?, keys.getLast? with
  | some k0, some kn =>
    if phase < (k0.frame : Int) * puPerFrame then k0.value
    else if (kn.frame : Int) * puPerFrame ≤ phase then kn.value
    else
      match (segments (resolve keys)).find? (fun g => g.holds phase) with
      | some g => g.value (g.reduction phase)
      | none => kn.value
  | _, _ => 0

/-- The answer of the evaluator: the offset added exactly, then range saturation (R75). -/
def trackValue (keys : List AxisKey) (phase offset : Int) : Int :=
  saturateCount (trackRaw keys phase + offset)

/-! ## The speed-track rate (R76) -/

/-- The rate between neighbouring keys for the pair with f(i) < n ≤ f(i+1), when there is one. -/
def rateBetween (n : Int) : List SpeedKey → Option Nat
  | k :: m :: rest =>
    if (k.frame : Int) < n ∧ n ≤ (m.frame : Int) then
      some ((k.rate : Int) + (((m.rate : Int) - (k.rate : Int)) * (n - (k.frame : Int)))
        / ((m.frame : Int) - (k.frame : Int))).toNat
    else rateBetween n (m :: rest)
  | _ => none

/-- The rate a speed track gives at frame n (R76). An absent track is never asked for; it gives 0. -/
def speedRate (keys : List SpeedKey) (n : Int) : Nat :=
  match keys.head?, keys.getLast? with
  | some k0, some kn =>
    if n ≤ (k0.frame : Int) then k0.rate
    else if (kn.frame : Int) ≤ n then kn.rate
    else (rateBetween n keys).getD kn.rate
  | _, _ => 0

/-! ## The ease profile (R77 to R79) -/

/-- The magnitude of the ease offset after k ticks of D over a distance of magnitude d (R77). -/
def easeMagnitude (d duration k : Nat) : Nat :=
  (2 * d * (k * k) * (3 * duration - 2 * k) + duration ^ 3) / (2 * duration ^ 3)

/-- The ease offset after k ticks of an ease of duration D over the distance d (R77). -/
def easeOffset (d : Int) (duration k : Nat) : Int :=
  if d < 0 then -(easeMagnitude d.natAbs duration k : Int) else (easeMagnitude d.natAbs duration k : Int)

/-- The distance and creep limits of one axis of an ease (R78). -/
structure EaseTerm where
  dist : Int
  vc : Nat
  ac : Nat
deriving DecidableEq, Repr

/-- The larger of D_v and D_a of one axis (R78): D_v the smallest D with D × Vc ≥ 3,000 × |d|, D_a the
smallest D with D² × Ac ≥ 24,000,000 × |d|. -/
def EaseTerm.duration (t : EaseTerm) : Nat :=
  if t.dist = 0 then 0
  else max (ceilDiv (3000 * t.dist.natAbs) t.vc) (ceilSqrt (ceilDiv (24000000 * t.dist.natAbs) t.ac))

/-- The ease duration over a set of axes, or `none` where R79 refuses it. -/
def easeDuration (ts : List EaseTerm) : Option Nat :=
  if ts.any (fun t => decide (t.dist ≠ 0 ∧ (t.vc = 0 ∨ t.ac = 0))) then none
  else if 2000000 < ts.foldl (fun m t => max m t.duration) 200 then none
  else some (ts.foldl (fun m t => max m t.duration) 200)

end Sys2Proof.Machine
end

