-- ==== Sys2Proof/Machine/Ops.lean ====
section
/-! DEFINITION. The named operations over the parts of State: one accessor and one update per part, and
the reads of the move store every other file uses. -/

namespace Sys2Proof.Machine

/-! ## Links -/

/-- The state of a link. -/
def State.link (s : State) : LinkId → Link
  | .a => s.linkA
  | .b => s.linkB

/-- The state with a link replaced. -/
def State.setLink (s : State) (l : LinkId) (k : Link) : State :=
  match l with
  | .a => { s with linkA := k }
  | .b => { s with linkB := k }

/-- The state with a link changed by a function. -/
def State.onLink (s : State) (l : LinkId) (f : Link → Link) : State := s.setLink l (f (s.link l))

/-- Both links changed by one function. -/
def State.onLinks (s : State) (f : Link → Link) : State :=
  { s with linkA := f s.linkA, linkB := f s.linkB }

/-! ## Axes -/

/-- An axis. -/
def State.axis (s : State) (a : AxisId) : Axis := s.axes[a]

/-- The state with an axis replaced. -/
def State.setAxis (s : State) (a : AxisId) (x : Axis) : State := { s with axes := s.axes.set a x }

/-- The state with an axis changed by a function. -/
def State.onAxis (s : State) (a : AxisId) (f : Axis → Axis) : State := s.setAxis a (f (s.axis a))

/-- The state with every axis changed by one function. -/
def State.onAxes (s : State) (f : Axis → Axis) : State := { s with axes := s.axes.map f }

/-- One operation made for each axis of a list, in order. -/
def forAxes (as : List AxisId) (f : AxisId → State → State) (s : State) : State :=
  as.foldl (fun t a => f a t) s

/-- The axis a number names, when it is 0 to 15. -/
def axisOf (n : Nat) : Option AxisId := if h : n < 16 then some ⟨n, h⟩ else none

/-! ## The clock and the pass -/

/-- The state with the move clock replaced. -/
def State.withClock (s : State) (c : Clock) : State := { s with clock := c }

/-- The state with the pass controller replaced. -/
def State.withPass (s : State) (p : Pass) : State := { s with pass := p }

/-! ## The move store -/

/-- A slot number from 1 to 64 (R2). -/
def slotOk (n : Nat) : Bool := decide (1 ≤ n ∧ n ≤ 64)

/-- The move in a slot; `none` when the slot is EMPTY (or no slot has the number). -/
def State.move (s : State) (n : Nat) : Option Move :=
  if 1 ≤ n then (s.slots[n - 1]?).join else none

/-- The state with the record of a slot replaced; EMPTY with `none`. -/
def State.setMove (s : State) (n : Nat) (m : Option Move) : State :=
  if 1 ≤ n then { s with slots := s.slots.setIfInBounds (n - 1) m } else s

/-- The state with the move of a slot, if it holds one, changed by a function. -/
def State.onMove (s : State) (n : Nat) (f : Move → Move) : State := s.setMove n ((s.move n).map f)

/-- The state with every move changed by one function. -/
def State.onMoves (s : State) (f : Move → Move) : State := { s with slots := s.slots.map (Option.map f) }

/-- The keys of an axis track. -/
def Move.axisTrack (m : Move) (a : AxisId) : List AxisKey := m.axisTracks[a]

/-- The move has a present track on the axis (R6). -/
def Move.hasTrack (m : Move) (a : AxisId) : Bool := !(m.axisTrack a).isEmpty

/-- The key count of a track. -/
def Move.keyCount (m : Move) : TrackId → Nat
  | .axis a => (m.axisTrack a).length
  | .speed => m.speedTrack.length

/-- The frames of the keys of a track, in order. -/
def Move.frames (m : Move) : TrackId → List Nat
  | .axis a => (m.axisTrack a).map (·.frame)
  | .speed => m.speedTrack.map (·.frame)

/-- The seventeen tracks of a move: the axis tracks in order, then the speed track. -/
def allTracks : List TrackId := allAxes.map .axis ++ [.speed]

/-- The present axis tracks of a move, in axis order. -/
def Move.presentAxes (m : Move) : List AxisId := allAxes.filter m.hasTrack

/-- The blocks all tracks of a move hold (R7). -/
def Move.blocks (m : Move) : Nat := (allTracks.map (fun t => blocksOf (m.keyCount t))).sum

/-- The move with an axis track replaced. -/
def Move.setAxisTrack (m : Move) (a : AxisId) (ks : List AxisKey) : Move :=
  { m with axisTracks := m.axisTracks.set a ks }

/-- The target slots of an operation (R15, R22). -/
def EditOp.targets : EditOp → List Nat
  | .dataBlock s _ _ => [s]
  | .keyDrop s _ _ _ => [s]
  | .trackClear s _ => [s]
  | .moveCopy s d => [s, d]
  | .moveRetire s => [s]

/-- A slot is a target of the edit unit, working for either link (R15). -/
def State.isTarget (s : State) (n : Nat) : Bool :=
  match s.edit with
  | some r => r.op.targets.contains n
  | none => false

/-- The lowest-numbered EMPTY slot (R17, R29). -/
def State.lowestEmpty (s : State) : Option Nat := allSlots.find? (fun n => (s.move n).isNone)

/-- The slots whose move is in a state, in order. -/
def State.slotsIn (s : State) (st : MoveState) : List Nat :=
  allSlots.filter (fun n => decide ((s.move n).map (·.state) = some st))

/-- A data block of a link is outstanding: buffered, or being applied (R24, R184). -/
def State.outstanding (s : State) (l : LinkId) : Bool :=
  (s.link l).buffer.isSome ||
    (match s.edit with
     | some r =>
       (match r.op with
        | .dataBlock _ _ _ => decide (r.link = l)
        | _ => false)
     | none => false)

/-! ## Axis records -/

/-- An axis is unset when its Vmax, Amax, Vc, Ac or Pmax is 0 (R82). -/
def AxisRecord.unset (r : AxisRecord) : Bool :=
  r.vmax == 0 || r.amax == 0 || r.vc == 0 || r.ac == 0 || r.pmax == 0

/-- Two records differ in a field that bears on certification: Vmax, Amax, Jmax, soft low or soft high
(R65, R85). -/
def AxisRecord.limitsDiffer (r t : AxisRecord) : Bool :=
  r.vmax != t.vmax || r.amax != t.amax || r.jmax != t.jmax || r.softLow != t.softLow ||
    r.softHigh != t.softHigh

/-- A value lies within the soft limits of a record. -/
def AxisRecord.admits (r : AxisRecord) (x : Int) : Bool := decide (r.softLow ≤ x ∧ x ≤ r.softHigh)

/-! ## The pass record -/

/-- The start frame: the first frame FORWARD, the last frame REVERSE (R128). -/
def PassRecord.startFrame (r : PassRecord) : Int :=
  match r.direction with
  | .forward => r.first
  | .reverse => r.last

/-- The end frame: the other one (R128). -/
def PassRecord.endFrame (r : PassRecord) : Int :=
  match r.direction with
  | .forward => r.last
  | .reverse => r.first

/-- The travel limit (R108). -/
def PassRecord.travelLimit (r : PassRecord) : Int :=
  match r.direction with
  | .forward => ((r.last : Int) + (r.trail : Int)) * puPerFrame
  | .reverse => ((r.first : Int) - (r.trail : Int)) * puPerFrame

/-- The axes of the axis set. -/
def PassRecord.axisIds (r : PassRecord) : List AxisId := r.axes.map (·.axis)

end Sys2Proof.Machine
end

