-- ==== Sys2Proof/Machine/CheckArith.lean ====
section
/-! DEFINITION. The arithmetic of a check (file 03): the failure order, the peaks of a track, the rate
ceiling and the extents. -/

namespace Sys2Proof.Machine

/-! ## Peaks of a segment (R54, R55) -/

/-- The quantity a of R54. -/
def Segment.qa (g : Segment) : Int := -6 * g.dv + 3 * (g.length : Int) * g.m0 + 3 * (g.length : Int) * g.m1

/-- The quantity b of R54. -/
def Segment.qb (g : Segment) : Int := 6 * g.dv - 4 * (g.length : Int) * g.m0 - 2 * (g.length : Int) * g.m1

/-- The quantity c of R54. -/
def Segment.qc (g : Segment) : Int := (g.length : Int) * g.m0

/-- a is not 0 and the vertex −b/(2a) lies between 0 and 1, both ends excluded (R54). -/
def Segment.vertexInside (g : Segment) : Bool :=
  decide ((0 < g.qa ∧ g.qb < 0 ∧ -g.qb < 2 * g.qa) ∨ (g.qa < 0 ∧ 0 < g.qb ∧ g.qb < -(2 * g.qa)))

/-- The magnitude of the velocity at the vertex, (4a·c − b²) / (4a·L), rounded up (R54). -/
def Segment.vertexSpeed (g : Segment) : Nat :=
  ceilDiv (4 * g.qa * g.qc - g.qb * g.qb).natAbs (4 * g.qa.natAbs * g.length)

/-- The velocity peak of a segment (R54). -/
def Segment.velocityPeak (g : Segment) : Nat :=
  max (max g.m0.natAbs g.m1.natAbs) (if g.vertexInside then g.vertexSpeed else 0)

/-- The acceleration peak of a segment: the larger of its values at both ends, each rounded up (R55). -/
def Segment.accelerationPeak (g : Segment) : Nat :=
  max (ceilDiv g.qb.natAbs (g.length * g.length))
    (ceilDiv (-6 * g.dv + 2 * (g.length : Int) * g.m0 + 4 * (g.length : Int) * g.m1).natAbs
      (g.length * g.length))

/-! ## Corners (R56) -/

/-- The corner peaks of the rest of a track, whose keys so far end before `k`. -/
def cornersAfter : List ResolvedKey → List Peak
  | [] => []
  | [k] => [{ value := k.inSlope.natAbs, frame := k.frame }]
  | k :: rest => { value := (k.inSlope - k.outSlope).natAbs, frame := k.frame } :: cornersAfter rest

/-- The corner peaks of a track: the first key leaves from rest, the last arrives at rest (R56). -/
def corners : List ResolvedKey → List Peak
  | [] => []
  | k :: rest => { value := k.outSlope.natAbs, frame := k.frame } :: cornersAfter rest

/-! ## Axis peaks (R57) -/

/-- The greatest of some peaks, at the lowest frame that reaches it; `start` is 0 at the track's first
frame. -/
def greatest (start : Peak) (ps : List Peak) : Peak :=
  ps.foldl (fun best p => if best.value < p.value then p else best) start

/-- The samples of a track: 64 reductions of each segment and the last key's value (R61). -/
def samples (keys : List AxisKey) : List Int :=
  (segments (resolve keys)).flatMap
      (fun g => (List.range 64).map (fun i => saturateCount (g.value (1024 * i))))
    ++ (match keys.getLast? with
        | some k => [saturateCount k.value]
        | none => [])

/-- The extent of a track (R61). -/
def extentOf (a : AxisId) (keys : List AxisKey) : Extent :=
  match samples keys with
  | [] => { axis := a, low := 0, high := 0 }
  | v :: vs => { axis := a, low := vs.foldl min v, high := vs.foldl max v }

/-- The peaks of an axis track (R57). -/
def axisPeaks (a : AxisId) (keys : List AxisKey) : AxisPeaks :=
  let rs := resolve keys
  let start : Peak := { value := 0, frame := (keys.head?.map (·.frame)).getD 0 }
  { axis := a,
    velocity := greatest start ((segments rs).map (fun g => { value := g.velocityPeak, frame := g.start })),
    acceleration :=
      greatest start ((segments rs).map (fun g => { value := g.accelerationPeak, frame := g.start })),
    corner := greatest start (corners rs) }

/-! ## The ceiling (R58, R59) -/

/-- A ceiling with its cause and frame. -/
structure Ceiling where
  rate : Nat
  cause : LimitingCause
  frame : Nat
deriving DecidableEq, Repr

/-- The term of a peak, the largest r with r × peak ≤ 1,000 × limit; left out when the peak is 0 (R58). -/
def linearTerm (p : Peak) (limit : Nat) (cause : LimitingCause) : Option Ceiling :=
  if p.value = 0 then none
  else some { rate := 1000 * limit / p.value, cause := cause, frame := p.frame }

/-- The acceleration term, the largest r with r² × peak ≤ 1,000,000 × limit (R58). -/
def accelerationTerm (p : Peak) (limit : Nat) : Option Ceiling :=
  if p.value = 0 then none
  else some { rate := isqrt (1000000 * limit / p.value), cause := .acceleration, frame := p.frame }

/-- The smaller of two terms; the first when they are equal (R58). -/
def lowerTerm (x y : Option Ceiling) : Option Ceiling :=
  match x, y with
  | some c, some d => if d.rate < c.rate then some d else some c
  | some c, none => some c
  | none, d => d

/-- The axis ceiling (R58). -/
def axisCeiling (lim : AxisLimits) (p : AxisPeaks) : Option Ceiling :=
  lowerTerm (lowerTerm (linearTerm p.velocity lim.vmax .velocity) (accelerationTerm p.acceleration lim.amax))
    (linearTerm p.corner lim.jmax .corner)

/-- The smallest axis ceiling, of the lowest-numbered axis that has it (R59). -/
def lowestCeiling : List (AxisId × Option Ceiling) → Option (AxisId × Ceiling)
  | [] => none
  | (a, c) :: rest =>
    match c, lowestCeiling rest with
    | some c, some (b, d) => if d.rate < c.rate then some (b, d) else some (a, c)
    | some c, none => some (a, c)
    | none, r => r

/-! ## The failure order (R52) -/

/-- The first track of a move, axis tracks in order and then the speed track, for which `f` gives a frame. -/
def firstTrack (m : Move) (f : List Nat → Option Nat) : Option (TrackId × Nat) :=
  allTracks.findSome? (fun t => (f (m.frames t)).map (fun n => (t, n)))

/-- SHORT_TRACK: a present track of one key; the frame of that key. -/
def shortTrackFrame : List Nat → Option Nat
  | [f] => some f
  | _ => none

/-- SPAN: a present track that does not begin at the first frame and end at the last. -/
def spanFrame (first last : Nat) (frames : List Nat) : Option Nat :=
  match frames.head?, frames.getLast? with
  | some f, some l => if f ≠ first then some f else if l ≠ last then some l else none
  | _, _ => none

/-- AXIS_UNSET: the lowest present axis that was read as unset, with its track's first frame. -/
def unsetAxis (m : Move) (limits : List AxisLimits) : Option (AxisId × Nat) :=
  m.presentAxes.findSome? (fun a =>
    if limits.any (fun l => decide (l.axis = a) && l.unset) then
      some (a, ((m.axisTrack a).head?.map (·.frame)).getD 0)
    else none)

/-- Reasons 1 to 4 of R52. -/
def formFailure (m : Move) (limits : List AxisLimits) : Option Failure :=
  if m.presentAxes.isEmpty then some { reason := .emptyMove, track := none, frame := 0 }
  else
    match firstTrack m shortTrackFrame with
    | some (t, f) => some { reason := .shortTrack, track := some t, frame := f }
    | none =>
      match firstTrack m (spanFrame m.first m.last) with
      | some (t, f) => some { reason := .span, track := some t, frame := f }
      | none =>
        (unsetAxis m limits).map
          (fun q => { reason := .axisUnset, track := some (.axis q.1), frame := q.2 })

/-! ## The result of a check -/

/-- What a check ends in. -/
inductive CheckResult where
  | certified (s : Summary)
  | failed (f : Failure)
deriving DecidableEq, Repr

/-- The peaks of the present axis tracks, in axis order (R57). -/
def peaksOf (m : Move) (as : List AxisId) : List AxisPeaks := as.map (fun a => axisPeaks a (m.axisTrack a))

/-- The extents of some axis tracks, in axis order (R61). -/
def extentsOf (m : Move) (as : List AxisId) : List Extent := as.map (fun a => extentOf a (m.axisTrack a))

/-- The ceiling of each axis whose peaks are formed, with the limits the check read. -/
def ceilings (limits : List AxisLimits) (peaks : List AxisPeaks) : List (AxisId × Option Ceiling) :=
  peaks.map (fun p =>
    (p.axis, match limits.find? (fun l => decide (l.axis = p.axis)) with
             | some l => axisCeiling l p
             | none => none))

/-- The axis and the frame of a move ceiling below 1,000 mfps: reason 5 of R52. -/
def tooSlow (limits : List AxisLimits) (peaks : List AxisPeaks) : Option Failure :=
  match lowestCeiling (ceilings limits peaks) with
  | some (a, c) =>
    if c.rate < 1000 then some { reason := .tooSlow, track := some (.axis a), frame := c.frame } else none
  | none => none

/-- The check summary that running peaks and extents become (R59, R62). -/
def summaryOf (m : Move) (limits : List AxisLimits) (peaks : List AxisPeaks) (extents : List Extent) :
    Summary :=
  let device : Summary :=
    { ceiling := 300000, limitingAxis := .device, cause := .deviceMax, frame := m.first, extents := extents }
  match lowestCeiling (ceilings limits peaks) with
  | some (a, c) =>
    if 300000 < c.rate then device
    else { ceiling := c.rate, limitingAxis := .axis a, cause := c.cause, frame := c.frame, extents := extents }
  | none => device

/-- The result of checking a move against the limits read (R52, R59, R61, R62). -/
def checkResult (m : Move) (limits : List AxisLimits) : CheckResult :=
  match formFailure m limits with
  | some f => .failed f
  | none =>
    match tooSlow limits (peaksOf m m.presentAxes) with
    | some f => .failed f
    | none =>
      .certified (summaryOf m limits (peaksOf m m.presentAxes) (extentsOf m m.presentAxes))

/-! ## The work of a check (R49, R51, R52, R61) -/

/-- One piece of the engine's work: the peaks of the next axis track, or, once every track has its peaks and
the move ceiling is 1,000 or above, the extent of the next one. Reasons 1 to 4 of R52 come before any
peak, so a move that fails one of them has none formed. R49 names the running peaks and R51 their order; that
a piece is one track's whole result is a DESIGN CHOICE (entry 23). -/
def CheckRun.work (m : Move) (c : CheckRun) : CheckRun :=
  if (formFailure m c.limits).isSome then c
  else
    match m.presentAxes.drop c.peaks.length with
    | a :: _ => { c with peaks := c.peaks ++ [axisPeaks a (m.axisTrack a)] }
    | [] =>
      if (tooSlow c.limits c.peaks).isSome then c
      else
        match m.presentAxes.drop c.extents.length with
        | a :: _ => { c with extents := c.extents ++ [extentOf a (m.axisTrack a)] }
        | [] => c

/-- Some pieces of the engine's work. -/
def CheckRun.works (m : Move) : Nat → CheckRun → CheckRun
  | 0, c => c
  | n + 1, c => CheckRun.works m n (c.work m)

/-- All the work that is left: at most sixteen tracks' peaks and as many extents. -/
def CheckRun.finish (m : Move) (c : CheckRun) : CheckRun := c.works m 32

/-- What the running peaks of a check become at its end: the failure of R52, or the check summary (R49, R62,
R63). -/
def CheckRun.result (m : Move) (c : CheckRun) : CheckResult :=
  match formFailure m c.limits with
  | some f => .failed f
  | none =>
    match tooSlow c.limits c.peaks with
    | some f => .failed f
    | none => .certified (summaryOf m c.limits c.peaks c.extents)

/-- The limits a check reads of an axis (R51). -/
def limitsOf (a : AxisId) (r : AxisRecord) : AxisLimits :=
  { axis := a, vmax := r.vmax, amax := r.amax, jmax := r.jmax, unset := r.unset }

/-- The bound on a check in ticks: 10, plus 1 for every 64 keys, rounded up (R51). -/
def checkBound (m : Move) : Nat := 10 + ((allTracks.map m.keyCount).sum + 63) / 64

end Sys2Proof.Machine
end

