-- ==== Sys2Proof/Machine/Flags.lean ====
section
/-! DEFINITION. The event flags and masks of the links, the attention output, the status byte, and the
answers a link makes ready (sections 10.3 and 10.6). -/

namespace Sys2Proof.Machine

/-! ## Events (R189 to R191) -/

/-- The number of an event kind, counting INIT_DONE as 0 (R192). -/
def EventKind.index : EventKind → Nat
  | .initDone => 0
  | .checkDone => 1
  | .passAtStart => 2
  | .passEnded => 3
  | .passHeld => 4
  | .stepReady => 5
  | .homeDone => 6
  | .homeFailed => 7
  | .parkDone => 8
  | .axisTrip => 9
  | .estop => 10
  | .estopClear => 11
  | .supplyLow => 12
  | .supplyOk => 13
  | .syncLost => 14
  | .syncRelock => 15
  | .transferTimeout => 16

/-- The flag bit of an event kind. -/
def EventKind.bit (k : EventKind) : EventBits := 1#17 <<< k.index

/-- A flag becomes SET on a link. -/
def Link.raise (k : EventKind) (x : Link) : Link := { x with flags := x.flags ||| k.bit }

/-- An event raised by a block: its flag becomes SET on both links, whatever the masks (R189). -/
def State.raise (k : EventKind) (s : State) : State := s.onLinks (Link.raise k)

/-- TRANSFER_TIMEOUT sets the flag of the one link whose transfer timed out (R189). -/
def State.raiseOn (l : LinkId) (k : EventKind) (s : State) : State := s.onLink l (Link.raise k)

/-- The flags as EVENTS_READ returns them: CLEAR where the kind is MASKED (R190). -/
def Link.visibleFlags (x : Link) : EventBits := x.flags &&& x.mask

/-- The attention output: at least one flag is both SET and UNMASKED (R191). -/
def Link.attention (x : Link) : Bool := decide (x.visibleFlags ≠ 0)

/-! ## The status byte (R181) -/

/-- The edit unit is WORKING for the other link. -/
def State.busyFor (s : State) (l : LinkId) : Bool :=
  match s.edit with
  | some r => decide (r.link ≠ l)
  | none => false

/-- The status byte of a response of link `l`, formed from the part as it stands when the response's first
byte is clocked out (R180): bit 7 always clear, then INIT, ILLEGAL, FRAME, REFUSED, BUSY, RANGE_RESET and
ATTENTION (R193). INIT, BUSY and ATTENTION are the part's at that moment, the other bits the command's. The
response to RESET is formed so too: an unmasked event raised between the soft reset and that moment sets its
ATTENTION (R181), which R188 has clear. DESIGN CHOICE (entry 44). -/
def State.statusByte (s : State) (l : LinkId) (b : Status) : Byte :=
  (if s.phase = .initializing then 0x40#8 else 0) ||| (if b.illegal then 0x20#8 else 0) |||
  (if b.frame then 0x10#8 else 0) ||| (if b.refused then 0x08#8 else 0) |||
  (if s.busyFor l then 0x04#8 else 0) ||| (if b.rangeReset then 0x02#8 else 0) |||
  (if (s.link l).attention then 0x01#8 else 0)

/-! ## Answers -/

/-- An answer becomes ready on a link. -/
def State.answer (s : State) (l : LinkId) (a : Answer) : State :=
  s.onLink l (fun k => { k with answer := some a })

/-- A command is accepted: reason NONE and its results (R181). -/
def State.accept (s : State) (l : LinkId) (results : Results) (rangeReset : Bool) : State :=
  s.answer l
    (.response { illegal := false, frame := false, refused := false, rangeReset := rangeReset } .none results)

/-- A command is refused with its reason, and the results its rule gives for the refusal (R181). -/
def State.refuseWith (s : State) (l : LinkId) (r : Reason) (results : Results) (rangeReset : Bool) :
    State :=
  s.answer l
    (.response { illegal := false, frame := false, refused := true, rangeReset := rangeReset } r results)

/-- A command that is no store edit is refused without results. -/
def State.refuse (s : State) (l : LinkId) (r : Reason) : State := s.refuseWith l r .none false

/-- A command that is no store edit is accepted. -/
def State.ok (s : State) (l : LinkId) (results : Results) : State := s.accept l results false

/-- The partner deselects (R177, R23, R184, R186): a partial item and a held item are discarded, an
answer not yet sent is lost, and a collection is ended; an operation or a buffered block goes on
without its answer. -/
def State.deselect (s : State) (l : LinkId) : State :=
  let s1 := s.onLink l (fun k =>
    { k with item := none, held := none, answer := none, collection := .none, resetDue := false,
             buffer := k.buffer.map (fun b => { b with ackDue := false }) })
  { s1 with edit := s.edit.map (fun r => if r.link = l then { r with answerDue := false } else r) }

/-- The answer of a command taken during initialization: REFUSED clear, reason NONE and no results (R20, R187).
R20 and R187 have it answered with INIT set, and R181 has INIT formed when the byte is sent: the byte has INIT
set while initialization lasts, and clear when its first byte is clocked out after INITIALIZATION_END. DESIGN
CHOICE (entry 47). -/
def State.answerInit (s : State) (l : LinkId) : State :=
  s.answer l
    (.response { illegal := false, frame := false, refused := false, rangeReset := false } .none .none)

/-- A command frame that passes R178 is taken. It begins a selection, so the one before it has ended
(R177, entry 9). During initialization it is answered without execution (R20); otherwise `body` is
its effect. -/
def State.taken (s : State) (l : LinkId) (body : State → State) : State :=
  match s.phase with
  | .initializing => (s.deselect l).answerInit l
  | .serving => body (s.deselect l)

end Sys2Proof.Machine
end

