-- ==== Sys2Proof/Machine/CheckEngine.lean ====
section
/-! DEFINITION. The check engine on the state: its end and its cancellation, and the un-certification of
moves (R12, R28, R62 to R67, R85). -/

namespace Sys2Proof.Machine

/-- The failure record of a cancelled check (R28). -/
def cancelled : Failure := { reason := .cancelled, track := none, frame := 0 }

/-- A move whose check is cancelled: OPEN with the failure record CANCELLED. -/
def Move.cancel (m : Move) : Move := { m with state := .opened, failure := some cancelled }

/-- A READY move that loses its certification: OPEN, its summary dropped, no failure record. -/
def Move.uncertified (m : Move) : Move :=
  { m with state := .opened, summary := none, failure := none, uncertify := false }

/-- The check on a slot is cancelled: the engine becomes IDLE, the move OPEN with CANCELLED, and
CHECK_DONE is raised (R64, R65, R67). -/
def State.cancelCheck (s : State) (slot : Nat) : State :=
  { s with check := none }.onMove slot Move.cancel |>.raise .checkDone

/-- A content change taken by the edit unit acts on the move's state (R28). -/
def State.contentChange (s : State) (slot : Nat) : State :=
  match s.move slot with
  | some m =>
    match m.state with
    | .checking => s.cancelCheck slot
    | .ready => s.onMove slot Move.uncertified
    | .opened => s
    | .bound => s
  | none => s

/-- The end of a check: the work that is left is done, and the running peaks become the summary, READY, or are
discarded for the failure record, OPEN; the engine is IDLE and CHECK_DONE is raised (R49, R62, R63, R67). While
a soft reset waits for the store operation no check ends: the reset cancels it as it takes effect, and of
the two only the store operation runs to its end (R66, R68). -/
def State.endCheck (s : State) : State :=
  match s.check with
  | none => s
  | some c =>
    if s.resetWaiting then s
    else
      let s1 := { s with check := none }.onMove c.slot (fun m =>
        match (c.finish m).result m with
        | .certified sum => { m with state := .ready, summary := some sum, failure := none }
        | .failed f => { m with state := .opened, summary := none, failure := some f })
      s1.raise .checkDone

/-- The check engine's tick: four pieces of its work (entry 23), one more tick of its time, and the end of the
check, where no soft reset waits, when its bound is reached (R51, entry 7). The bound leaves at least nine ticks before the last, so the
work of sixteen tracks is done by then. -/
def State.tickCheck (s : State) : State :=
  match s.check with
  | none => s
  | some c =>
    match s.move c.slot with
    | none => s
    | some m =>
      let s1 := { s with check := some { c.works m 4 with elapsed := c.elapsed + 1 } }
      if checkBound m ≤ c.elapsed + 1 then s1.endCheck else s1

/-- What a change of certified limits on an axis does to one move with a present track on it (R85). -/
def Move.limitsChanged (m : Move) : Move :=
  match m.state with
  | .ready => m.uncertified
  | .checking => m.cancel
  | .bound => { m with uncertify := true }
  | .opened => m

/-- The move under check has a present track on the axis. -/
def State.checkTouches (s : State) (a : AxisId) : Bool :=
  match s.check with
  | some c =>
    (match s.move c.slot with
     | some m => m.hasTrack a
     | none => false)
  | none => false

/-- A change of certified limits on an axis acts on every move with a present track on it, and cancels
the check of a CHECKING one (R65, R85). -/
def State.limitsChanged (s : State) (a : AxisId) : State :=
  let s1 := s.onMoves (fun m => if m.hasTrack a then m.limitsChanged else m)
  if s.checkTouches a then { s1 with check := none }.raise .checkDone else s1

end Sys2Proof.Machine
end

