-- ==== Sys2Proof/Machine/Operands.lean ====
section
/-! DEFINITION. The operands of the commands: the values an enumeration byte stands for (R192), the
tests of a label, an axis record (R83) and a pass record (R129, test 2), and the keys of a data block
(section 11.3). -/

namespace Sys2Proof.Machine

/-! ## Numbers on the wire (file 11) -/

/-- An unsigned number, most significant byte first. -/
def beNat (bs : List Byte) : Nat := bs.foldl (fun n b => n * 256 + b.toNat) 0

/-- A two's complement number of n bytes, most significant byte first. -/
def beInt (bs : List Byte) : Int :=
  if beNat bs < 2 ^ (8 * bs.length - 1) then (beNat bs : Int)
  else (beNat bs : Int) - (2 ^ (8 * bs.length) : Nat)

/-! ## Enumerations and names (R192) -/

/-- The track a byte names: 00h to 0Fh for axis 0 to axis 15, 10h for SPEED. -/
def trackOf (n : Nat) : Option TrackId :=
  match axisOf n with
  | some a => some (.axis a)
  | none => if n = 16 then some .speed else none

/-- 00h FORWARD, 01h REVERSE. -/
def directionOf : Nat → Option Direction
  | 0 => some .forward
  | 1 => some .reverse
  | _ => none

/-- 00h MASTER, 01h FOLLOWER, 02h STEP. -/
def syncModeOf : Nat → Option SyncMode
  | 0 => some .master
  | 1 => some .follower
  | 2 => some .step
  | _ => none

/-- 00h COMMAND, 01h TRIGGER. -/
def rollSourceOf : Nat → Option RollSource
  | 0 => some .command
  | 1 => some .trigger
  | _ => none

/-- 00h NO or OFF, 01h YES or ON. -/
def flagOf : Nat → Option Bool
  | 0 => some false
  | 1 => some true
  | _ => none

/-- 00h FLAG, 01h STOP. -/
def supplyActionOf : Nat → Option SupplyAction
  | 0 => some .flag
  | 1 => some .stop
  | _ => none

/-- 00h SWITCH, 01h STOP. -/
def homeMethodOf : Nat → Option HomeMethod
  | 0 => some .switch
  | 1 => some .stop
  | _ => none

/-- 00h NEGATIVE, 01h POSITIVE. -/
def homeDirectionOf : Nat → Option HomeDirection
  | 0 => some .negative
  | 1 => some .positive
  | _ => none

/-- A label of at most 16 characters, each 20h to 7Eh (R3, R29). -/
def labelOk (label : List Byte) : Bool :=
  decide (label.length ≤ 16) && label.all (fun b => decide (0x20 ≤ b.toNat ∧ b.toNat ≤ 0x7E))

/-! ## The axis record (R82, R83) -/

/-- The ranges of R82, taken with the record's own fields where a range depends on them (R83). -/
def recordInRange (r : RecordArgs) : Bool :=
  decide (countMin ≤ r.softLow) && decide (r.softLow < r.softHigh) && decide (r.softHigh ≤ countMax) &&
  decide (r.vmax ≤ r.pmax * 2000) && decide (r.amax ≤ 1000000000) && decide (r.jmax ≤ 4000000) &&
  decide (r.vc ≤ r.vmax) && decide (r.ac ≤ r.amax) && decide (r.pmax ≤ 2000) &&
  decide (1 ≤ r.feMax ∧ r.feMax ≤ countMax) && decide (0 ≤ r.feWarn ∧ r.feWarn ≤ r.feMax) &&
  decide (r.homeSpeed ≤ r.vc) && decide (1 ≤ r.homeSpeed ∨ r.vc = 0) &&
  decide (r.softLow ≤ r.homeOffset ∧ r.homeOffset ≤ r.softHigh) &&
  decide (1 ≤ r.searchTravel ∧ r.searchTravel ≤ 2147483647) && decide (r.settleTime ≤ 4000)

/-- The axis record that AXIS_SET carries, when it passes every test of R83. -/
def recordOf (r : RecordArgs) : Option AxisRecord :=
  match homeMethodOf r.homeMethod, homeDirectionOf r.homeDirection with
  | some hm, some hd =>
    if recordInRange r then
      some { softLow := r.softLow, softHigh := r.softHigh, vmax := r.vmax, amax := r.amax,
             jmax := r.jmax, vc := r.vc, ac := r.ac, pmax := r.pmax, feMax := r.feMax.toNat,
             feWarn := r.feWarn.toNat, homeMethod := hm, homeDirection := hd,
             homeSpeed := r.homeSpeed, homeOffset := r.homeOffset,
             searchTravel := r.searchTravel.toNat, settleTime := r.settleTime }
    else none
  | _, _ => none

/-! ## The pass record (R128, R129 test 2) -/

/-- The axis set, in increasing order, of a list that is not empty, holds at most 16 pairs, names no axis
above 15 and none twice, and has each offset in −2^30 to 2^30 (R128). Entry 17: the order of the pairs
on the wire is free. -/
def passAxesOf (ps : List (Nat × Int)) : Option (List PassAxis) :=
  if ps.isEmpty || decide (16 < ps.length) || ps.any (fun q => decide (15 < q.1)) ||
      !decide ((ps.map (·.1)).Nodup) ||
      ps.any (fun q => decide (q.2 < -1073741824 ∨ 1073741824 < q.2)) then none
  else some (allAxes.filterMap (fun a =>
    (ps.find? (fun q => decide (q.1 = a.val))).map (fun q => { axis := a, offset := q.2 })))

/-- The pass rate behind its presence byte: absent, or 1,000 to 300,000 mfps (R128, R192). -/
def passRateOf (presence rate : Nat) : Option (Option Nat) :=
  match presence with
  | 0 => some none
  | 1 => if 1000 ≤ rate ∧ rate ≤ 300000 then some (some rate) else none
  | _ => none

/-- The step fields of a STEP pass within their ranges (R128). -/
def stepFieldsOf (p : PassArgs) : Option StepFields :=
  if 200 ≤ p.stepTime ∧ p.stepTime ≤ 20000 ∧ p.stepSettle ≤ 4000 ∧ 1 ≤ p.exposureTime ∧
      p.exposureTime ≤ 60000 then
    match p.exposureControl, flagOf p.stepInput with
    | 0, some e =>
      some { stepTime := p.stepTime, settle := p.stepSettle, exposure := .timed p.exposureTime,
             inputEnable := e }
    | 1, some e =>
      some { stepTime := p.stepTime, settle := p.stepSettle, exposure := .handshake p.exposureTime,
             inputEnable := e }
    | _, _ => none
  else none

/-- The step fields as the record keeps them: none for a MASTER or FOLLOWER pass, whose step fields are
not tested (R129). -/
def stepPartOf (mode : SyncMode) (p : PassArgs) : Option (Option StepFields) :=
  match mode with
  | .step => (stepFieldsOf p).map some
  | _ => some none

/-- The pass record that PASS_ARM carries, when every field passes test 2 of R129. -/
def passRecordOf (p : PassArgs) : Option PassRecord := do
  let direction ← directionOf p.direction
  let mode ← syncModeOf p.mode
  let rate ← passRateOf p.ratePresence p.rate
  let axes ← passAxesOf p.axes
  let source ← rollSourceOf p.rollSource
  let step ← stepPartOf mode p
  if slotOk p.slot && decide (p.first < p.last) && decide (p.last ≤ 65535) && decide (p.lead ≤ 255) &&
      decide (p.trail ≤ 255) && decide (20 ≤ p.holdRamp ∧ p.holdRamp ≤ 20000) &&
      decide (20 ≤ p.stopRamp ∧ p.stopRamp ≤ 20000) then
    some { slot := p.slot, first := p.first, last := p.last, direction := direction, mode := mode,
           rate := rate, axes := axes, lead := p.lead, trail := p.trail, holdRamp := p.holdRamp,
           stopRamp := p.stopRamp, rollSource := source, step := step }
  else none

/-! ## The keys of a data block (section 11.3, R35, R36) -/

/-- The key size in bytes: 13 for an axis key, 6 for a speed key. -/
def keySize : TrackId → Nat
  | .axis _ => 13
  | .speed => 6

/-- An axis key as its bytes give it, its slope mode byte not yet tested. -/
structure RawAxisKey where
  frame : Nat
  value : Int
  mode : Nat
  inSlope : Int
  outSlope : Int
deriving DecidableEq, Repr

/-- The axis key in 13 bytes. -/
def rawAxisKey (bs : List Byte) : RawAxisKey :=
  { frame := beNat (bs.take 2), value := beInt ((bs.drop 2).take 4), mode := beNat ((bs.drop 6).take 1),
    inSlope := beInt ((bs.drop 7).take 3), outSlope := beInt ((bs.drop 10).take 3) }

/-- The speed key in 6 bytes. -/
def rawSpeedKey (bs : List Byte) : SpeedKey :=
  { frame := beNat (bs.take 2), rate := beNat ((bs.drop 2).take 4) }

/-- n units of k bytes each. -/
def chunks (k : Nat) : Nat → List Byte → List (List Byte)
  | 0, _ => []
  | n + 1, bs => bs.take k :: chunks k n (bs.drop k)

/-- The axis key a raw key stands for, when its value and mode are in range (R35 test 5); slopes are read
only for a GIVEN key (R4). -/
def axisKeyOf (k : RawAxisKey) : Option AxisKey :=
  if inCount k.value then
    match k.mode with
    | 0 => some { frame := k.frame, value := k.value, mode := .auto }
    | 1 => some { frame := k.frame, value := k.value, mode := .flat }
    | 2 => some { frame := k.frame, value := k.value, mode := .given k.inSlope k.outSlope }
    | _ => none
  else none

/-- The speed key, when its rate is legal (R5, R35 test 5). -/
def speedKeyOf (k : SpeedKey) : Option SpeedKey :=
  if 1000 ≤ k.rate ∧ k.rate ≤ 300000 then some k else none

/-- Every element's value, or none when one of them has none. -/
def allSome {α β : Type} (f : α → Option β) : List α → Option (List β)
  | [] => some []
  | x :: xs =>
    match f x, allSome f xs with
    | some y, some ys => some (y :: ys)
    | _, _ => none

/-- A list is in strictly increasing order. -/
def increasing : List Nat → Bool
  | a :: b :: rest => decide (a < b) && increasing (b :: rest)
  | _ => true

/-- The frames of a block's keys, read by the key size of the track. -/
def DataBlock.frames (b : DataBlock) (t : TrackId) : List Nat :=
  (chunks (keySize t) b.count b.body).map (fun bs => beNat (bs.take 2))

/-- The keys of a block for a track, when every key is within its ranges (R35 test 5). -/
def DataBlock.keys (b : DataBlock) : TrackId → Option BlockKeys
  | .axis _ => (allSome axisKeyOf ((chunks 13 b.count b.body).map rawAxisKey)).map .axis
  | .speed => (allSome speedKeyOf ((chunks 6 b.count b.body).map rawSpeedKey)).map .speed

end Sys2Proof.Machine
end

