-- ==== Sys2Proof/Machine/EditOps.lean ====
section
/-! DEFINITION. The edit unit (file 02): the tests of every store edit in the order of R26, what an edit
does as it is taken, what a timed operation does at its end, data blocks, end markers, and the arbiter
of R24. -/

namespace Sys2Proof.Machine

/-! ## The answer of the edit unit to one edit -/

/-- What the edit unit decides as it takes a store edit (R25). -/
inductive Verdict where
  /-- Refused, with the results the rule gives for the refusal. -/
  | refuse (r : Reason) (results : Results)
  /-- An instant command: the state it leaves and its results. -/
  | accept (s : State) (results : Results)
  /-- A timed operation begins: the state change due at its taking is made. -/
  | timed (s : State) (op : EditOp)
deriving DecidableEq, Repr

/-- Refused without results. -/
abbrev refuses (r : Reason) : Verdict := .refuse r .none

/-! ## Tests common to the edits (R26, R27) -/

/-- An expected generation is present and differs from the move's (R27). -/
def Move.staleFor (m : Move) (exp : Option Nat) : Bool :=
  match exp with
  | some g => decide (g ≠ m.generation)
  | none => false

/-- STALE, with the generation the move holds (R27). -/
def refusesStale (m : Move) : Verdict := .refuse .stale (.generation m.generation)

/-- A transfer names a slot and a track. -/
def Transfer.names (slot : Nat) (t : TrackId) : Transfer → Bool
  | .put s u _ _ => decide (s = slot ∧ u = t)
  | .get s u _ _ _ _ _ => decide (s = slot ∧ u = t)

/-- A put transfer names a slot and a track. -/
def Transfer.putNames (slot : Nat) (t : TrackId) : Transfer → Bool
  | .put s u _ _ => decide (s = slot ∧ u = t)
  | .get _ _ _ _ _ _ _ => false

/-- A put transfer names a slot, on any track. -/
def Transfer.putOn (slot : Nat) : Transfer → Bool
  | .put s _ _ _ => decide (s = slot)
  | .get _ _ _ _ _ _ _ => false

/-- The open transfer of a link, if any, has a property. -/
def State.transferHas (s : State) (l : LinkId) (f : Transfer → Bool) : Bool :=
  match (s.link l).transfer with
  | some t => f t
  | none => false

/-- The first key of a move outside a span: the lowest axis track, then the speed track, and within a track
the lowest frame (R31). -/
def Move.outside (m : Move) (first last : Nat) : Option (TrackId × Nat) :=
  allTracks.findSome? (fun t =>
    ((m.frames t).find? (fun f => decide (f < first ∨ last < f))).map (fun f => (t, f)))

/-- A span an edit may give: the first frame below the last, both on two bytes (R3, R29, R31). -/
def spanOk (first last : Nat) : Bool := decide (first < last ∧ last ≤ 65535)

/-- A frame number of R39 and R40. -/
def frameOk (f : Nat) : Bool := decide (f ≤ 65535)

/-- The move after a content change that is an instant edit: generation raised (R14). -/
def Move.changed (f : Move → Move) (m : Move) : Move :=
  { f m with generation := nextGeneration m.generation }

/-- A move as MOVE_NEW creates it, and a copy's destination as it is taken (R29, R43). -/
def Move.fresh (label : List Byte) (first last : Nat) : Move :=
  { state := .opened, isProtected := false, generation := 0, label := label, first := first,
    last := last, axisTracks := Vector.replicate 16 [], speedTrack := [], summary := none,
    failure := none, uncertify := false }

/-! ## Instant edits (R29, R31 to R33, R39, R40, R47, R48) -/

/-- MOVE_NEW (R29). -/
def State.takeMoveNew (s : State) (slot first last : Nat) (label : List Byte) : Verdict :=
  if !(decide (slot ≤ 64) && spanOk first last && labelOk label) then refuses .range
  else if slot = 0 then
    match s.lowestEmpty with
    | none => refuses .full
    | some n => .accept (s.setMove n (some (Move.fresh label first last))) (.slotGeneration n 0)
  else if (s.move slot).isSome then refuses .state
  else .accept (s.setMove slot (some (Move.fresh label first last))) (.slotGeneration slot 0)

/-- MOVE_SPAN (R31). -/
def State.takeMoveSpan (s : State) (slot first last : Nat) (exp : Option Nat) : Verdict :=
  if !(slotOk slot && spanOk first last) then refuses .range
  else
    match s.move slot with
    | none => refuses .state
    | some m =>
      if m.staleFor exp then refusesStale m
      else if m.state = .bound then refuses .held
      else
        match m.outside first last with
        | some (t, f) => .refuse .spanKey (.spanKey t f)
        | none =>
          if m.isProtected then refuses .isProtected
          else if m.first = first ∧ m.last = last then .accept s (.generation m.generation)
          else .accept ((s.contentChange slot).onMove slot
              (Move.changed (fun x => { x with first := first, last := last })))
            (.generation (nextGeneration m.generation))

/-- MOVE_LABEL (R32). -/
def State.takeMoveLabel (s : State) (slot : Nat) (label : List Byte) (exp : Option Nat) : Verdict :=
  if !(slotOk slot && labelOk label) then refuses .range
  else
    match s.move slot with
    | none => refuses .state
    | some m =>
      if m.staleFor exp then refusesStale m
      else if m.state = .bound then refuses .held
      else if m.isProtected then refuses .isProtected
      else if m.label = label then .accept s (.generation m.generation)
      else .accept ((s.contentChange slot).onMove slot (Move.changed (fun x => { x with label := label })))
        (.generation (nextGeneration m.generation))

/-- KEYS_PUT opens a put transfer (R33, R34); get closed by reset becomes NO (R186). -/
def State.takeKeysPut (s : State) (l : LinkId) (slot track : Nat) (exp : Option Nat) : Verdict :=
  match trackOf track with
  | none => refuses .range
  | some t =>
    if !slotOk slot then refuses .range
    else if (s.link l).transfer.isSome then refuses .state
    else
      match s.move slot with
      | none => refuses .state
      | some m =>
        if m.staleFor exp then refusesStale m
        else if m.state = .bound then refuses .held
        else if s.transferHas l.other (Transfer.names slot t) then refuses .trackInUse
        else if m.isProtected then refuses .isProtected
        else .accept
          (s.onLink l (fun k => { k with transfer := some (.put slot t 0 0), closedByReset := false }))
          (.keysPut m.generation (m.keyCount t) s.free)

/-- KEY_MARK_FIRST (R39). -/
def State.takeMarkFirst (s : State) (l : LinkId) (slot track frame : Nat) (exp : Option Nat) : Verdict :=
  match trackOf track with
  | none => refuses .range
  | some t =>
    if !(slotOk slot && frameOk frame) then refuses .range
    else
      match s.move slot with
      | none => refuses .state
      | some m =>
        if m.staleFor exp then refusesStale m
        else .accept (s.onLink l (fun k => { k with marks := .first slot t frame }))
          (.generation m.generation)

/-- KEY_MARK_LAST (R40). -/
def State.takeMarkLast (s : State) (l : LinkId) (frame : Nat) : Verdict :=
  match (s.link l).marks with
  | .absent => refuses .sequence
  | .first slot t f =>
    if !(frameOk frame && decide (f ≤ frame)) then refuses .range
    else .accept (s.onLink l (fun k => { k with marks := .both slot t f frame })) .none
  | .both slot t f _ =>
    if !(frameOk frame && decide (f ≤ frame)) then refuses .range
    else .accept (s.onLink l (fun k => { k with marks := .both slot t f frame })) .none

/-- MOVE_PROTECT (R47). -/
def State.takeProtect (s : State) (slot : Nat) (exp : Option Nat) : Verdict :=
  if !slotOk slot then refuses .range
  else
    match s.move slot with
    | none => refuses .state
    | some m =>
      if m.staleFor exp then refusesStale m
      else if m.state = .checking then refuses .state
      else if m.isProtected then .accept s (.generation m.generation)
      else .accept (s.onMove slot (Move.changed (fun x => { x with isProtected := true })))
        (.generation (nextGeneration m.generation))

/-- MOVE_UNPROTECT (R48). -/
def State.takeUnprotect (s : State) (slot : Nat) (exp : Option Nat) : Verdict :=
  if !slotOk slot then refuses .range
  else
    match s.move slot with
    | none => refuses .state
    | some m =>
      if m.staleFor exp then refusesStale m
      else if m.isProtected then
        .accept (s.onMove slot (Move.changed (fun x => { x with isProtected := false })))
          (.generation (nextGeneration m.generation))
      else .accept s (.generation m.generation)

/-! ## Timed edits as they are taken (R41 to R45) -/

/-- A frame lies in a marked range, both ends included. -/
def inMarks (first last f : Nat) : Bool := decide (first ≤ f ∧ f ≤ last)

/-- KEY_DROP (R41). -/
def State.takeKeyDrop (s : State) (l : LinkId) (exp : Option Nat) : Verdict :=
  match (s.link l).marks with
  | .absent => refuses .sequence
  | .first _ _ _ => refuses .sequence
  | .both slot t first last =>
    match s.move slot with
    | none => refuses .state
    | some m =>
      if m.staleFor exp then refusesStale m
      else if m.state = .bound then refuses .held
      else if s.transferHas l.other (Transfer.putNames slot t) then refuses .trackInUse
      else if m.isProtected then refuses .isProtected
      else .timed (if (m.frames t).any (inMarks first last) then s.contentChange slot else s)
        (.keyDrop slot t first last)

/-- TRACK_CLEAR (R42). -/
def State.takeTrackClear (s : State) (l : LinkId) (slot track : Nat) (exp : Option Nat) : Verdict :=
  match trackOf track with
  | none => refuses .range
  | some t =>
    if !slotOk slot then refuses .range
    else
      match s.move slot with
      | none => refuses .state
      | some m =>
        if m.staleFor exp then refusesStale m
        else if m.state = .bound then refuses .held
        else if s.transferHas l.other (Transfer.putNames slot t) then refuses .trackInUse
        else if m.isProtected then refuses .isProtected
        else .timed (if m.keyCount t = 0 then s else s.contentChange slot) (.trackClear slot t)

/-- MOVE_COPY (R43): the destination becomes OPEN as the command is taken, and receives the tracks at the
end of the operation. -/
def State.takeCopy (s : State) (src dst : Nat) (exp : Option Nat) : Verdict :=
  if !(slotOk src && slotOk dst) then refuses .range
  else
    match s.move src with
    | none => refuses .state
    | some m =>
      if m.staleFor exp then refusesStale m
      else if (s.move dst).isSome then refuses .state
      else if s.free < m.blocks then refuses .full
      else .timed (s.setMove dst (some (Move.fresh m.label m.first m.last))) (.moveCopy src dst)

/-- An open get transfer on a slot has its retired mark set (R44). -/
def Transfer.retire (slot : Nat) : Transfer → Transfer
  | .put s t a i => .put s t a i
  | .get s t g p n r i => .get s t g p n (r || decide (s = slot)) i

/-- Marks that name a slot become absent (R45). -/
def Marks.forget (slot : Nat) : Marks → Marks
  | .absent => .absent
  | .first s t f => if s = slot then .absent else .first s t f
  | .both s t f n => if s = slot then .absent else .both s t f n

/-- MOVE_RETIRE (R44 to R46). -/
def State.takeRetire (s : State) (slot : Nat) (exp : Option Nat) : Verdict :=
  if !slotOk slot then refuses .range
  else
    match s.move slot with
    | none => refuses .state
    | some m =>
      if m.staleFor exp then refusesStale m
      else if m.state = .bound then refuses .held
      else if allLinks.any (fun k => s.transferHas k (Transfer.putOn slot)) then refuses .trackInUse
      else if m.isProtected then refuses .isProtected
      else .timed
        ((if m.state = .checking then s.cancelCheck slot else s).onLinks (fun k =>
          { k with transfer := k.transfer.map (Transfer.retire slot), marks := k.marks.forget slot }))
        (.moveRetire slot)

/-- The edit unit's decision on a store edit of link `l`, IDLE as it takes it. -/
def State.judge (s : State) (l : LinkId) : EditCmd → Verdict
  | .moveNew slot first last label => s.takeMoveNew slot first last label
  | .moveSpan slot first last exp => s.takeMoveSpan slot first last exp
  | .moveLabel slot label exp => s.takeMoveLabel slot label exp
  | .keysPut slot track exp => s.takeKeysPut l slot track exp
  | .keyMarkFirst slot track frame exp => s.takeMarkFirst l slot track frame exp
  | .keyMarkLast frame => s.takeMarkLast l frame
  | .keyDrop exp => s.takeKeyDrop l exp
  | .trackClear slot track exp => s.takeTrackClear l slot track exp
  | .moveCopy src dst exp => s.takeCopy src dst exp
  | .moveRetire slot exp => s.takeRetire slot exp
  | .moveProtect slot exp => s.takeProtect slot exp
  | .moveUnprotect slot exp => s.takeUnprotect slot exp

/-! ## Range marks (R30, R41) -/

/-- A command clears the marks its link holds, whatever its outcome, and reports RANGE_RESET (R30). -/
def EditCmd.resetsRange : EditCmd → Bool
  | .keyMarkFirst _ _ _ _ => false
  | .keyMarkLast _ => false
  | .keyDrop _ => false
  | .moveNew _ _ _ _ => true
  | .moveSpan _ _ _ _ => true
  | .moveLabel _ _ _ => true
  | .keysPut _ _ _ => true
  | .trackClear _ _ _ => true
  | .moveCopy _ _ _ => true
  | .moveRetire _ _ => true
  | .moveProtect _ _ => true
  | .moveUnprotect _ _ => true

/-- A KEY_DROP clears the marks, but for a refusal with BUSY_OTHER or SEQUENCE (R41). -/
def EditCmd.dropClears (r : Reason) : EditCmd → Bool
  | .keyDrop _ => decide (r ≠ .busyOther ∧ r ≠ .sequence)
  | _ => false

/-- The marks of a link as a command with outcome `r` leaves them. -/
def State.afterMarks (s : State) (l : LinkId) (c : EditCmd) (r : Reason) : State :=
  if c.resetsRange || c.dropClears r then s.onLink l (fun k => { k with marks := .absent }) else s

/-- The RANGE_RESET bit of a command's response: it cleared marks the link held (R30). -/
def State.rangeReset (s : State) (l : LinkId) (c : EditCmd) : Bool :=
  c.resetsRange && decide ((s.link l).marks ≠ .absent)

/-! ## A store edit is taken (R22, R23, R25) -/

/-- The edit unit, IDLE, takes a store edit of link `l`. -/
def State.takeEdit (s : State) (l : LinkId) (c : EditCmd) : State :=
  match s.judge l c with
  | .refuse r res => (s.afterMarks l c r).refuseWith l r res (s.rangeReset l c)
  | .accept t res => (t.afterMarks l c .none).accept l res (s.rangeReset l c)
  | .timed t op =>
    { t.afterMarks l c .none with
      edit := some { link := l, op := op, answerDue := true, rangeReset := s.rangeReset l c, elapsed := 0 } }

/-- A store edit arrives (R23): taken at once by an IDLE edit unit, held behind the link's own operation,
refused BUSY_OTHER while the unit works for the other link. -/
def State.storeEdit (s : State) (l : LinkId) (c : EditCmd) : State :=
  match s.edit with
  | none => s.takeEdit l c
  | some r =>
    if r.link = l then s.onLink l (fun k => { k with held := some (.command c) })
    else (s.afterMarks l c .busyOther).refuseWith l .busyOther .none (s.rangeReset l c)

/-! ## Data blocks (R35, R36) -/

/-- An axis key joins a track: it replaces the key of its frame, or is inserted in frame order (R6). -/
def insertAxisKey (k : AxisKey) : List AxisKey → List AxisKey
  | [] => [k]
  | x :: xs =>
    if k.frame < x.frame then k :: x :: xs
    else if k.frame = x.frame then k :: xs
    else x :: insertAxisKey k xs

/-- A speed key joins a track (R6). -/
def insertSpeedKey (k : SpeedKey) : List SpeedKey → List SpeedKey
  | [] => [k]
  | x :: xs =>
    if k.frame < x.frame then k :: x :: xs
    else if k.frame = x.frame then k :: xs
    else x :: insertSpeedKey k xs

/-- The move with a block's keys merged into a track, key by key (R36). A block is read by the track's own
key size, so the two kinds always agree; otherwise nothing is merged. -/
def Move.merge (m : Move) (t : TrackId) (ks : BlockKeys) : Move :=
  match t, ks with
  | .axis a, .axis ks => m.setAxisTrack a (ks.foldl (fun tr k => insertAxisKey k tr) (m.axisTrack a))
  | .speed, .speed ks => { m with speedTrack := ks.foldl (fun tr k => insertSpeedKey k tr) m.speedTrack }
  | .axis _, .speed _ => m
  | .speed, .axis _ => m

/-- The keys of a block. -/
def BlockKeys.count : BlockKeys → Nat
  | .axis ks => ks.length
  | .speed ks => ks.length

/-- The merged track would not fit: more than 2,048 keys, or more blocks than are free or its own (R8). -/
def Move.tooFull (m : Move) (free : Nat) (t : TrackId) (ks : BlockKeys) : Bool :=
  decide (2048 < (m.merge t ks).keyCount t ∨
    free + blocksOf (m.keyCount t) < blocksOf ((m.merge t ks).keyCount t))

/-- The tests of R35, in order: the refusal, or the operation that begins. -/
def State.judgeBlock (s : State) (l : LinkId) (b : DataBlock) : Reason ⊕ EditOp :=
  match (s.link l).transfer with
  | none => .inl .noTransfer
  | some (.get _ _ _ _ _ _ _) => .inl .noTransfer
  | some (.put slot t _ _) =>
    match s.move slot with
    | none => .inl .noTransfer
    | some m =>
      if m.state = .bound then .inl .held
      else if !increasing (b.frames t) then .inl .order
      else if (b.frames t).any (fun f => decide (f < m.first ∨ m.last < f)) then .inl .spanKey
      else
        match b.keys t with
        | none => .inl .range
        | some ks =>
          if m.tooFull s.free t ks then .inl .full
          else if m.isProtected then .inl .isProtected
          else .inr (.dataBlock slot t ks)

/-- The idle time of a put transfer is set to 0 (R38). -/
def Transfer.restart : Transfer → Transfer
  | .put s t a _ => .put s t a 0
  | .get s t g p n r i => .get s t g p n r i

/-- A data block is acknowledged: the idle time restarts (R38). It restarts as well where the acknowledgement was lost
by deselection, at the moment at which it would have been sent: R38 and R184 speak of the acknowledgement,
R24 tells "sent" from "lost", and none says. DESIGN CHOICE (entry 45). -/
def State.acknowledge (s : State) (l : LinkId) (due : Bool) (a : Answer) : State :=
  let s1 := s.onLink l (fun k => { k with transfer := k.transfer.map Transfer.restart })
  if due then s1.answer l a else s1

/-- The slot an operation edits. -/
def EditOp.slot : EditOp → Nat
  | .dataBlock s _ _ => s
  | .keyDrop s _ _ _ => s
  | .trackClear s _ => s
  | .moveCopy s _ => s
  | .moveRetire s => s

/-- The edit unit, IDLE, takes a data block of link `l` (R25, R35, R36). -/
def State.takeBlock (s : State) (l : LinkId) (b : DataBlock) (due : Bool) : State :=
  match s.judgeBlock l b with
  | .inl r => s.acknowledge l due (.blockRefused r)
  | .inr op =>
    { s.contentChange op.slot with
      edit := some { link := l, op := op, answerDue := due, rangeReset := false, elapsed := 0 } }

/-! ## End markers (R37) -/

/-- The edit unit, IDLE, takes an end marker of link `l`. -/
def State.takeEndMarker (s : State) (l : LinkId) : State :=
  match (s.link l).transfer with
  | some (.put _ _ accepted _) =>
    (s.onLink l (fun k => { k with transfer := none })).answer l (.close accepted)
  | some (.get _ _ _ _ _ _ _) => s.answer l .closeRefused
  | none => s.answer l .closeRefused

/-- An end marker arrives: taken at once by an IDLE edit unit, held otherwise. -/
def State.endMarkerArrives (s : State) (l : LinkId) : State :=
  match s.edit with
  | none => s.takeEndMarker l
  | some _ => s.onLink l (fun k => { k with held := some .endMarker })

/-! ## The arbiter (R24) -/

/-- The edit unit takes the first waiting item of a link: a buffered data block, then a held item. -/
def State.takeWaiting (s : State) (l : LinkId) : Option State :=
  match (s.link l).buffer, (s.link l).held with
  | some b, _ => some ((s.onLink l (fun k => { k with buffer := none })).takeBlock l b.block b.ackDue)
  | none, some (.command c) => some ((s.onLink l (fun k => { k with held := none })).takeEdit l c)
  | none, some .endMarker => some ((s.onLink l (fun k => { k with held := none })).takeEndMarker l)
  | none, none => none

/-- The arbiter: while the unit is IDLE it takes the first waiting item of the link it has not just
served, or else of the one it has (R24, entry 11). At most four items wait. -/
def State.arbitrate : Nat → LinkId → State → State
  | 0, _, s => s
  | n + 1, served, s =>
    if s.edit.isSome then s
    else
      match s.takeWaiting served.other with
      | some t => t.arbitrate n served.other
      | none =>
        match s.takeWaiting served with
        | some t => t.arbitrate n served
        | none => s

/-! ## The ends of the timed operations (R22, R36, R41 to R44) -/

/-- The keys of a track whose frames a test keeps. -/
def Move.keep (m : Move) (t : TrackId) (f : Nat → Bool) : Move :=
  match t with
  | .axis a => m.setAxisTrack a ((m.axisTrack a).filter (fun k => f k.frame))
  | .speed => { m with speedTrack := m.speedTrack.filter (fun k => f k.frame) }

/-- A slot's move becomes another with its generation raised, and the pool follows the blocks held (R7, R14). -/
def State.rewrite (s : State) (slot : Nat) (m n : Move) : State :=
  { s.setMove slot (some { n with generation := nextGeneration m.generation }) with
    free := s.free + m.blocks - n.blocks }

/-- A removal of the keys of a track that a test drops: nothing changes when it drops none (R41, R42). -/
def State.remove (s : State) (slot : Nat) (t : TrackId) (f : Nat → Bool) : State :=
  match s.move slot with
  | none => s
  | some m =>
    if (m.frames t).any f then s.rewrite slot m (m.keep t (fun n => !f n)) else s

/-- The keys a removal takes from a track. -/
def State.removed (s : State) (slot : Nat) (t : TrackId) (f : Nat → Bool) : Nat :=
  match s.move slot with
  | none => 0
  | some m => ((m.frames t).filter f).length

/-- The generation of a slot's move. -/
def State.generationOf (s : State) (slot : Nat) : Nat :=
  match s.move slot with
  | some m => m.generation
  | none => 0

/-- The blocks a slot's move holds. -/
def State.blocksIn (s : State) (slot : Nat) : Nat :=
  match s.move slot with
  | some m => m.blocks
  | none => 0

/-- Keys join the accepted count of the link's put transfer, which holds at 65,535 (R34). -/
def Transfer.addAccepted (n : Nat) : Transfer → Transfer
  | .put s t a i => .put s t (min (a + n) 65535) i
  | .get s t g p k r i => .get s t g p k r i

/-- The end of a data block (R36). -/
def State.endBlock (s : State) (l : LinkId) (slot : Nat) (t : TrackId) (ks : BlockKeys) : State :=
  let s1 := match s.move slot with
    | some m => s.rewrite slot m (m.merge t ks)
    | none => s
  s1.onLink l (fun k => { k with transfer := k.transfer.map (Transfer.addAccepted ks.count) })

/-- The end of a copy: the destination holds the source's tracks, key for key (R43). -/
def State.endCopy (s : State) (src dst : Nat) : State :=
  match s.move src, s.move dst with
  | some m, some d =>
    { s.setMove dst (some { d with axisTracks := m.axisTracks, speedTrack := m.speedTrack }) with
      free := s.free - m.blocks }
  | _, _ => s

/-- The end of a retire: the slot is EMPTY and its blocks are free (R44). -/
def State.endRetire (s : State) (slot : Nat) : State :=
  { s.setMove slot none with free := s.free + s.blocksIn slot }

/-- What an operation does at its end to the store. -/
def State.applyOp (s : State) (r : EditRun) : State :=
  match r.op with
  | .dataBlock slot t ks => s.endBlock r.link slot t ks
  | .keyDrop slot t first last => s.remove slot t (inMarks first last)
  | .trackClear slot t => s.remove slot t (fun _ => true)
  | .moveCopy src dst => s.endCopy src dst
  | .moveRetire slot => s.endRetire slot

/-- The results of an operation's response: `s` before its end and `t` after it. -/
def EditRun.results (r : EditRun) (s t : State) : Results :=
  match r.op with
  | .dataBlock _ _ _ => .none
  | .keyDrop slot k first last =>
    .dropped (s.removed slot k (inMarks first last)) (t.generationOf slot)
  | .trackClear slot k => .cleared (s.removed slot k (fun _ => true)) t.free (t.generationOf slot)
  | .moveCopy _ dst => .copied dst 0 t.free
  | .moveRetire slot => .retired (s.blocksIn slot) t.free

/-- The operation ends: its effect, and the edit unit IDLE (R22). -/
def State.completeOp (s : State) (r : EditRun) : State := { s.applyOp r with edit := none }

/-- The answer of an operation that has ended: `s` before its end, `t` after it. -/
def State.answerOp (t : State) (r : EditRun) (s : State) : State :=
  match r.op with
  | .dataBlock _ _ _ => t.acknowledge r.link r.answerDue .blockAccepted
  | .keyDrop _ _ _ _ | .trackClear _ _ | .moveCopy _ _ | .moveRetire _ =>
    if r.answerDue then t.accept r.link (r.results s t) r.rangeReset else t

/-- The bound on an operation in ticks (R22). -/
def State.opBound (s : State) : EditOp → Nat
  | .dataBlock _ _ _ => 2
  | .keyDrop _ _ _ _ => 4
  | .trackClear _ _ => 4
  | .moveRetire _ => 4
  | .moveCopy src _ => 4 + ceilDiv (s.blocksIn src) 8

end Sys2Proof.Machine
end

