-- ==== Sys2Proof/Machine/AxisOps.lean ====
section
/-! DEFINITION. The axis units (file 05): applying records, the drive, the creep generator, group eases,
parks and homes. -/

namespace Sys2Proof.Machine

/-! ## Records (R85, R86) -/

/-- A record replaces the in-force record of an axis; an axis it makes unset loses a drive in SETTLING or
ON (R85), and with it the pulses not yet issued (R165). -/
def Axis.applyRecord (r : AxisRecord) (x : Axis) : Axis :=
  match x.drive with
  | .settling _ => if r.unset then { x with conf := r, drive := .off, pulses := 0 } else { x with conf := r }
  | .on => if r.unset then { x with conf := r, drive := .off, pulses := 0 } else { x with conf := r }
  | .off => { x with conf := r }
  | .tripped => { x with conf := r }

/-- Applying a record to an axis, with what it does to the moves (R85). -/
def State.applyRecord (s : State) (a : AxisId) (r : AxisRecord) : State :=
  if (s.axis a).conf.limitsDiffer r then (s.onAxis a (Axis.applyRecord r)).limitsChanged a
  else s.onAxis a (Axis.applyRecord r)

/-- The staged record of a released axis, if it holds one, is applied (R86). -/
def State.applyStaged (s : State) (a : AxisId) : State :=
  match (s.axis a).staged with
  | none => s
  | some r => (s.onAxis a (fun x => { x with staged := none })).applyRecord a r

/-- The staged records of several released axes are applied in axis order (R86). -/
def State.applyStagedAll (s : State) (as : List AxisId) : State :=
  forAxes (allAxes.filter (fun a => as.contains a)) (fun a t => t.applyStaged a) s

/-! ## The drive (R90 to R93) -/

/-- The enable output: asserted while the drive is SETTLING or ON (R91). -/
def Axis.enableOutput (x : Axis) : Bool :=
  match x.drive with
  | .settling _ | .on => true
  | .off | .tripped => false

/-- The drive goes OFF: the settle remaining is absent and the pulses not yet issued are dropped. -/
def Axis.driveOff (x : Axis) : Axis := { x with drive := .off, pulses := 0 }

/-- The setpoint and the step position stand at the encoder count (R90). -/
def Axis.follow (x : Axis) : Axis :=
  { x with setpoint := saturateCount x.encoder, stepPosition := saturateCount x.encoder }

/-- The drive becomes ON, its setpoint and step position at the encoder count (R90, R92, entry 19). -/
def Axis.driveOn (x : Axis) : Axis := { x.follow with drive := .on }

/-- The tick of an axis whose drive is not ON: it follows its encoder, no pulse issues, the following error
is 0, and the settle remaining falls (R90, R92, R163). -/
def Axis.idleTick (x : Axis) : Axis :=
  let y := { x.follow with followingError := 0, pulses := 0 }
  match x.drive with
  | .settling n => if n ≤ 1 then { y with drive := .on } else { y with drive := .settling (n - 1) }
  | .off => y
  | .on => y
  | .tripped => y

/-! ## The creep generator (R97) -/

/-- The velocity of S counts/s, S × 4,096 / 125 rounded down. -/
def creepSpeed (speed : Nat) : Nat := speed * 4096 / 125

/-- The step of the generator: Ac × 4,096 / 250,000 rounded down, and at least 1. -/
def creepStep (ac : Nat) : Nat := max 1 (ac * 4096 / 250000)

/-- One tick of the velocity: toward the target by the step, but not past it. -/
def Creep.nextVelocity (c : Creep) : Int :=
  if c.velocity < c.target then min (c.velocity + c.step) c.target
  else if c.target < c.velocity then max (c.velocity - c.step) c.target
  else c.velocity

/-- One tick of the generator. -/
def Creep.tick (c : Creep) : Creep :=
  { c with velocity := c.nextVelocity, position := c.position + c.nextVelocity }

/-- The generator stands at rest: its velocity has reached a target of 0. -/
def Creep.atRest (c : Creep) : Bool := decide (c.velocity = 0 ∧ c.target = 0)

/-- One tick of an axis's generator, which writes its setpoint; an axis without one is left as it is. -/
def Axis.creepTick (x : Axis) : Axis :=
  match x.creep with
  | some c => { x with creep := some c.tick, setpoint := fitSetpoint (c.tick.position / 65536) }
  | none => x

/-- The axis has no generator, or it is at rest. -/
def Axis.creepAtRest (x : Axis) : Bool :=
  match x.creep with
  | some c => c.atRest
  | none => true

/-! ## Group eases: parks and approaches (R80, R102 to R104, R132 to R134) -/

/-- The axes of a group ease. -/
def GroupEase.ids (g : GroupEase) : List AxisId := g.axes.map (·.axis)

/-- Each axis of the group stands at its start value plus its ease offset at k (R80). -/
def State.easeSetpoints (s : State) (g : GroupEase) (k : Nat) : State :=
  g.axes.foldl (fun t e =>
    t.onAxis e.axis (fun x => { x with setpoint := e.start + easeOffset e.dist g.duration k })) s

/-- The velocity an axis of the group had on the last tick of the ease, in units of 2^−16 count per tick;
0 at elapsed 0 (R104, R134). -/
def GroupEase.velocity (g : GroupEase) (e : EaseAxis) : Int :=
  if g.elapsed = 0 then 0
  else (easeOffset e.dist g.duration g.elapsed - easeOffset e.dist g.duration (g.elapsed - 1)) * 65536

/-- Every axis of the group had velocity 0 on the last tick. -/
def GroupEase.still (g : GroupEase) : Bool := g.axes.all (fun e => decide (g.velocity e = 0))

/-- Each axis of the group is handed to its creep generator, target 0 (R104, R134). -/
def State.handToCreep (s : State) (g : GroupEase) : State :=
  g.axes.foldl (fun t e =>
    t.onAxis e.axis (fun x =>
      { x with creep := some { position := x.setpoint * 65536, velocity := g.velocity e, target := 0,
                               step := creepStep x.conf.ac } })) s

/-- The generators of the group run for one tick. -/
def State.groupCreepTick (s : State) (g : GroupEase) : State :=
  forAxes g.ids (fun a t => t.onAxis a Axis.creepTick) s

/-- Every generator of the group is at rest. -/
def State.groupAtRest (s : State) (g : GroupEase) : Bool := g.ids.all (fun a => (s.axis a).creepAtRest)

/-- The group eases of some axes from their setpoints to their targets, with the creep limits in force. -/
def State.easeAxes (s : State) (targets : List (AxisId × Int)) : List EaseAxis :=
  targets.map (fun q =>
    { axis := q.1, start := (s.axis q.1).setpoint, dist := q.2 - (s.axis q.1).setpoint })

/-- The duration of a group ease (R78), or none where R79 refuses it. -/
def State.groupDuration (s : State) (es : List EaseAxis) : Option Nat :=
  easeDuration (es.map (fun e =>
    { dist := e.dist, vc := (s.axis e.axis).conf.vc, ac := (s.axis e.axis).conf.ac }))

/-! ## Parks (R103 to R105) -/

/-- One axis of an ended park: unowned, its generator discarded, its last motion result written. -/
def Axis.parkEnded (cause : MotionCause) (x : Axis) : Axis :=
  { x with owner := .none, creep := none, lastResult := { outcome := .parkDone, cause := cause } }

/-- The park ends with a cause: every park axis is released, PARK_DONE is raised, and the staged records are
applied in axis order (R103, R104, R105). -/
def State.endPark (s : State) (cause : MotionCause) : State :=
  match s.park with
  | none => s
  | some g =>
    let s1 := forAxes g.ids (fun a t => t.onAxis a (Axis.parkEnded cause)) { s with park := none }
    (s1.raise .parkDone).applyStagedAll g.ids

/-- The tick of the park (R103, R104). -/
def State.tickPark (s : State) : State :=
  match s.park with
  | none => s
  | some g =>
    if g.stopping then
      let s1 := s.groupCreepTick g
      if s1.groupAtRest g then s1.endPark .stopped else s1
    else
      let s1 := { s.easeSetpoints g (g.elapsed + 1) with park := some { g with elapsed := g.elapsed + 1 } }
      if g.duration ≤ g.elapsed + 1 then s1.endPark .none else s1

/-- A fault reaches the park: it ends at once, a STOPPING park with the cause STOPPED (R105). -/
def State.faultPark (s : State) (cause : MotionCause) : State :=
  match s.park with
  | none => s
  | some g => if g.stopping then s.endPark .stopped else s.endPark cause

/-! ## Homes (R96 to R101) -/

/-- A velocity in the home direction. -/
def HomeDirection.signed (d : HomeDirection) (v : Nat) : Int :=
  match d with
  | .negative => -(v : Int)
  | .positive => (v : Int)

/-- The home-speed velocity in the home direction (R96, R97). -/
def AxisRecord.searchVelocity (r : AxisRecord) : Int := r.homeDirection.signed (creepSpeed r.homeSpeed)

/-- One eighth of the home-speed velocity, rounded down and at least 1, against the home direction (R97, R98). -/
def AxisRecord.backOffVelocity (r : AxisRecord) : Int :=
  -(r.homeDirection.signed (max 1 (creepSpeed r.homeSpeed / 8)))

/-- The axis with the generator's target velocity replaced. -/
def Axis.setTarget (v : Int) (x : Axis) : Axis :=
  { x with creep := x.creep.map (fun c => { c with target := v }) }

/-- The home goes to a leg, its leg start position kept. -/
def Axis.setLeg (leg : HomeLeg) (x : Axis) : Axis :=
  { x with home := x.home.map (fun h => { h with leg := leg }) }

/-- A home is abandoned: the datum is UNKNOWN at once and the target is 0 (R100). -/
def Axis.abandonHome (cause : MotionCause) (x : Axis) : Axis :=
  { (x.setTarget 0) with
    datum := .unknown
    home := x.home.map (fun h => { h with leg := .abandoning, cause := cause }) }

/-- The home of an axis succeeds: datum KNOWN, unowned, HOME_DONE (R98, R99). -/
def State.homeSucceeds (s : State) (a : AxisId) : State :=
  ((s.onAxis a (fun x =>
    { x with datum := .known, owner := .none, home := none, creep := none,
             lastResult := { outcome := .homeDone, cause := .none } })).raise .homeDone).applyStaged a

/-- The home of an axis fails: datum UNKNOWN, unowned, HOME_FAILED with the cause (R100, R101). -/
def State.homeFails (s : State) (a : AxisId) (cause : MotionCause) : State :=
  ((s.onAxis a (fun x =>
    { x with datum := .unknown, owner := .none, home := none, creep := none,
             lastResult := { outcome := .homeFailed, cause := cause } })).raise .homeFailed).applyStaged a

/-- A home whose drive leaves ON ends at once; one that is ABANDONING keeps its cause (R101). -/
def State.faultHome (s : State) (a : AxisId) (cause : MotionCause) : State :=
  if (s.axis a).owner = .home then
    match (s.axis a).home with
    | some h => s.homeFails a (if h.leg = .abandoning then h.cause else cause)
    | none => s.homeFails a cause
  else s

/-- The travel of the leg exceeds the search travel, in a leg that R100 tests. -/
def Axis.travelExceeded (x : Axis) : Bool :=
  match x.home with
  | some h =>
    (match h.leg with
     | .searching | .braking | .backingOff | .pressing => true
     | .finishing | .abandoning => false) &&
      decide (x.conf.searchTravel < (x.setpoint - h.start).natAbs)
  | none => false

/-- A braking home at rest begins backing off (R98). -/
def Axis.beginBackOff (x : Axis) : Axis :=
  { (x.setTarget x.conf.backOffVelocity) with
    home := x.home.map (fun h => { h with leg := .backingOff, start := x.setpoint }) }

/-- What a home does once its generator has come to rest in its leg (R98, R100). -/
def State.homeAtRest (s : State) (a : AxisId) : State :=
  match (s.axis a).home with
  | none => s
  | some h =>
    match h.leg with
    | .braking => s.onAxis a Axis.beginBackOff
    | .finishing => s.homeSucceeds a
    | .abandoning => s.homeFails a h.cause
    | .searching => s
    | .backingOff => s
    | .pressing => s

/-- The tick of a home, before the step output: the generator runs, the travel is tested (R100), and a leg
that has come to rest goes on (R98). Entry 20: the travel test comes first. -/
def State.tickHome (s : State) (a : AxisId) : State :=
  if (s.axis a).owner = .home then
    let s1 := s.onAxis a Axis.creepTick
    if (s1.axis a).travelExceeded then s1.onAxis a (Axis.abandonHome .travel)
    else if (s1.axis a).creepAtRest then s1.homeAtRest a
    else s1
  else s

/-- The home is PRESSING and its following error exceeds FEmax / 2, rounded down (R99). -/
def Axis.atStop (error : Int) (x : Axis) : Bool :=
  decide (x.owner = .home) && decide (x.home.map (·.leg) = some .pressing) &&
    decide (x.conf.feMax / 2 < error.natAbs)

/-- The axis is at the mechanical stop: encoder count, setpoint and step position are the home offset and
the home succeeds (R99). -/
def State.stopReached (s : State) (a : AxisId) : State :=
  (s.onAxis a (fun x =>
    { x with encoder := x.conf.homeOffset, setpoint := x.conf.homeOffset,
             stepPosition := x.conf.homeOffset, followingError := 0 })).homeSucceeds a

/-- The release edge of a home switch in BACKING_OFF: the shift of R98. -/
def Axis.homeRelease (x : Axis) : Axis :=
  let shift := x.conf.homeOffset - x.encoder
  { x with
    encoder := x.conf.homeOffset
    setpoint := fitSetpoint (x.setpoint + shift)
    stepPosition := fitSetpoint (x.stepPosition + shift)
    home := x.home.map (fun h => { h with leg := .finishing, start := h.start + shift })
    creep := x.creep.map (fun c => { c with position := c.position + shift * 65536, target := 0 }) }

end Sys2Proof.Machine
end

