-- ==== Sys2Proof/Machine/PassOps.lean ====
section
/-! DEFINITION. The move clock (file 06), the pass controller (file 07) and stop-motion stepping (file 08)
as operations on the state. -/

namespace Sys2Proof.Machine

/-! ## Phase and direction (R108) -/

/-- A phase moved in a direction by an amount. -/
def Direction.move (d : Direction) (phase amount : Int) : Int :=
  match d with
  | .forward => phase + amount
  | .reverse => phase - amount

/-- A phase held from passing a limit in a direction. -/
def Direction.cap (d : Direction) (limit phase : Int) : Int :=
  match d with
  | .forward => min phase limit
  | .reverse => max phase limit

/-- A phase has reached or passed a target in a direction. -/
def Direction.reaches (d : Direction) (phase target : Int) : Bool :=
  match d with
  | .forward => decide (target ≤ phase)
  | .reverse => decide (phase ≤ target)

/-- The pass direction of the clock; FORWARD where the clock holds none (it is then STOPPED). -/
def Clock.dir (c : Clock) : Direction := c.direction.getD .forward

/-- The next frame start in the pass direction (R108). -/
def Clock.nextFrameStart (c : Clock) : Int :=
  match c.dir with
  | .forward => (c.phase / puPerFrame + 1) * puPerFrame
  | .reverse => ((c.phase + (puPerFrame - 1)) / puPerFrame - 1) * puPerFrame

/-- The half point of the current frame (R108). -/
def Clock.halfPoint (c : Clock) : Int := c.dir.move (c.currentFrame * puPerFrame) 32768

/-- A phase held from passing the travel limit (R108). -/
def Clock.capLimit (c : Clock) (p : Int) : Int :=
  match c.travelLimit with
  | some t => c.dir.cap t p
  | none => p

/-- The phase stands on the travel limit, or beyond it. -/
def Clock.atLimit (c : Clock) : Bool :=
  match c.travelLimit with
  | some t => c.dir.reaches c.phase t
  | none => false

/-! ## Starting and stopping the clock (R109, R125) -/

/-- The clock after the end of a run: STOPPED with the phase, N and the measured items kept (R125). -/
def Clock.stopped (c : Clock) : Clock :=
  { c with state := .stopped, ramp := .none, appliedRate := 0, baseRate := 0, cameraSync := false,
           travelLimit := none, lock := none, firstFrameBegun := none, lastEdge := none,
           lastPeriod := none, previousPeriod := none }

/-- The clock after PASS_DISARM: as after a reset, with the glitch count kept (R125). -/
def Clock.disarmed (c : Clock) : Clock := { Clock.reset with glitchCount := c.glitchCount }

/-- The clock placed for a STEP pass (R124): started so, N is 0 and the follower fields are clear (R109,
entry 36). -/
def Clock.place (r : PassRecord) (_ : Clock) : Clock :=
  { Clock.reset with
    state := .stepping, mode := some .step, direction := some r.direction,
    phase := r.startFrame * puPerFrame, currentFrame := r.startFrame, travelLimit := some r.travelLimit }

/-- The clock as it starts for a MASTER pass, before its opening frame start (R109). -/
def Clock.startMaster (r : PassRecord) (_ : Clock) : Clock :=
  { Clock.reset with
    state := .clocking, mode := some .master, direction := some r.direction,
    phase := r.direction.move (r.startFrame * puPerFrame) (-(r.lead * puPerFrame)),
    travelLimit := some r.travelLimit }

/-- The clock as it starts for a FOLLOWER pass (R109). Between the roll and the first frame start the current frame
keeps its value of before the roll: R109 does not set it, and R108 calls it the number of the latest frame start
and, FORWARD, the frame the phase lies in. DESIGN CHOICE (entry 42). -/
def Clock.startFollower (r : PassRecord) (c : Clock) : Clock :=
  { Clock.reset with
    state := .following, mode := some .follower, direction := some r.direction,
    phase := r.startFrame * puPerFrame, currentFrame := c.currentFrame,
    travelLimit := some r.travelLimit, lock := some .acquiring, firstFrameBegun := some false }

/-! ## The report (R144, R145, R162) -/

/-- A condition is added while the report's outcome is RUNNING (R145). -/
def Report.note (f : Conditions → Conditions) (r : Report) : Report :=
  if r.outcome = .running then { r with conditions := f r.conditions } else r

/-- A condition handed to the pass controller. -/
def State.note (s : State) (f : Conditions → Conditions) : State :=
  s.withPass { s.pass with report := s.pass.report.note f }

/-- Exact: none of SYNC_LOST, RELOCKED, HELD, SETPOINT_CLAMPED and PULSE_CLAMPED (R144). -/
def Report.exact (r : Report) : Bool :=
  !(r.conditions.syncLost || r.conditions.relocked || r.conditions.held ||
    r.conditions.setpointClamped || r.conditions.pulseClamped)

/-- The report as a clearing leaves it for a pass (R144). -/
def Report.cleared (r : PassRecord) : Report :=
  { outcome := .running, cause := none, frames := 0, conditions := .empty,
    peaks := some (r.axisIds.map (fun a => { axis := a, magnitude := 0 })) }

/-- The report is cleared, and with it the clamp flags of all sixteen axes (R144, R162). -/
def State.clearReport (s : State) (r : PassRecord) : State :=
  (s.withPass { s.pass with report := .cleared r }).onAxes
    (fun x => { x with softClamp := false, pulseClamp := false })

/-! ## The end of a run (R139, R140, R142, R160) -/

/-- Why a tick or an edge ends a run: the end of the trail, or the end of a stop. -/
inductive RunEnd where
  | complete
  | stopped
deriving DecidableEq, Repr

/-- The report's cause for a stop cause. -/
def StopCause.reported : StopCause → ReportCause
  | .command => .command
  | .overspeed => .overspeed

/-- A run ends: the report's outcome and cause, the pass ENDED with its stepping state cleared, the clock
stopped, the camera run output LOW, and PASS_ENDED (R139, R160). -/
def State.endRun (s : State) (o : RunOutcome) (cause : Option ReportCause) : State :=
  ({ s with
     pass := { s.pass with
       report := { s.pass.report with outcome := o, cause := cause }
       state := .ended, stopCause := none, endReached := none, cameraRun := false
       stepping := .reset }
     clock := s.clock.stopped }).raise .passEnded

/-- The run's end takes effect (R139, R140). -/
def State.finish (s : State) (e : Option RunEnd) : State :=
  match e with
  | none => s
  | some .complete => s.endRun .complete none
  | some .stopped => s.endRun .aborted (s.pass.stopCause.map StopCause.reported)

/-- The states of a run of a MASTER or FOLLOWER pass (R131, R142). -/
def PassState.inRun : PassState → Bool
  | .rolling | .running | .holding | .held | .resuming | .stopping | .trailing => true
  | .idle | .armed | .approaching | .atStart | .ended | .stepMoving | .stepSettling | .exposing
  | .stepReady => false

/-- The step states (file 08). -/
def PassState.inStep : PassState → Bool
  | .stepMoving | .stepSettling | .exposing | .stepReady => true
  | .idle | .armed | .approaching | .atStart | .rolling | .running | .holding | .held | .resuming
  | .stopping | .trailing | .ended => false

/-! ## Frame starts (R111, R112, R136) -/

/-- The base rate a MASTER frame start loads: the speed-track rate at the frame, or the pass rate (R112). -/
def State.baseRateAt (s : State) (n : Int) : Nat :=
  match s.pass.record with
  | none => s.clock.baseRate
  | some r =>
    match s.move r.slot with
    | none => s.clock.baseRate
    | some m => if m.speedTrack.isEmpty then r.rate.getD s.clock.baseRate else speedRate m.speedTrack n

/-- What the pass controller becomes at a frame start n of its run (R136, items 1 to 3). -/
def Pass.frameStart (r : PassRecord) (n : Int) (p : Pass) : Pass :=
  let frames := if (r.first : Int) ≤ n ∧ n ≤ (r.last : Int) then p.report.frames + 1 else p.report.frames
  let entered := if p.state = .rolling ∧ n = r.startFrame then .running else p.state
  if n = r.endFrame then
    { p with report := { p.report with frames := frames }, endReached := some true,
             state := if entered = .running then .trailing else entered }
  else { p with report := { p.report with frames := frames }, state := entered }

/-- The frame that ends the trail (R136, item 4). -/
def PassRecord.trailEnd (r : PassRecord) : Int := r.direction.move r.endFrame r.trail

/-- The pass states in which the end of the trail ends the run COMPLETE (R136, item 4). -/
def PassState.completes : PassState → Bool
  | .running | .holding | .resuming | .trailing => true
  | .idle | .armed | .approaching | .atStart | .rolling | .held | .stopping | .ended | .stepMoving
  | .stepSettling | .exposing | .stepReady => false

/-- The clock hands a frame start to the pass controller (R136). -/
def State.passFrameStart (s : State) (n : Int) : State × Option RunEnd :=
  match s.pass.record with
  | none => (s, none)
  | some r =>
    if s.pass.state.inRun && decide (s.pass.state ≠ .held) then
      let p := s.pass.frameStart r n
      (s.withPass p, if n = r.trailEnd ∧ p.state.completes = true then some .complete else none)
    else (s, none)

/-- A frame start at frame n: the current frame, the camera sync output, the base rate in MASTER mode, and
the pass controller (R111). -/
def State.frameStart (s : State) (n : Int) : State × Option RunEnd :=
  let c := { s.clock with currentFrame := n, cameraSync := true }
  let c1 := if s.clock.mode = some .master then { c with baseRate := s.baseRateAt n } else c
  (s.withClock c1).passFrameStart n

/-- The phase moves to p: a frame start when it reaches the next one, and otherwise the half point when it
reaches that (R111, R113). -/
def State.phaseMoves (s : State) (p : Int) : State × Option RunEnd :=
  let target := s.clock.nextFrameStart
  let s1 := s.withClock { s.clock with phase := p }
  if s.clock.dir.reaches p target then s1.frameStart (target / puPerFrame)
  else if s.clock.dir.reaches p s.clock.halfPoint then
    (s1.withClock { s1.clock with cameraSync := false }, none)
  else (s1, none)

/-! ## Ramps and the clocking tick (R110, R114, R115) -/

/-- A ramp after stage 1 of a tick: k risen by one (R110). -/
def Ramp.tick : Ramp → Ramp
  | .none => .none
  | .hold h k => .hold h (k + 1)
  | .held => .held
  | .resume h k => .resume h (k + 1)
  | .stop h k => .stop h (k + 1)

/-- The applied rate of a base rate under a ramp whose k has risen (R110, R114, R115). -/
def Ramp.applied (base : Nat) : Ramp → Nat
  | .none => base
  | .hold h k => base * (h - k) / h
  | .held => 0
  | .resume h k => base * k / h
  | .stop h k => base * (h - k) / h

/-- The ramp's end on the tick on which k reaches H, and the end of a stop at the travel limit (R114,
R115): the state, and whether a stop has ended. -/
def State.rampEnd (s : State) : State × Option RunEnd :=
  match s.clock.ramp with
  | .none => (s, none)
  | .held => (s, none)
  | .hold h k =>
    if h ≤ k then
      (({ s with clock := { s.clock with ramp := .held, appliedRate := 0 }
                 pass := { s.pass with state := .held } }).raise .passHeld, none)
    else (s, none)
  | .resume h k =>
    if h ≤ k then
      ({ s with
         clock := { s.clock with ramp := .none }
         pass := { s.pass with
           state := if s.pass.endReached = some true then .trailing else .running } }, none)
    else (s, none)
  | .stop h k =>
    if h ≤ k ∨ s.clock.atLimit = true then
      (s.withClock { s.clock with ramp := .none, appliedRate := 0 }, some .stopped)
    else (s, none)

/-- The tick of a CLOCKING clock, in the stages of R110. An end of the run is handed back, so that the
setpoints of the tick are written before it takes effect (R131). -/
def State.tickClocking (s : State) : State × Option RunEnd :=
  let ramp := s.clock.ramp.tick
  let rate := ramp.applied s.clock.baseRate
  let n := s.clock.remainder + rate * 65536
  let c := { s.clock with ramp := ramp, appliedRate := rate, remainder := n % 2000000 }
  let p := c.capLimit (c.dir.move c.phase ((n / 2000000 : Nat) : Int))
  match (s.withClock c).phaseMoves p with
  | (s1, some e) => (s1, some e)
  | (s1, none) => s1.rampEnd

/-- The ramp tick at which a stop begins: the smallest j with (Hs − j) × Hp ≤ q × Hs (R115). -/
def stopTick (hs q hp : Nat) : Nat := hs - q * hs / hp

/-- The fraction of the base rate that a ramp applies (R115). -/
def Ramp.fraction : Ramp → Nat × Nat
  | .none => (1, 1)
  | .hold h k => (h - k, h)
  | .held => (0, 1)
  | .resume h k => (k, h)
  | .stop h k => (h - k, h)

/-- A CLOCKING clock takes a stop request (R115). -/
def State.clockStop (s : State) (hs : Nat) : State × Option RunEnd :=
  match s.clock.ramp with
  | .stop _ _ => (s, none)
  | ramp =>
    let j := stopTick hs ramp.fraction.1 ramp.fraction.2
    if hs ≤ j then (s.withClock { s.clock with ramp := .none, appliedRate := 0 }, some .stopped)
    else (s.withClock { s.clock with ramp := .stop hs j }, none)

/-- A follower stop begins (R123). -/
def State.followerStop (s : State) (hs : Nat) : State × Option RunEnd :=
  if s.clock.firstFrameBegun = some true then
    (s.withClock { s.clock with state := .clocking, remainder := 0, baseRate := s.clock.measuredRate,
                                ramp := .none, lock := none, firstFrameBegun := none }).clockStop hs
  else (s, some .stopped)

/-- A stop request reaches the clock (R115, R123). -/
def State.stopRequest (s : State) (hs : Nat) : State × Option RunEnd :=
  match s.clock.state with
  | .clocking => s.clockStop hs
  | .following => s.followerStop hs
  | .stopped => (s, some .stopped)
  | .stepping => (s, some .stopped)

/-! ## Setpoints of a pass (R131) -/

/-- The evaluation phase: the clock's phase held within the pass range (R131). -/
def PassRecord.evaluationPhase (r : PassRecord) (p : Int) : Int :=
  saturate ((r.first : Int) * puPerFrame) ((r.last : Int) * puPerFrame) p

/-- The setpoint of every pass axis whose drive is ON becomes its track value at a phase, with its offset
(R131, R154). -/
def State.writeSetpoints (s : State) (r : PassRecord) (phase : Int) : State :=
  match s.move r.slot with
  | none => s
  | some m =>
    r.axes.foldl (fun t pa =>
      t.onAxis pa.axis (fun x =>
        match x.drive with
        | .on => { x with setpoint := trackValue (m.axisTrack pa.axis) phase pa.offset }
        | .off => x
        | .settling _ => x
        | .tripped => x)) s

/-- The start value of a pass axis: its track value at the start frame × 65,536, with its offset (R132). -/
def passStartValue (m : Move) (r : PassRecord) (pa : PassAxis) : Int :=
  trackValue (m.axisTrack pa.axis) (r.startFrame * puPerFrame) pa.offset

/-- The run's end, where there is one, takes effect after the setpoints have been written at the evaluation phase
(R131, R139). -/
def State.writeAndFinish (s : State) (r : PassRecord) (e : Option RunEnd) : State :=
  match e with
  | none => s
  | some e => (s.writeSetpoints r (r.evaluationPhase s.clock.phase)).finish (some e)

/-! ## Follower mode (R116 to R122) -/

/-- The time at which the loss timer of a locked clock runs out, 2 × P after the last accepted edge (R118,
R121). -/
def Clock.deadline (c : Clock) : Option Nat :=
  match c.state, c.lock, c.lastEdge, c.lastPeriod with
  | .following, some .locked, some e, some p => some (e + 2 * p)
  | _, _, _, _ => none

/-- Sync is lost (R121). -/
def State.loseSync (s : State) : State :=
  ((s.withClock { s.clock with lock := some .syncLost }).note
    (fun c => { c with syncLost := true })).raise .syncLost

/-- A locked clock whose first frame has not begun returns to ACQUIRING (R118). -/
def State.loseLock (s : State) : State :=
  s.withClock { s.clock with lock := some .acquiring, stableCount := 0 }

/-- The loss timer of a locked clock runs out (R118, R121). -/
def State.followerExpires (s : State) : State :=
  if s.clock.firstFrameBegun = some true then s.loseSync else s.loseLock

/-- The expiry of the loss timer is taken when its time lies before `t` (R118, R121). -/
def State.expireBefore (s : State) (t : Nat) : State :=
  match s.clock.deadline with
  | some d => if d < t then s.followerExpires else s
  | none => s

/-- The point one pu short of the next frame start, past which a locked clock is not carried (R119). -/
def Clock.followerCap (c : Clock) (p : Int) : Int :=
  c.dir.cap (c.dir.move c.nextFrameStart (-1)) p

/-- The tick of a FOLLOWING clock: the advance under the cap while locked, the freewheel while sync is lost
(R119, R121). -/
def State.tickFollowing (s : State) : State × Option RunEnd :=
  match s.clock.lock, s.clock.firstFrameBegun with
  | some .locked, some true =>
    s.phaseMoves (s.clock.capLimit (s.clock.followerCap (s.clock.dir.move s.clock.phase s.clock.increment)))
  | some .syncLost, _ =>
    s.phaseMoves (s.clock.capLimit (s.clock.dir.move s.clock.phase s.clock.increment))
  | _, _ => (s, none)

/-- A snap to the next frame start, or to the travel limit (R119, R122). -/
def State.snap (s : State) : State × Option RunEnd :=
  s.phaseMoves (s.clock.capLimit s.clock.nextFrameStart)

/-- A used period becomes the last period, with its increment and measured rate (R117). -/
def Clock.usePeriod (p : Nat) (c : Clock) : Clock :=
  { c with previousPeriod := c.lastPeriod, lastPeriod := some p,
           increment := min (1073741824 / p) 9830, measuredRate := min (32768000000 / p) 300002 }

/-- A period is stable against the previous one: they differ by no more than a 64th of it (R118). -/
def stablePeriod (previous : Option Nat) (p : Nat) : Bool :=
  match previous with
  | some q => decide ((p : Int) - (q : Int) ≤ ((q / 64 : Nat) : Int) ∧
      (q : Int) - (p : Int) ≤ ((q / 64 : Nat) : Int))
  | none => false

/-- The measured rate exceeds the ceiling of the bound move, on an edge that is tested (R120). -/
def State.overspeed (s : State) : Bool :=
  match s.pass.record with
  | none => false
  | some r =>
    match (s.move r.slot).bind (·.summary) with
    | none => false
    | some sum => decide (s.pass.endReached ≠ some true) && decide (sum.ceiling < s.clock.measuredRate)

/-- OVERSPEED: the pass is STOPPING with that cause and the clock begins its follower stop (R120, R141). -/
def State.overspeedStop (s : State) (r : PassRecord) : State :=
  let s1 := s.withPass { s.pass with state := .stopping, stopCause := some .overspeed }
  let q := s1.followerStop r.stopRamp
  q.1.finish q.2

/-- A used period in ACQUIRING: stability, and lock at the larger of the lead frames and 2 (R118). -/
def Clock.acquire (lead : Nat) (previous : Option Nat) (p : Nat) (c : Clock) : Clock :=
  let count := if stablePeriod previous p then min (c.stableCount + 1) 255 else 0
  if max lead 2 ≤ count then { c with stableCount := count, lock := some .locked, firstFrameBegun := some false }
  else { c with stableCount := count }

/-- An accepted edge outside SYNC_LOST, its arrival at `t` recorded (R117 to R120). An edge whose frame start ends
the trail writes the setpoints, at the end values, before the run ends: R139 has them written on "that tick",
and R131 has an edge between ticks reach them on the next. DESIGN CHOICE (entry 22). -/
def State.followedEdge (s : State) (r : PassRecord) (previousEdge : Option Nat) (t : Nat) : State :=
  match previousEdge with
  | none => s
  | some e =>
    let p := min (t - e) 4294967295
    let previous := s.clock.lastPeriod
    let s1 := s.withClock (s.clock.usePeriod p)
    if s1.overspeed then s1.overspeedStop r
    else
      match s1.clock.lock, s1.clock.firstFrameBegun with
      | some .locked, some true =>
        let q := s1.snap
        q.1.writeAndFinish r q.2
      | some .locked, _ =>
        let q := (s1.withClock { s1.clock with firstFrameBegun := some true }).frameStart r.startFrame
        q.1.writeAndFinish r q.2
      | _, _ => s1.withClock (s1.clock.acquire r.lead previous p)

/-- A relock edge (R122). When its snap is the frame start that ends the trail, R122, R139 and R145 give no order
between RELOCKED and the end of the run: the condition is handed over first, while the report's outcome
is still RUNNING, and SYNC_RELOCK is raised before PASS_ENDED (entry 41). The setpoints are written at the end values
first, as on every edge that ends the trail (entry 22). -/
def State.relock (s : State) (r : PassRecord) : State :=
  let q := s.snap
  let s1 := q.1.withClock { q.1.clock with lock := some .locked }
  ((s1.note (fun c => { c with relocked := true })).raise .syncRelock).writeAndFinish r q.2

/-- A rising camera frame edge at reference-clock time `t` (R116). -/
def State.cameraEdge (s : State) (t : Nat) : State :=
  match s.clock.state with
  | .following =>
    let s1 := s.expireBefore t
    let glitch := match s1.clock.lastEdge with
      | some e => decide (t < e + 109226)
      | none => false
    if glitch then s1.withClock { s1.clock with glitchCount := min (s1.clock.glitchCount + 1) 255 }
    else
      match s1.pass.record with
      | none => s1
      | some r =>
        let s2 := s1.withClock { s1.clock with lastEdge := some t }
        if s1.clock.lock = some .syncLost then s2.relock r
        else s2.followedEdge r s1.clock.lastEdge t
  | .stopped => s
  | .clocking => s
  | .stepping => s

/-! ## Rolling (R135) -/

/-- A roll: the report cleared, end reached NO, the camera run output HIGH, ROLLING, and the clock started
(R109, R135). -/
def State.roll (s : State) (r : PassRecord) : State :=
  let s1 := s.clearReport r
  let s2 := s1.withPass { s1.pass with endReached := some false, cameraRun := true, state := .rolling }
  match r.mode with
  | .master =>
    let s3 := s2.withClock (Clock.startMaster r s2.clock)
    let q := s3.frameStart (s3.clock.phase / puPerFrame)
    (q.1.withClock { q.1.clock with appliedRate := q.1.clock.baseRate }).finish q.2
  | .follower => s2.withClock (Clock.startFollower r s2.clock)
  | .step => s2

/-! ## Stepping (file 08) -/

/-- The stepping state replaced. -/
def State.withStepping (s : State) (t : Stepping) : State := s.withPass { s.pass with stepping := t }

/-- The run of a STEP pass begins (R151). -/
def State.beginStepRun (s : State) (r : PassRecord) : State :=
  let s1 := s.clearReport r
  { s1 with
    pass := { s1.pass with
      cameraRun := true
      stepping := { s1.pass.stepping with destination := some r.startFrame } }
    clock := s1.clock.place r }

/-- The frame a step direction leads to. -/
def stepFrom (d : Direction) (frame : Int) (n : Nat) : Int := d.move frame n

/-- A pending step begins (R154). -/
def State.beginStep (s : State) (f : StepFields) : State :=
  let t := s.pass.stepping
  let d := t.direction.getD .forward
  s.withPass { s.pass with
    state := .stepMoving
    stepping := { t with
      pending := t.pending - 1
      destination := t.destination.map (fun n => stepFrom d n 1)
      ease := some { start := s.clock.phase, dist := d.move 0 puPerFrame, duration := f.stepTime,
                     elapsed := 0 } } }

/-- The ticks of an exposure (R156). -/
def ExposureControl.ticks : ExposureControl → Nat
  | .timed n => n
  | .handshake n => n

/-- An exposure begins: EXPOSING, the trigger HIGH, the exposure remaining set (R156). -/
def State.beginExposure (s : State) (f : StepFields) : State :=
  s.withPass { s.pass with
    state := .exposing
    stepping := { s.pass.stepping with
      trigger := true, exposureRemaining := some f.exposure.ticks, settleRemaining := none } }

/-- The pass enters STEP_READY, and STEP_READY is raised (R157). -/
def State.stepReady (s : State) : State :=
  (s.withPass { s.pass with
    state := .stepReady
    stepping := { s.pass.stepping with direction := none } }).raise .stepReady

/-- The exposure ends: the trigger LOW, the exposure remaining absent (R156). -/
def State.exposureOff (s : State) : State :=
  s.withStepping { s.pass.stepping with trigger := false, exposureRemaining := none }

/-- A completed exposure (R157). -/
def State.exposureCompleted (s : State) (r : PassRecord) (f : StepFields) : State :=
  let s1 := s.exposureOff
  let s2 := s1.withPass { s1.pass with
    report := { s1.pass.report with frames := min (s1.pass.report.frames + 1) 65536 } }
  if s2.pass.stepping.destination = some r.endFrame then s2.endRun .complete none
  else if 0 < s2.pass.stepping.pending then s2.beginStep f
  else s2.stepReady

/-- An exposure that has timed out (R157). -/
def State.exposureTimedOut (s : State) : State :=
  let s1 := (s.exposureOff).note (fun c => { c with exposeTimeout := true })
  (s1.withStepping { s1.pass.stepping with pending := 0 }).stepReady

/-- The exposure remaining has reached 0: a TIMED exposure is completed, a HANDSHAKE one has timed out
(R156). -/
def State.exposureElapsed (s : State) (r : PassRecord) (f : StepFields) : State :=
  match f.exposure with
  | .timed _ => s.exposureCompleted r f
  | .handshake _ => s.exposureTimedOut

/-- The ease of a step has ended, its phase on the destination frame: the run ends when an abort was
requested, and otherwise the settle or the exposure begins (R154, R159). -/
def State.stepArrives (s : State) (f : StepFields) : State :=
  let s1 := { s with
    clock := { s.clock with currentFrame := s.clock.phase / puPerFrame }
    pass := { s.pass with stepping := { s.pass.stepping with ease := none } } }
  if s1.pass.stepping.abortRequested then s1.endRun .aborted (some .command)
  else if f.settle = 0 then s1.beginExposure f
  else s1.withPass { s1.pass with
    state := .stepSettling
    stepping := { s1.pass.stepping with settleRemaining := some f.settle } }

/-- The tick of a STEP pass in a step state: the phase of the ease, the setpoints at the phase, and the
counts (R154 to R157). -/
def State.tickStep (s : State) (r : PassRecord) (f : StepFields) : State :=
  match s.pass.state with
  | .stepMoving =>
    match s.pass.stepping.ease with
    | none => s
    | some e =>
      let k := e.elapsed + 1
      let s1 := { s with
        clock := { s.clock with phase := e.start + easeOffset e.dist e.duration k }
        pass := { s.pass with stepping := { s.pass.stepping with ease := some { e with elapsed := k } } } }
      let s2 := s1.writeSetpoints r s1.clock.phase
      if e.duration ≤ k then s2.stepArrives f else s2
  | .stepSettling =>
    let s1 := s.writeSetpoints r s.clock.phase
    let n := s1.pass.stepping.settleRemaining.getD 0
    if n ≤ 1 then s1.beginExposure f
    else s1.withStepping { s1.pass.stepping with settleRemaining := some (n - 1) }
  | .exposing =>
    let s1 := s.writeSetpoints r s.clock.phase
    let n := s1.pass.stepping.exposureRemaining.getD 0
    if n ≤ 1 then s1.exposureElapsed r f
    else s1.withStepping { s1.pass.stepping with exposureRemaining := some (n - 1) }
  | .stepReady => s.writeSetpoints r s.clock.phase
  | _ => s

/-- The committed frame: the destination moved on by the pending count (R150). -/
def Stepping.committed (t : Stepping) (start : Int) : Int :=
  match t.direction with
  | some d => stepFrom d (t.destination.getD start) t.pending
  | none => t.destination.getD start

/-! ## The approach (R132 to R134) -/

/-- The approach has reached its end: AT_START, and PASS_AT_START is raised (R132, R133). -/
def State.atStart (s : State) : State :=
  (s.withPass { s.pass with approach := none, state := .atStart }).raise .passAtStart

/-- The approach is given up: its record and the generators of its axes are discarded, the pass is ARMED
(R134, R143). -/
def State.approachGivenUp (s : State) : State :=
  match s.pass.approach with
  | none => s.withPass { s.pass with state := .armed }
  | some g =>
    forAxes g.ids (fun a t => t.onAxis a (fun x => { x with creep := none }))
      (s.withPass { s.pass with approach := none, state := .armed })

/-- The tick of an approach (R133, R134). -/
def State.tickApproach (s : State) : State :=
  match s.pass.approach with
  | none => s
  | some g =>
    if g.stopping then
      let s1 := s.groupCreepTick g
      if s1.groupAtRest g then s1.approachGivenUp else s1
    else
      let s1 := s.easeSetpoints g (g.elapsed + 1)
      let s2 := s1.withPass { s1.pass with approach := some { g with elapsed := g.elapsed + 1 } }
      if g.duration ≤ g.elapsed + 1 then s2.atStart else s2

/-! ## The tick of the clock and the pass -/

/-- The tick of a run: the clock moves the phase, the setpoints are written at the evaluation phase, and then
an end of the run takes effect (R110, R119, R121, R131). -/
def State.tickRun (s : State) (r : PassRecord) : State :=
  let q := match s.clock.state with
    | .clocking => s.tickClocking
    | .following => s.tickFollowing
    | .stopped => (s, none)
    | .stepping => (s, none)
  (q.1.writeSetpoints r (r.evaluationPhase q.1.clock.phase)).finish q.2

/-- The tick of the pass controller, by its state (R131, R133, R154). -/
def State.tickPass (s : State) : State :=
  match s.pass.record with
  | none => s
  | some r =>
    if s.pass.state.inRun then s.tickRun r
    else if s.pass.state.inStep then
      match r.step with
      | some f => s.tickStep r f
      | none => s
    else if s.pass.state = .approaching then s.tickApproach
    else s

end Sys2Proof.Machine
end

