-- ==== Sys2Proof/Machine/FaultOps.lean ====
section
/-! DEFINITION. The step output and fault unit (file 09): the three stages of an axis's tick, trips, the
E-stop and the supply monitor, and how a fault reaches the owners. -/

namespace Sys2Proof.Machine

/-! ## Faults and the owners (R101, R105, R142, R143, R161) -/

/-- A fault reaches the pass controller (R142, R143, R161). -/
def State.faultPass (s : State) (cause : ReportCause) : State :=
  if s.pass.state.inRun || s.pass.state.inStep then s.endRun .faulted (some cause)
  else
    match s.pass.state with
    | .approaching => s.approachGivenUp
    | .atStart => s.withPass { s.pass with state := .armed }
    | _ => s

/-- An axis trips (R168): the drive is TRIPPED and its pulses dropped, the trip record is written,
AXIS_TRIP is raised, and the trip is handed to the owner. -/
def State.tripAxis (s : State) (a : AxisId) : State :=
  let x := s.axis a
  let s1 := (s.setAxis a { x with
    drive := .tripped, pulses := 0, trip := some { error := x.followingError, owner := x.owner } }).raise
      .axisTrip
  match x.owner with
  | .pass => s1.faultPass (.trip a)
  | .park => s1.faultPark .trip
  | .home => s1.faultHome a .trip
  | .none => s1

/-- Steps 1 and 3 of R170, with the cause ESTOP or SUPPLY: every drive OFF, and the fault handed to every
owner. -/
def State.allDrivesOff (s : State) (cause : ReportCause) (motion : MotionCause) : State :=
  let s1 := s.onAxes Axis.driveOff
  let s2 := s1.faultPass cause
  let s3 := s2.faultPark motion
  forAxes allAxes (fun a t => t.faultHome a motion) s3

/-- An assertion of the E-stop input (R170). -/
def State.estopAsserted (s : State) : State :=
  let s1 := { s with estop := true }.onAxes Axis.driveOff
  (s1.raise .estop).allDrivesOff .estop .estop

/-! ## The supply monitor (R172 to R174) -/

/-- The threshold of a supply level, in tenths of a volt (R172). -/
def supplyThreshold : Nat → Nat
  | 0 => 180
  | 1 => 240
  | 2 => 360
  | _ => 480

/-- The supply STOP: as an E-stop assertion, with cause SUPPLY (R173). -/
def State.supplyStop (s : State) : State :=
  match s.supplyAction with
  | .flag => s
  | .stop => s.allDrivesOff .supply .supply

/-- The monitor compares the voltage with the threshold (R172): OK becomes LOW below it, with SUPPLY_LOW
and the action; LOW becomes OK at 1 V above it, with SUPPLY_OK. -/
def State.compareSupply (s : State) : State :=
  if s.supplyLow then
    if supplyThreshold s.supplyLevel + 10 ≤ s.supplyTenths then
      { s with supplyLow := false }.raise .supplyOk
    else s
  else if s.supplyTenths < supplyThreshold s.supplyLevel then
    ({ s with supplyLow := true }.raise .supplyLow).supplyStop
  else s

/-- An enable is refused ESTOP: the E-stop is asserted, or the supply is LOW with action STOP (R91). -/
def State.enableBarred (s : State) : Bool :=
  s.estop || (s.supplyLow && decide (s.supplyAction = .stop))

/-! ## The tick of an axis (R163 to R167) -/

/-- Stage 1: the setpoint of a pass-owned axis within its soft limits (R164). -/
def Axis.clampedSetpoint (x : Axis) : Int :=
  match x.owner with
  | .pass => saturate x.conf.softLow x.conf.softHigh x.setpoint
  | .none => x.setpoint
  | .home => x.setpoint
  | .park => x.setpoint

/-- Stage 2: the demand of a setpoint, clamped to Pmax with its sign (R165). -/
def Axis.issued (x : Axis) (setpoint : Int) : Int :=
  saturate (-(x.conf.pmax : Int)) (x.conf.pmax : Int) (setpoint - x.stepPosition)

/-- The three stages of an ON axis on a tick, up to the error it stores (R164 to R166). -/
def Axis.outputTick (x : Axis) : Axis :=
  let sp := x.clampedSetpoint
  let n := x.issued sp
  { x with
    setpoint := sp
    softClamp := x.softClamp || decide (sp ≠ x.setpoint)
    stepPosition := x.stepPosition + n
    pulseClamp := x.pulseClamp || decide (n ≠ sp - x.stepPosition)
    dirPositive := if n = 0 then x.dirPositive else decide (0 < n)
    pulses := n.natAbs
    followingError := saturateError (sp - x.encoder) }

/-- The larger of an axis's peak and a magnitude (R145, R166). -/
def Report.peak (a : AxisId) (n : Nat) (r : Report) : Report :=
  { r with peaks := r.peaks.map (List.map (fun p =>
      if p.axis = a then { p with magnitude := max p.magnitude n } else p)) }

/-- What the stages of a pass-owned axis hand to the report (R145, R164 to R167): `x` before and `y`
after them. -/
def Report.handOver (a : AxisId) (x y : Axis) (r : Report) : Report :=
  let r1 := if y.setpoint ≠ x.setpoint then r.note (fun c => { c with setpointClamped := true }) else r
  let r2 := if y.stepPosition ≠ y.setpoint then r1.note (fun c => { c with pulseClamped := true }) else r1
  let r3 := if y.conf.feWarn < y.followingError.natAbs then r2.note (fun c => { c with feWarn := true })
    else r2
  if r3.outcome = .running then r3.peak a y.followingError.natAbs else r3

/-- The tick of an axis up to the error it stores, and what it hands to the report (R90, R163 to R167). -/
def State.tickAxis (a : AxisId) (s : State) : State :=
  let x := s.axis a
  match x.drive with
  | .on =>
    let y := x.outputTick
    let s1 := s.setAxis a y
    if x.owner = .pass then s1.withPass { s1.pass with report := s1.pass.report.handOver a x y } else s1
  | .off => s.setAxis a x.idleTick
  | .settling _ => s.setAxis a x.idleTick
  | .tripped => s.setAxis a x.idleTick

/-- The trip of an axis is suspended: its owner is HOME by the STOP method (R168). -/
def Axis.tripSuspended (x : Axis) : Bool :=
  decide (x.owner = .home) && decide (x.conf.homeMethod = .stop)

/-- The error of an axis whose drive is ON exceeds FEmax and the trip is not suspended (R168). -/
def Axis.trips (x : Axis) : Bool :=
  decide (x.drive = .on) && decide (x.conf.feMax < x.followingError.natAbs) && !x.tripSuspended

/-- The axes that trip, as the tick's errors stand. -/
def State.tripping (s : State) : List AxisId := allAxes.filter (fun a => (s.axis a).trips)

/-- The axes taken round from a number: those from it up, then those below it. -/
def rotated (n : Nat) (as : List AxisId) : List AxisId :=
  as.filter (fun a => decide (n ≤ a.val)) ++ as.filter (fun a => decide (a.val < n))

/-- The trips of a tick. When several axes trip they are tripped "in any order" (R168): round from a free
value (entry 13). Each trips on the error and the FEmax of its own stage 3: a record that an earlier trip
of the tick applies is first used on the next tick (R85). -/
def State.tickTrips (s : State) : State :=
  match s.tripping with
  | [] => s
  | [a] => s.tripAxis a
  | as =>
    forAxes (rotated (Config.firstToTrip s.freeIx).toNat as)
      (fun a t => if (t.axis a).drive = .on then t.tripAxis a else t) { s with freeIx := s.freeIx + 1 }

/-- The homes by the STOP method whose error shows the stop (R99). -/
def State.tickStops (s : State) : State :=
  forAxes allAxes
    (fun a t => if (t.axis a).drive = .on ∧ (t.axis a).atStop (t.axis a).followingError = true
      then t.stopReached a else t) s

/-- The step output of a tick: every axis up to its error, then the stops of homes and the trips (R163,
entry 14). -/
def State.tickOutput (s : State) : State :=
  (forAxes allAxes State.tickAxis s).tickStops.tickTrips

end Sys2Proof.Machine
end

