-- ==== Sys2Proof/Machine/Wire.lean ====
section
/-! DEFINITION. The wire formats (file 11): the CRC, the markers, the reason codes, the command frames
with their argument lengths, and the units the links send with their result bytes. -/

namespace Sys2Proof.Machine

/-! ## The CRC (R193) -/

/-- One bit of the CRC register: polynomial 8005h, most significant bit first. -/
def crcShift (r : Crc) : Crc := if r.msb then (r <<< 1) ^^^ 0x8005#16 else r <<< 1

/-- One byte enters the register. -/
def crcByte (r : Crc) (b : Byte) : Crc :=
  crcShift (crcShift (crcShift (crcShift (crcShift (crcShift (crcShift (crcShift
    (r ^^^ (b.setWidth 16 <<< 8)))))))))

/-- The CRC of some bytes: the register starts at FFFFh, with no final inversion. -/
def crcOf (bs : List Byte) : Crc := bs.foldl crcByte 0xFFFF#16

/-- The two CRC bytes, high byte first. -/
def crcBytes (c : Crc) : List Byte := [(c >>> 8).setWidth 8, c.setWidth 8]

/-- Bytes with the CRC over all of them behind. -/
def withCrc (bs : List Byte) : List Byte := bs ++ crcBytes (crcOf bs)

/-! ## Numbers (R192) -/

/-- The n low bytes of a number, most significant first. -/
def beBytes : Nat → Nat → List Byte
  | 0, _ => []
  | n + 1, x => BitVec.ofNat 8 (x / 256 ^ n) :: beBytes n x

/-- A signed number on n bytes, in two's complement. -/
def sBytes (n : Nat) (x : Int) : List Byte := beBytes n (x % ((256 ^ n : Nat) : Int)).toNat

/-- One byte. -/
def byte1 (x : Nat) : List Byte := beBytes 1 x

/-- A field that may be absent, behind its presence byte (R192). -/
def presence {α : Type} (f : α → List Byte) : Option α → List Byte
  | none => [0x00#8]
  | some x => 0x01#8 :: f x

/-- NO or YES, OFF or ON, CLEAR or SET, LOW or HIGH: 00h or 01h. -/
def boolByte (b : Bool) : List Byte := [if b then 0x01#8 else 0x00#8]

/-- A list of varying length, behind its count byte (R194). -/
def counted {α : Type} (f : α → List Byte) (xs : List α) : List Byte :=
  byte1 xs.length ++ xs.flatMap f

/-! ## Command frames (section 11.4, R192) -/

/-- The code of a command frame's command; none for a command that no frame carries. -/
def commandCode : Instr → Option Nat
  | .status _ => some 0x00
  | .eventsRead _ => some 0x01
  | .eventsMask _ _ => some 0x02
  | .eventsClear _ _ => some 0x03
  | .crcMode _ _ => some 0x04
  | .reset _ => some 0x05
  | .faultStatus _ => some 0x07
  | .moveInfo _ _ => some 0x10
  | .keysGet _ _ _ => some 0x11
  | .moveNew _ _ _ _ _ _ => some 0x12
  | .moveSpan _ _ _ _ _ => some 0x13
  | .moveLabel _ _ _ _ => some 0x14
  | .keysPut _ _ _ _ => some 0x15
  | .keyMarkFirst _ _ _ _ _ => some 0x16
  | .keyMarkLast _ _ _ => some 0x17
  | .keyDrop _ _ => some 0x18
  | .trackClear _ _ _ _ => some 0x19
  | .moveCopy _ _ _ _ => some 0x1A
  | .moveRetire _ _ _ => some 0x1B
  | .moveProtect _ _ _ => some 0x1C
  | .moveUnprotect _ _ _ => some 0x1D
  | .moveCheck _ _ _ => some 0x20
  | .axisSet _ _ _ => some 0x30
  | .axisGet _ _ => some 0x31
  | .axisEnable _ _ => some 0x32
  | .axisDisable _ _ => some 0x33
  | .axisHome _ _ => some 0x34
  | .axisPark _ _ => some 0x35
  | .axisStop _ _ => some 0x36
  | .passArm _ _ => some 0x40
  | .passGoStart _ => some 0x41
  | .passRun _ => some 0x42
  | .passHold _ => some 0x43
  | .passResume _ => some 0x44
  | .passAbort _ => some 0x45
  | .passDisarm _ => some 0x46
  | .passStep _ _ _ => some 0x47
  | .passExpose _ => some 0x48
  | .passStatus _ => some 0x49
  | .clockStatus _ => some 0x4A
  | .supplySet _ _ _ => some 0x50
  | .hardReset | .initializationEnd | .softReset | .commandFrameRejected _ _ | .dataBlock _ _
  | .endMarker _ | .collectRequest _ | .linkDeselect _ | .dataBlockApplied | .keyDropEnd
  | .trackClearEnd | .moveCopyEnd | .moveRetireEnd | .checkEnd | .servoTick | .driveSettleEnd _
  | .putTransferTimeout _ | .getTransferTimeout _ | .parkEaseEnd | .parkStopAtRest | .approachEaseEnd
  | .approachStopAtRest | .homeBrakingAtRest _ | .homeFinishingAtRest _ | .homeStopReached _
  | .homeTravelExceeded _ | .homeAbandonAtRest _ | .holdRampEnd | .resumeRampEnd | .stopRampEnd
  | .syncLossTimeout | .lockTimeout | .stepEaseEnd | .stepSettleEnd | .exposureTimeEnd
  | .exposureTimeout | .cameraFrameEdge _ | .rollTriggerEdge | .stepAdvanceEdge | .exposureDoneEdge
  | .estopAssert | .estopRelease | .supplyMonitorLow _ | .supplyMonitorOk _ | .homeSwitchAssert _
  | .homeSwitchRelease _ | .encoderTransition _ _ | .getDataBlockSent _ => none

/-- A command code is assigned (section 11.4). -/
def codeAssigned (c : Nat) : Bool :=
  [0x00, 0x01, 0x02, 0x03, 0x04, 0x05, 0x07, 0x10, 0x11, 0x12, 0x13, 0x14, 0x15, 0x16, 0x17, 0x18, 0x19,
   0x1A, 0x1B, 0x1C, 0x1D, 0x20, 0x30, 0x31, 0x32, 0x33, 0x34, 0x35, 0x36, 0x40, 0x41, 0x42, 0x43, 0x44,
   0x45, 0x46, 0x47, 0x48, 0x49, 0x4A, 0x50].contains c

/-- A length of a store edit, with or without its expected generation: the column's "+2". -/
def orWithExp (n len : Nat) : Bool := len == n || len == n + 2

/-- The byte at a place of the arguments, as a number. -/
def argAt (args : List Byte) (i : Nat) : Nat := (args.drop i).headD 0 |>.toNat

/-- The number on n bytes at a place of the arguments. -/
def argNat (args : List Byte) (i n : Nat) : Nat := beNat ((args.drop i).take n)

/-- The signed number on n bytes at a place of the arguments. -/
def argInt (args : List Byte) (i n : Nat) : Int := beInt ((args.drop i).take n)

/-- The place of PASS_ARM's axis count: behind the presence byte, and the pass rate where it is present. -/
def passCountAt (args : List Byte) : Nat := if argAt args 7 = 1 then 12 else 8

/-- The argument length is one the command accepts (section 11.4), by code and arguments. -/
def lengthAccepted (code : Nat) (args : List Byte) : Bool :=
  let n := args.length
  match code with
  | 0x00 | 0x01 | 0x05 | 0x07 => n == 0
  | 0x41 | 0x42 | 0x43 | 0x44 | 0x45 | 0x46 | 0x48 | 0x49 | 0x4A => n == 0
  | 0x02 | 0x03 => n == 3
  | 0x04 | 0x10 | 0x31 | 0x32 | 0x33 | 0x34 | 0x36 => n == 1
  | 0x11 | 0x47 | 0x50 => n == 2
  | 0x12 => decide (6 ≤ n) && orWithExp (6 + argAt args 5) n
  | 0x13 => orWithExp 5 n
  | 0x14 => decide (2 ≤ n) && orWithExp (2 + argAt args 1) n
  | 0x15 | 0x17 | 0x19 | 0x1A => orWithExp 2 n
  | 0x16 => orWithExp 4 n
  | 0x18 => orWithExp 0 n
  | 0x1B | 0x1C | 0x1D | 0x20 => orWithExp 1 n
  | 0x30 => n == 55
  | 0x35 => decide (n ≤ 80) && n % 5 == 0
  | 0x40 =>
    decide (passCountAt args < n) && n == 16 + passCountAt args + 5 * argAt args (passCountAt args)
  | _ => false

/-- The expected generation of a store edit, when its two bytes stand after all the other arguments. -/
def expBytes : Option Nat → List Byte
  | none => []
  | some g => beBytes 2 g

/-- A label behind its length byte. -/
def labelBytes (label : List Byte) : List Byte := byte1 label.length ++ label

/-- A pair of axis and count: 5 bytes. -/
def pairBytes (p : Nat × Int) : List Byte := byte1 p.1 ++ sBytes 4 p.2

/-- The record fields of AXIS_SET, in the order of R82. -/
def recordArgBytes (r : RecordArgs) : List Byte :=
  sBytes 4 r.softLow ++ sBytes 4 r.softHigh ++ beBytes 4 r.vmax ++ beBytes 4 r.amax ++ beBytes 4 r.jmax ++
  beBytes 4 r.vc ++ beBytes 4 r.ac ++ beBytes 2 r.pmax ++ sBytes 4 r.feMax ++ sBytes 4 r.feWarn ++
  byte1 r.homeMethod ++ byte1 r.homeDirection ++ beBytes 4 r.homeSpeed ++ sBytes 4 r.homeOffset ++
  sBytes 4 r.searchTravel ++ beBytes 2 r.settleTime

/-- The fields of PASS_ARM in the order of section 11.1. -/
def passArgBytes (p : PassArgs) : List Byte :=
  byte1 p.slot ++ beBytes 2 p.first ++ beBytes 2 p.last ++ byte1 p.direction ++ byte1 p.mode ++
  byte1 p.ratePresence ++ (if p.ratePresence = 1 then beBytes 4 p.rate else []) ++
  byte1 p.axes.length ++ p.axes.flatMap pairBytes ++ byte1 p.lead ++ byte1 p.trail ++
  beBytes 2 p.holdRamp ++ beBytes 2 p.stopRamp ++ byte1 p.rollSource ++ beBytes 2 p.stepTime ++
  beBytes 2 p.stepSettle ++ byte1 p.exposureControl ++ beBytes 2 p.exposureTime ++ byte1 p.stepInput

/-- The argument bytes of a command, in the order its rule names them (R192). -/
def commandArgs : Instr → List Byte
  | .eventsMask _ m => beBytes 3 m.toNat
  | .eventsClear _ k => beBytes 3 k.toNat
  | .crcMode _ m => byte1 m
  | .moveInfo _ s => byte1 s
  | .keysGet _ s t => byte1 s ++ byte1 t
  | .moveNew _ s f n lab e => byte1 s ++ beBytes 2 f ++ beBytes 2 n ++ labelBytes lab ++ expBytes e
  | .moveSpan _ s f n e => byte1 s ++ beBytes 2 f ++ beBytes 2 n ++ expBytes e
  | .moveLabel _ s lab e => byte1 s ++ labelBytes lab ++ expBytes e
  | .keysPut _ s t e => byte1 s ++ byte1 t ++ expBytes e
  | .keyMarkFirst _ s t f e => byte1 s ++ byte1 t ++ beBytes 2 f ++ expBytes e
  | .keyMarkLast _ f e => beBytes 2 f ++ expBytes e
  | .keyDrop _ e => expBytes e
  | .trackClear _ s t e => byte1 s ++ byte1 t ++ expBytes e
  | .moveCopy _ s d e => byte1 s ++ byte1 d ++ expBytes e
  | .moveRetire _ s e => byte1 s ++ expBytes e
  | .moveProtect _ s e => byte1 s ++ expBytes e
  | .moveUnprotect _ s e => byte1 s ++ expBytes e
  | .moveCheck _ s e => byte1 s ++ expBytes e
  | .axisSet _ a r => byte1 a ++ recordArgBytes r
  | .axisGet _ a => byte1 a
  | .axisEnable _ a => byte1 a
  | .axisDisable _ a => byte1 a
  | .axisHome _ a => byte1 a
  | .axisPark _ ts => ts.flatMap pairBytes
  | .axisStop _ a => byte1 a
  | .passArm _ p => passArgBytes p
  | .passStep _ c d => byte1 c ++ byte1 d
  | .supplySet _ v act => byte1 v ++ byte1 act
  | _ => []

/-- The items a partner sends (R177). -/
inductive ItemKind where
  | commandFrame
  | dataBlock
  | endMarker
  | collectRequest
deriving DecidableEq, Repr

/-- The first byte of each item (R193). -/
def ItemKind.marker : ItemKind → Byte
  | .commandFrame => 0xC3#8
  | .dataBlock => 0xF1#8
  | .endMarker => 0xF4#8
  | .collectRequest => 0xF2#8

/-- The kind of item that the first byte of a selection decides; a byte of no item makes the link ignore the
selection (R177). -/
def itemKind (b : Byte) : Option ItemKind :=
  [ItemKind.commandFrame, .dataBlock, .endMarker, .collectRequest].find? (fun k => decide (k.marker = b))

/-- The bytes of a command frame after the command marker C3h: code, length, arguments, CRC (R193). -/
def frameBytes (i : Instr) : Option (List Byte) :=
  (commandCode i).map (fun c =>
    withCrc (BitVec.ofNat 8 c :: BitVec.ofNat 8 (commandArgs i).length :: commandArgs i))

/-- The expected generation at a place of the arguments, when its two bytes are there. -/
def argExp (args : List Byte) (i : Nat) : Option Nat :=
  if args.length = i + 2 then some (argNat args i 2) else none

/-- Pairs of axis and count from a place of the arguments on. -/
def argPairs (args : List Byte) (i : Nat) : Nat → List (Nat × Int)
  | 0 => []
  | k + 1 => (argAt args i, argInt args (i + 1) 4) :: argPairs args (i + 5) k

/-- The record fields of AXIS_SET from its arguments. -/
def recordArgsAt (args : List Byte) : RecordArgs :=
  { softLow := argInt args 1 4, softHigh := argInt args 5 4, vmax := argNat args 9 4,
    amax := argNat args 13 4, jmax := argNat args 17 4, vc := argNat args 21 4, ac := argNat args 25 4,
    pmax := argNat args 29 2, feMax := argInt args 31 4, feWarn := argInt args 35 4,
    homeMethod := argAt args 39, homeDirection := argAt args 40, homeSpeed := argNat args 41 4,
    homeOffset := argInt args 45 4, searchTravel := argInt args 49 4, settleTime := argNat args 53 2 }

/-- The fields of PASS_ARM from its arguments. -/
def passArgsAt (args : List Byte) : PassArgs :=
  let c := passCountAt args
  let k := argAt args c
  let e := c + 1 + 5 * k
  { slot := argAt args 0, first := argNat args 1 2, last := argNat args 3 2, direction := argAt args 5,
    mode := argAt args 6, ratePresence := argAt args 7,
    rate := if argAt args 7 = 1 then argNat args 8 4 else 0, axes := argPairs args (c + 1) k,
    lead := argAt args e, trail := argAt args (e + 1), holdRamp := argNat args (e + 2) 2,
    stopRamp := argNat args (e + 4) 2, rollSource := argAt args (e + 6),
    stepTime := argNat args (e + 7) 2, stepSettle := argNat args (e + 9) 2,
    exposureControl := argAt args (e + 11), exposureTime := argNat args (e + 12) 2,
    stepInput := argAt args (e + 14) }

/-- The command a code and its arguments give on a link, when the code is assigned and the argument length
is one it accepts (R178, R192). -/
def readCommand (l : LinkId) (code : Nat) (args : List Byte) : Option Instr :=
  if !lengthAccepted code args then none
  else
    match code with
    | 0x00 => some (.status l)
    | 0x01 => some (.eventsRead l)
    | 0x02 => some (.eventsMask l (BitVec.ofNat 24 (argNat args 0 3)))
    | 0x03 => some (.eventsClear l (BitVec.ofNat 24 (argNat args 0 3)))
    | 0x04 => some (.crcMode l (argAt args 0))
    | 0x05 => some (.reset l)
    | 0x07 => some (.faultStatus l)
    | 0x10 => some (.moveInfo l (argAt args 0))
    | 0x11 => some (.keysGet l (argAt args 0) (argAt args 1))
    | 0x12 =>
      some (.moveNew l (argAt args 0) (argNat args 1 2) (argNat args 3 2)
        ((args.drop 6).take (argAt args 5)) (argExp args (6 + argAt args 5)))
    | 0x13 =>
      some (.moveSpan l (argAt args 0) (argNat args 1 2) (argNat args 3 2) (argExp args 5))
    | 0x14 =>
      some (.moveLabel l (argAt args 0) ((args.drop 2).take (argAt args 1))
        (argExp args (2 + argAt args 1)))
    | 0x15 => some (.keysPut l (argAt args 0) (argAt args 1) (argExp args 2))
    | 0x16 => some (.keyMarkFirst l (argAt args 0) (argAt args 1) (argNat args 2 2) (argExp args 4))
    | 0x17 => some (.keyMarkLast l (argNat args 0 2) (argExp args 2))
    | 0x18 => some (.keyDrop l (argExp args 0))
    | 0x19 => some (.trackClear l (argAt args 0) (argAt args 1) (argExp args 2))
    | 0x1A => some (.moveCopy l (argAt args 0) (argAt args 1) (argExp args 2))
    | 0x1B => some (.moveRetire l (argAt args 0) (argExp args 1))
    | 0x1C => some (.moveProtect l (argAt args 0) (argExp args 1))
    | 0x1D => some (.moveUnprotect l (argAt args 0) (argExp args 1))
    | 0x20 => some (.moveCheck l (argAt args 0) (argExp args 1))
    | 0x30 => some (.axisSet l (argAt args 0) (recordArgsAt args))
    | 0x31 => some (.axisGet l (argAt args 0))
    | 0x32 => some (.axisEnable l (argAt args 0))
    | 0x33 => some (.axisDisable l (argAt args 0))
    | 0x34 => some (.axisHome l (argAt args 0))
    | 0x35 => some (.axisPark l (argPairs args 0 (args.length / 5)))
    | 0x36 => some (.axisStop l (argAt args 0))
    | 0x40 => some (.passArm l (passArgsAt args))
    | 0x41 => some (.passGoStart l)
    | 0x42 => some (.passRun l)
    | 0x43 => some (.passHold l)
    | 0x44 => some (.passResume l)
    | 0x45 => some (.passAbort l)
    | 0x46 => some (.passDisarm l)
    | 0x47 => some (.passStep l (argAt args 0) (argAt args 1))
    | 0x48 => some (.passExpose l)
    | 0x49 => some (.passStatus l)
    | 0x4A => some (.clockStatus l)
    | 0x50 => some (.supplySet l (argAt args 0) (argAt args 1))
    | _ => none

/-! ## The tests of a command frame (R178) -/

/-- What the tests of R178 make of the bytes after the command marker. -/
inductive FrameTest where
  /-- The last CRC byte has not arrived. -/
  | incomplete
  | frameError
  | illegal
  /-- The frame passes: code and arguments. -/
  | passes (code : Nat) (args : List Byte)
deriving DecidableEq, Repr

/-- The tests of R178, in order, under a CRC mode. -/
def testFrame (crcOn : Bool) (bs : List Byte) : FrameTest :=
  match bs with
  | code :: len :: rest =>
    if 240 < len.toNat then
      if rest.length < 2 then .incomplete else .frameError
    else if rest.length < len.toNat + 2 then .incomplete
    else
      let args := rest.take len.toNat
      let crc := (rest.drop len.toNat).take 2
      if crcOn && decide (crc ≠ crcBytes (crcOf (code :: len :: args))) then .frameError
      else if !codeAssigned code.toNat then .illegal
      else if !lengthAccepted code.toNat args then .frameError
      else .passes code.toNat args
  | _ => .incomplete

/-- The bytes a partner sends in the selection of an item, its marker first (R193); none for a row that is no
item of a link. The rows of rejected frames and of data blocks carry their bytes themselves. -/
def itemBytes (i : Instr) : Option (List Byte) :=
  match i with
  | .commandFrameRejected _ bs => some bs
  | .dataBlock _ bs => some bs
  | .endMarker _ => some [ItemKind.endMarker.marker]
  | .collectRequest _ => some [ItemKind.collectRequest.marker]
  | _ => (frameBytes i).map (ItemKind.commandFrame.marker :: ·)

/-- The row that the bytes of a selection of a link are, under its CRC mode (R177, R178): the first byte decides,
and bytes behind the last byte of the item are ignored. -/
def readItem (crcOn : Bool) (l : LinkId) (bs : List Byte) : Option Instr :=
  match bs with
  | [] => none
  | b :: rest =>
    match itemKind b with
    | some .commandFrame =>
      (match testFrame crcOn rest with
       | .passes code args => readCommand l code args
       | _ => some (.commandFrameRejected l bs))
    | some .dataBlock => some (.dataBlock l bs)
    | some .endMarker => some (.endMarker l)
    | some .collectRequest => some (.collectRequest l)
    | none => none

/-! ## The tests of a data block (R184) -/

/-- What the reception of the bytes after the data-block marker makes of them. -/
inductive BlockTest where
  | incomplete
  | frameError
  | received (b : DataBlock)
deriving DecidableEq, Repr

/-- Tests 1 and 2 of R184 for a block read by a key size. -/
def testBlock (crcOn : Bool) (size : Nat) (bs : List Byte) : BlockTest :=
  match bs with
  | [] => .incomplete
  | count :: rest =>
    if count.toNat = 0 ∨ 16 < count.toNat then
      if rest.length < 2 then .incomplete else .frameError
    else if rest.length < count.toNat * size + 2 then .incomplete
    else
      let body := rest.take (count.toNat * size)
      let crc := (rest.drop (count.toNat * size)).take 2
      if crcOn && decide (crc ≠ crcBytes (crcOf (count :: body))) then .frameError
      else .received { count := count.toNat, body := body }

/-! ## The units the links send (R193, R194) -/

/-- The code of a reason (R193): their numbers in the order of R182. -/
def Reason.code : Reason → Byte
  | .none => 0x00#8
  | .state => 0x01#8
  | .range => 0x02#8
  | .held => 0x03#8
  | .isProtected => 0x04#8
  | .stale => 0x05#8
  | .full => 0x06#8
  | .order => 0x07#8
  | .spanKey => 0x08#8
  | .trackInUse => 0x09#8
  | .sequence => 0x0A#8
  | .notReady => 0x0B#8
  | .notHomed => 0x0C#8
  | .owned => 0x0D#8
  | .limits => 0x0E#8
  | .ceiling => 0x0F#8
  | .mode => 0x10#8
  | .notConfigured => 0x11#8
  | .estop => 0x12#8
  | .noTransfer => 0x13#8
  | .overrun => 0x14#8
  | .busyOther => 0x15#8

/-- A track: 00h to 0Fh for the axes, 10h for SPEED. -/
def trackByte : TrackId → List Byte
  | .axis a => byte1 a.val
  | .speed => byte1 16

/-- An axis. -/
def axisByte (a : AxisId) : List Byte := byte1 a.val

/-- The key of an axis track on 13 bytes; 000000h in the slopes of an AUTO or FLAT key (R192, 11.3). -/
def axisKeyBytes (k : AxisKey) : List Byte :=
  beBytes 2 k.frame ++ sBytes 4 k.value ++
  (match k.mode with
   | .auto => byte1 0 ++ sBytes 3 0 ++ sBytes 3 0
   | .flat => byte1 1 ++ sBytes 3 0 ++ sBytes 3 0
   | .given i o => byte1 2 ++ sBytes 3 i ++ sBytes 3 o)

/-- A speed key on 6 bytes. -/
def speedKeyBytes (k : SpeedKey) : List Byte := beBytes 2 k.frame ++ beBytes 4 k.rate

/-- The key count and the keys of a block. -/
def blockBytes : BlockKeys → List Byte
  | .axis ks => byte1 ks.length ++ ks.flatMap axisKeyBytes
  | .speed ks => byte1 ks.length ++ ks.flatMap speedKeyBytes

/-- The state of a slot, numbered EMPTY, OPEN, CHECKING, READY, BOUND (R3). -/
def slotStateByte : Option MoveState → List Byte
  | none => byte1 0
  | some .opened => byte1 1
  | some .checking => byte1 2
  | some .ready => byte1 3
  | some .bound => byte1 4

/-- FORWARD 00h, REVERSE 01h. -/
def directionByte : Direction → List Byte
  | .forward => byte1 0
  | .reverse => byte1 1

/-- MASTER 00h, FOLLOWER 01h, STEP 02h. -/
def modeByte : SyncMode → List Byte
  | .master => byte1 0
  | .follower => byte1 1
  | .step => byte1 2

/-- Link A 00h, Link B 01h: no rule gives a link a code (entry 40). -/
def linkByte : LinkId → List Byte
  | .a => byte1 0
  | .b => byte1 1

/-- A limiting axis: 10h for DEVICE. -/
def limitingByte : LimitingAxis → List Byte
  | .axis a => axisByte a
  | .device => byte1 16

/-- The causes of a check summary in the order of R3. -/
def causeByte : LimitingCause → List Byte
  | .velocity => byte1 0
  | .acceleration => byte1 1
  | .corner => byte1 2
  | .deviceMax => byte1 3

/-- A check summary (R3); the extents behind a count byte. -/
def summaryBytes (s : Summary) : List Byte :=
  beBytes 4 s.ceiling ++ limitingByte s.limitingAxis ++ causeByte s.cause ++ beBytes 2 s.frame ++
  counted (fun e => sBytes 4 e.low ++ sBytes 4 e.high) s.extents

/-- The reasons of a failure record in the order of R3. -/
def failReasonByte : FailReason → List Byte
  | .emptyMove => byte1 0
  | .shortTrack => byte1 1
  | .span => byte1 2
  | .axisUnset => byte1 3
  | .tooSlow => byte1 4
  | .cancelled => byte1 5

/-- The track of a failure record: 11h for NONE. -/
def failTrackByte : Option TrackId → List Byte
  | none => byte1 17
  | some t => trackByte t

/-- A failure record (R3). -/
def failureBytes (f : Failure) : List Byte :=
  failReasonByte f.reason ++ failTrackByte f.track ++ beBytes 2 f.frame

/-- An axis record, in the order of R82. -/
def axisRecordBytes (r : AxisRecord) : List Byte :=
  sBytes 4 r.softLow ++ sBytes 4 r.softHigh ++ beBytes 4 r.vmax ++ beBytes 4 r.amax ++ beBytes 4 r.jmax ++
  beBytes 4 r.vc ++ beBytes 4 r.ac ++ beBytes 2 r.pmax ++ beBytes 4 r.feMax ++ beBytes 4 r.feWarn ++
  (match r.homeMethod with | .switch => byte1 0 | .stop => byte1 1) ++
  (match r.homeDirection with | .negative => byte1 0 | .positive => byte1 1) ++
  beBytes 4 r.homeSpeed ++ sBytes 4 r.homeOffset ++ beBytes 4 r.searchTravel ++ beBytes 2 r.settleTime

/-- The drive state; the settle remaining, an item of its own in R88, is not among AXIS_GET's results (R87). -/
def driveBytes : Drive → List Byte
  | .off => byte1 0
  | .settling _ => byte1 1
  | .on => byte1 2
  | .tripped => byte1 3

/-- The motion owners in the order of R88. -/
def ownerByte : Owner → List Byte
  | .none => byte1 0
  | .home => byte1 1
  | .park => byte1 2
  | .pass => byte1 3

/-- The home legs in the order of R88. -/
def legByte : Option HomeLeg → List Byte
  | none => byte1 0
  | some .searching => byte1 1
  | some .braking => byte1 2
  | some .backingOff => byte1 3
  | some .finishing => byte1 4
  | some .pressing => byte1 5
  | some .abandoning => byte1 6

/-- A last motion result: outcome and cause in the order of R88. -/
def motionBytes (m : MotionResult) : List Byte :=
  (match m.outcome with
   | .none => byte1 0 | .homeDone => byte1 1 | .homeFailed => byte1 2 | .parkDone => byte1 3) ++
  (match m.cause with
   | .none => byte1 0 | .travel => byte1 1 | .stopped => byte1 2 | .trip => byte1 3
   | .estop => byte1 4 | .supply => byte1 5 | .reset => byte1 6)

/-- The results of AXIS_GET (R87). -/
def axisResultBytes (x : Axis) : List Byte :=
  axisRecordBytes x.conf ++ presence axisRecordBytes x.staged ++ driveBytes x.drive ++
  (match x.datum with | .unknown => byte1 0 | .seeking => byte1 1 | .known => byte1 2) ++
  ownerByte x.owner ++ legByte (x.home.map (·.leg)) ++ sBytes 4 x.setpoint ++ sBytes 4 x.stepPosition ++
  sBytes 4 x.encoder ++ motionBytes x.lastResult

/-- The clock states in the order of R107. -/
def clockStateByte : ClockState → List Byte
  | .stopped => byte1 0
  | .clocking => byte1 1
  | .following => byte1 2
  | .stepping => byte1 3

/-- The ramp with its H and k (R126): the ramp's own byte, then H and k with a presence byte each, so that NONE and
HELD send 00h 00h behind it. R126 and R194 do not say how the three share presence bytes. DESIGN CHOICE (entry 40). -/
def rampBytes : Ramp → List Byte
  | .none => byte1 0 ++ byte1 0 ++ byte1 0
  | .hold h k => byte1 1 ++ presence (beBytes 2) (some h) ++ presence (beBytes 2) (some k)
  | .held => byte1 2 ++ byte1 0 ++ byte1 0
  | .resume h k => byte1 3 ++ presence (beBytes 2) (some h) ++ presence (beBytes 2) (some k)
  | .stop h k => byte1 4 ++ presence (beBytes 2) (some h) ++ presence (beBytes 2) (some k)

/-- The lock states in the order of R107. -/
def lockByte : LockState → List Byte
  | .acquiring => byte1 0
  | .locked => byte1 1
  | .syncLost => byte1 2

/-- The results of CLOCK_STATUS (R126): a phase or travel limit 5 bytes, a period 4, the current frame 3, since
−255 to 65,790 does not fit a frame's 2 (R194). The items are those R126 lists; the last accepted edge, which
R107's "reads all of these" would take in and R126 leaves out, is left out (entry 40). -/
def clockBytes (c : Clock) : List Byte :=
  clockStateByte c.state ++ presence modeByte c.mode ++ presence directionByte c.direction ++
  sBytes 5 c.phase ++ sBytes 3 c.currentFrame ++ presence (sBytes 5) c.travelLimit ++
  beBytes 3 c.remainder ++ beBytes 4 c.baseRate ++ beBytes 4 c.appliedRate ++ rampBytes c.ramp ++
  presence lockByte c.lock ++ presence boolByte c.firstFrameBegun ++ presence (beBytes 4) c.lastPeriod ++
  presence (beBytes 4) c.previousPeriod ++ byte1 c.stableCount ++ beBytes 2 c.increment ++
  beBytes 4 c.measuredRate ++ byte1 c.glitchCount ++ boolByte c.cameraSync

/-- The pass states in the order of R127, the step states of file 08 behind them. -/
def passStateByte : PassState → List Byte
  | .idle => byte1 0
  | .armed => byte1 1
  | .approaching => byte1 2
  | .atStart => byte1 3
  | .rolling => byte1 4
  | .running => byte1 5
  | .holding => byte1 6
  | .held => byte1 7
  | .resuming => byte1 8
  | .stopping => byte1 9
  | .trailing => byte1 10
  | .ended => byte1 11
  | .stepMoving => byte1 12
  | .stepSettling => byte1 13
  | .exposing => byte1 14
  | .stepReady => byte1 15

/-- The step fields of a pass record (R128). -/
def stepFieldBytes (f : StepFields) : List Byte :=
  beBytes 2 f.stepTime ++ beBytes 2 f.settle ++
  (match f.exposure with
   | .timed n => byte1 0 ++ beBytes 2 n
   | .handshake n => byte1 1 ++ beBytes 2 n) ++ boolByte f.inputEnable

/-- A pass record (R128). -/
def passRecordBytes (r : PassRecord) : List Byte :=
  byte1 r.slot ++ beBytes 2 r.first ++ beBytes 2 r.last ++ directionByte r.direction ++ modeByte r.mode ++
  presence (beBytes 4) r.rate ++ counted (fun p => axisByte p.axis) r.axes ++
  counted (fun p => sBytes 4 p.offset) r.axes ++ byte1 r.lead ++ byte1 r.trail ++ beBytes 2 r.holdRamp ++
  beBytes 2 r.stopRamp ++ (match r.rollSource with | .command => byte1 0 | .trigger => byte1 1) ++
  presence stepFieldBytes r.step

/-- A report's cause (R144): TRIP is followed by its axis. -/
def reportCauseBytes : ReportCause → List Byte
  | .command => byte1 0
  | .overspeed => byte1 1
  | .trip a => byte1 2 ++ axisByte a
  | .estop => byte1 3
  | .supply => byte1 4

/-- A report's conditions: a bit field in the order of R144. -/
def conditionsByte (c : Conditions) : List Byte :=
  [(if c.syncLost then 0x01#8 else 0) ||| (if c.relocked then 0x02#8 else 0) |||
   (if c.held then 0x04#8 else 0) ||| (if c.setpointClamped then 0x08#8 else 0) |||
   (if c.pulseClamped then 0x10#8 else 0) ||| (if c.feWarn then 0x20#8 else 0) |||
   (if c.exposeTimeout then 0x40#8 else 0)]

/-- The pass report with its exact flag (R144). -/
def reportBytes (exact : Bool) (r : Report) : List Byte :=
  (match r.outcome with
   | .none => byte1 0 | .running => byte1 1 | .complete => byte1 2 | .aborted => byte1 3
   | .faulted => byte1 4 | .reset => byte1 5) ++
  presence reportCauseBytes r.cause ++ beBytes 3 r.frames ++ conditionsByte r.conditions ++
  boolByte exact ++ presence (counted (fun p => beBytes 4 p.magnitude)) r.peaks

/-- The stepping state (R150), as PASS_STATUS returns it: the eight items of the table, without the committed
frame, which follows from them (entry 40). The start value and the distance of the step ease stand without a count
byte: R80 has them "one per eased quantity", R150 has one quantity, and R194 does not say whether that is a
list of varying length. DESIGN CHOICE (entry 40). -/
def steppingBytes (t : Stepping) : List Byte :=
  byte1 t.pending ++ presence directionByte t.direction ++ presence (fun n => beBytes 2 n.toNat) t.destination ++
  presence (fun e => sBytes 5 e.start ++ sBytes 4 e.dist ++ beBytes 3 e.duration ++ beBytes 3 e.elapsed)
    t.ease ++ presence (beBytes 2) t.settleRemaining ++ presence (beBytes 2) t.exposureRemaining ++
  boolByte t.abortRequested ++ boolByte t.trigger

/-- An approach as PASS_STATUS returns it: phase, elapsed, duration (R146). -/
def approachBytes (g : GroupEase) : List Byte :=
  byte1 (if g.stopping then 1 else 0) ++ beBytes 3 g.elapsed ++ beBytes 3 g.duration

/-- The results of PASS_STATUS (R146); the stepping state follows in STEP mode, without a presence byte: the sync
mode of the record tells whether it stands there (entry 40). -/
def passBytes (exact : Bool) (p : Pass) : List Byte :=
  passStateByte p.state ++ presence passRecordBytes p.record ++
  presence (fun c => match c with | .command => byte1 0 | .overspeed => byte1 1) p.stopCause ++
  presence boolByte p.endReached ++ presence approachBytes p.approach ++ boolByte p.cameraRun ++
  reportBytes exact p.report ++
  (match p.record with
   | some r => if r.mode = .step then steppingBytes p.stepping else []
   | none => [])

/-- An open key transfer as STATUS returns it (R183): one byte for none, put or get, which no rule numbers, in place
of a presence byte and a kind (entry 40). -/
def transferBytes : Option Transfer → List Byte
  | none => byte1 0
  | some (.put s t a _) => byte1 1 ++ byte1 s ++ trackByte t ++ beBytes 2 a
  | some (.get s t g _ n _ _) => byte1 2 ++ byte1 s ++ trackByte t ++ beBytes 2 g ++ beBytes 2 n

/-- Range marks as STATUS returns them (R183): one byte for absent, first or both, which no rule numbers
(entry 40). -/
def marksBytes : Marks → List Byte
  | .absent => byte1 0
  | .first s t f => byte1 1 ++ byte1 s ++ trackByte t ++ beBytes 2 f
  | .both s t f n => byte1 2 ++ byte1 s ++ trackByte t ++ beBytes 2 f ++ beBytes 2 n

/-- The results of STATUS (R183); behind WORKING stand the link and its target slots with a count byte (entry 40). -/
def statusBytes (i : StatusInfo) : List Byte :=
  (match i.phase with | .initializing => byte1 0 | .serving => byte1 1) ++
  (match i.edit with
   | none => byte1 0
   | some (l, slots) => byte1 1 ++ linkByte l ++ counted byte1 slots) ++
  (match i.check with
   | none => byte1 0
   | some s => byte1 1 ++ byte1 s) ++
  boolByte i.crcOn ++ transferBytes i.transfer ++ boolByte i.outstanding ++ boolByte i.held ++
  marksBytes i.marks

/-- A trip record (R162). -/
def tripBytes (t : TripRecord) : List Byte := sBytes 4 t.error ++ ownerByte t.owner

/-- The results of FAULT_STATUS (R175). -/
def faultBytes (i : FaultInfo) : List Byte :=
  i.axes.flatMap (fun x =>
    boolByte x.softClamp ++ boolByte x.pulseClamp ++ sBytes 4 x.followingError ++ presence tripBytes x.trip) ++
  boolByte i.estop ++ byte1 i.supplyLevel ++
  (match i.supplyAction with | .flag => byte1 0 | .stop => byte1 1) ++ boolByte i.supplyLow

/-- The record of a slot that holds a move, behind the slot, the state and the free-block count (R16). Its results
from Protected to the speed track's counts, which R16 has present for every non-EMPTY slot, carry no presence
byte: the state tells whether they stand there. The summary and the failure record carry one each. R194 does
not tell the two apart. DESIGN CHOICE (entry 40). -/
def moveInfoBytes (i : MoveInfo) : List Byte :=
  boolByte i.isProtected ++ beBytes 2 i.generation ++ labelBytes i.label ++ beBytes 2 i.first ++
  beBytes 2 i.last ++ i.counts.flatMap (fun c => beBytes 2 c.1 ++ byte1 c.2) ++
  presence summaryBytes i.summary ++ presence failureBytes i.failure

/-- The directory (R17). -/
def directoryBytes (i : DirectoryInfo) : List Byte :=
  beBytes 2 i.free ++ byte1 i.emptySlots ++ byte1 i.lowestEmpty ++ byte1 i.boundSlot ++
  byte1 i.checkingSlot ++ i.states.flatMap slotStateByte

/-- The result bytes of a response (R194). A report's exact flag is derived as it is read (R144). The step direction
of PASS_STEP's response is never absent after an accepted PASS_STEP and carries no presence byte (R152,
entry 40). -/
def Results.bytes : Results → List Byte
  | .none => []
  | .status i => statusBytes i
  | .events f => beBytes 3 f.toNat
  | .crcMode on => boolByte on
  | .faults i => faultBytes i
  | .emptySlot slot free => byte1 slot ++ slotStateByte Option.none ++ beBytes 2 free
  | .move slot free i => byte1 slot ++ slotStateByte (some i.state) ++ beBytes 2 free ++ moveInfoBytes i
  | .directory i => directoryBytes i
  | .keysGet g n => beBytes 2 g ++ beBytes 2 n
  | .slotGeneration s g => byte1 s ++ beBytes 2 g
  | .generation g => beBytes 2 g
  | .spanKey t f => trackByte t ++ beBytes 2 f
  | .keysPut g n free => beBytes 2 g ++ beBytes 2 n ++ beBytes 2 free
  | .dropped n g => beBytes 2 n ++ beBytes 2 g
  | .cleared n free g => beBytes 2 n ++ beBytes 2 free ++ beBytes 2 g
  | .copied d g free => byte1 d ++ beBytes 2 g ++ beBytes 2 free
  | .retired n free => beBytes 2 n ++ beBytes 2 free
  | .axisSet staged => boolByte staged
  | .axis x => axisResultBytes x
  | .armed s c => byte1 s ++ beBytes 4 c
  | .disarmed st => slotStateByte (some st)
  | .stepping n d f => byte1 n ++ directionByte d ++ beBytes 2 f.toNat
  | .pass p =>
    passBytes (!(p.report.conditions.syncLost || p.report.conditions.relocked ||
      p.report.conditions.held || p.report.conditions.setpointClamped ||
      p.report.conditions.pulseClamped)) p
  | .clock c => clockBytes c
  | .supply level action low =>
    byte1 level ++ (match action with | .flag => byte1 0 | .stop => byte1 1) ++ boolByte low

/-- The bytes of the unit a link sends as an answer when its first byte is clocked out as the part stands in `s`
(R180, R193). -/
def State.answerBytes (s : State) (l : LinkId) : Answer → List Byte
  | .response st r res =>
    withCrc (s.statusByte l st :: r.code :: byte1 res.bytes.length ++ res.bytes)
  | .blockAccepted => 0xE5#8 :: withCrc [Reason.code .none]
  | .blockFrameError => 0xEB#8 :: withCrc [Reason.code .none]
  | .blockRefused r => 0xED#8 :: withCrc [r.code]
  | .close n => 0xE5#8 :: withCrc (Reason.code .none :: beBytes 2 n)
  | .closeRefused => 0xED#8 :: withCrc (Reason.code .noTransfer :: beBytes 2 0)
  | .keys ks => 0xF1#8 :: withCrc (blockBytes ks)
  | .getEnd n => 0xF4#8 :: withCrc (beBytes 2 n)
  | .readError r => 0xF8#8 :: withCrc [r.code]

/-- The unit a link clocks out from now on: its answer, or none while it sends filler (R177, R180). -/
def State.unitSent (s : State) (l : LinkId) : Option (List Byte) :=
  (s.link l).answer.map (s.answerBytes l)

end Sys2Proof.Machine
end

