-- ==== Sys2Proof/Machine/LinkOps.lean ====
section
/-! DEFINITION. The links' own work (files 01 and 10): what the reads return, the items a partner sends, the
collections of a get transfer and the idle times of the key transfers. -/

namespace Sys2Proof.Machine

/-! ## What the reads return -/

/-- The results of STATUS on a link (R183). -/
def State.statusInfo (s : State) (l : LinkId) : StatusInfo :=
  { phase := s.phase, edit := s.edit.map (fun r => (r.link, r.op.targets)), check := s.check.map (·.slot),
    crcOn := (s.link l).crcOn, transfer := (s.link l).transfer, outstanding := s.outstanding l,
    held := (s.link l).held.isSome, marks := (s.link l).marks }

/-- The results of FAULT_STATUS (R175). -/
def State.faultInfo (s : State) : FaultInfo :=
  { axes := s.axes.toList.map (fun x =>
      { softClamp := x.softClamp, pulseClamp := x.pulseClamp, followingError := x.followingError,
        trip := x.trip }),
    estop := s.estop, supplyLevel := s.supplyLevel, supplyAction := s.supplyAction,
    supplyLow := s.supplyLow }

/-- The record of a move as MOVE_INFO returns it (R16): the summary in READY or BOUND, the failure record in
OPEN. -/
def Move.info (m : Move) : MoveInfo :=
  { state := m.state, isProtected := m.isProtected, generation := m.generation, label := m.label,
    first := m.first, last := m.last,
    counts := allTracks.map (fun t => (m.keyCount t, blocksOf (m.keyCount t))),
    summary := m.summary, failure := m.failure }

/-- The slot of the first move in a state, or 0 when none is (R17). -/
def State.firstSlotIn (s : State) (st : MoveState) : Nat := (s.slotsIn st).headD 0

/-- The directory as MOVE_INFO returns it (R17). -/
def State.directory (s : State) : DirectoryInfo :=
  { free := s.free,
    emptySlots := (allSlots.filter (fun n => (s.move n).isNone)).length,
    lowestEmpty := s.lowestEmpty.getD 0, boundSlot := s.firstSlotIn .bound,
    checkingSlot := s.firstSlotIn .checking,
    states := allSlots.map (fun n => (s.move n).map (·.state)) }

/-! ## Collections of a get transfer (R19, R186) -/

/-- The keys of a track from the place of the next key on, at most 16. -/
def Move.nextKeys (m : Move) (t : TrackId) (position : Nat) : BlockKeys :=
  match t with
  | .axis a => .axis (((m.axisTrack a).drop (position - 1)).take 16)
  | .speed => .speed ((m.speedTrack.drop (position - 1)).take 16)

/-- The get transfer of a link closes. -/
def State.closeGet (s : State) (l : LinkId) : State :=
  s.onLink l (fun k => { k with transfer := none, collection := .none })

/-- The answer that ends a get transfer is ready. The transfer closes with its first byte; a deselection before
that byte leaves the transfer as it was (R186). Which of the two comes about in this selection no row of
the table tells: a free value (entry 39). -/
def State.endGet (s : State) (l : LinkId) (a : Answer) : State :=
  let s1 := { s with freeIx := s.freeIx + 1 }
  if Config.endClockedOut s.freeIx then (s1.closeGet l).answer l a
  else (s1.onLink l (fun k => { k with collection := .unsent })).answer l a

/-- The comparisons of a collection: STALE, the next block, or the end marker (R19). -/
def State.compareGet (s : State) (l : LinkId) (slot : Nat) (t : TrackId)
    (generation position sent : Nat) (retired : Bool) : State :=
  match s.move slot with
  | none => s.endGet l (.readError .stale)
  | some m =>
    if retired || decide (m.generation ≠ generation) then s.endGet l (.readError .stale)
    else
      if (m.nextKeys t position).count = 0 then s.endGet l (.getEnd sent)
      else
        (s.onLink l (fun k => { k with collection := .sending (m.nextKeys t position).count })).answer l
          (.keys (m.nextKeys t position))

/-- The idle time of a get transfer is set to 0 (R19). -/
def Transfer.collected : Transfer → Transfer
  | .put s t a i => .put s t a i
  | .get s t g p n r _ => .get s t g p n r 0

/-- A collect request arrives in SERVING (R186). -/
def State.collect (s : State) (l : LinkId) : State :=
  match (s.link l).transfer with
  | some (.get slot t g p n r _) =>
    let s1 := s.onLink l (fun k => { k with transfer := k.transfer.map Transfer.collected })
    if s.isTarget slot then s1.onLink l (fun k => { k with collection := .waiting })
    else s1.compareGet l slot t g p n r
  | some (.put _ _ _ _) | none =>
    if (s.link l).closedByReset then
      (s.onLink l (fun k => { k with closedByReset := false })).answer l (.readError .state)
    else s.answer l (.readError .noTransfer)

/-- A waiting collection of a link, the edit unit having finished with the slot, is compared (R19). -/
def State.serveCollection (l : LinkId) (s : State) : State :=
  match (s.link l).collection, (s.link l).transfer with
  | .waiting, some (.get slot t g p n r _) =>
    if s.isTarget slot then s else s.compareGet l slot t g p n r
  | _, _ => s

/-- The waiting collections of both links are compared as an operation ends (R19, entry 12). -/
def State.serveCollections (s : State) : State := (s.serveCollection .a).serveCollection .b

/-- A block of a get transfer has been clocked out whole: position and count sent advance (R19, R186). -/
def Transfer.blockSent (n : Nat) : Transfer → Transfer
  | .put s t a i => .put s t a i
  | .get s t g p k r i => .get s t g (p + n) (k + n) r i

/-- The last byte of a get transfer's block is clocked out. -/
def State.blockSent (s : State) (l : LinkId) : State :=
  match (s.link l).collection with
  | .sending n =>
    s.onLink l (fun k =>
      { k with transfer := k.transfer.map (Transfer.blockSent n), collection := .none })
  | .none => s
  | .waiting => s
  | .unsent => s

/-! ## Idle times (R19, R38) -/

/-- A transfer closes by timeout, on the link that held it alone (R19, R38). -/
def State.transferTimesOut (s : State) (l : LinkId) : State :=
  (s.closeGet l).raiseOn l .transferTimeout

/-- The idle time of a transfer after one more tick. -/
def Transfer.idled : Transfer → Transfer
  | .put s t a i => .put s t a (i + 1)
  | .get s t g p n r i => .get s t g p n r (i + 1)

/-- The idle time of a transfer. -/
def Transfer.idle : Transfer → Nat
  | .put _ _ _ i => i
  | .get _ _ _ _ _ _ i => i

/-- The idle time of the link's transfer advances on this tick: a put's while no block of the link is
outstanding, a get's while no collection is in progress. -/
def State.idleRuns (s : State) (l : LinkId) : Transfer → Bool
  | .put _ _ _ _ => !s.outstanding l
  | .get _ _ _ _ _ _ _ => decide ((s.link l).collection = .none)

/-- The tick of a link's idle time: at 1,000 ticks the transfer closes (R19, R38). -/
def State.tickLink (l : LinkId) (s : State) : State :=
  match (s.link l).transfer with
  | none => s
  | some t =>
    if !s.idleRuns l t then s
    else if 1000 ≤ t.idle + 1 then s.transferTimesOut l
    else s.onLink l (fun k => { k with transfer := some t.idled })

/-! ## Items from the partner (R177, R178, R184, R187) -/

/-- The answer to a frame that fails a test of R178: the named bit, REFUSED clear, reason NONE, no results. -/
def State.rejectFrame (s : State) (l : LinkId) (illegal frame : Bool) : State :=
  s.answer l
    (.response { illegal := illegal, frame := frame, refused := false, rangeReset := false } .none .none)

/-- The bytes behind the marker of a command frame that is not executed (R178). A frame whose last byte has not arrived is an
item in progress (R177). A frame that passes is no rejected frame: the command it carries is that
command's own row, and here only the selection before it has ended, as with every new selection (entry 26). -/
def State.frameRejected (s : State) (l : LinkId) (bs : List Byte) : State :=
  match testFrame (s.link l).crcOn bs with
  | .incomplete => (s.deselect l).onLink l (fun k => { k with item := some (.frame bs) })
  | .frameError => (s.deselect l).rejectFrame l false true
  | .illegal => (s.deselect l).rejectFrame l true false
  | .passes _ _ => s.deselect l

/-- The key size a data block of the link is read by: that of its open put transfer's track, or that of an
axis key (R184). -/
def Link.keySize (x : Link) : Nat :=
  match x.transfer with
  | some (.put _ t _ _) => Machine.keySize t
  | some (.get _ _ _ _ _ _ _) => 13
  | none => 13

/-- A block that is not outstanding is answered at once, and the idle time of a put transfer restarts (R184). -/
def State.blockAnswer (s : State) (l : LinkId) (a : Answer) : State := s.acknowledge l true a

/-- A block received whole, its selection begun: tests 3 and 4 of R184, and R187 during initialization. -/
def State.blockReceived (s : State) (l : LinkId) (b : DataBlock) : State :=
  match s.phase with
  | .initializing => s.answer l (.blockRefused .noTransfer)
  | .serving =>
    if s.outstanding l then s.blockAnswer l (.blockRefused .overrun)
    else
      match s.edit with
      | none => s.takeBlock l b true
      | some _ => s.onLink l (fun k => { k with buffer := some { block := b, ackDue := true } })

/-- The bytes behind the marker of a data block (R184). -/
def State.blockArrives (s : State) (l : LinkId) (bs : List Byte) : State :=
  let s1 := s.deselect l
  match testBlock (s.link l).crcOn (s.link l).keySize bs with
  | .incomplete => s1.onLink l (fun k => { k with item := some (.block bs) })
  | .frameError => s1.blockAnswer l .blockFrameError
  | .received b => s1.blockReceived l b

/-- An end marker arrives (R37, R185, R187). -/
def State.endMarkerSelected (s : State) (l : LinkId) : State :=
  match s.phase with
  | .initializing => (s.deselect l).answer l .closeRefused
  | .serving => (s.deselect l).endMarkerArrives l

/-- A collect request arrives (R186, R187). -/
def State.collectSelected (s : State) (l : LinkId) : State :=
  match s.phase with
  | .initializing => (s.deselect l).answer l (.readError .noTransfer)
  | .serving => (s.deselect l).collect l

/-- The bytes of one selection of a link, from the first after select on (R177): the first byte decides the item,
bytes behind its last byte are ignored, and a selection that begins with a byte of no item changes
nothing but that the selection before it has ended (entry 9). -/
def State.selection (s : State) (l : LinkId) (bs : List Byte) : State :=
  match bs with
  | [] => s.deselect l
  | b :: rest =>
    match itemKind b with
    | some .commandFrame => s.frameRejected l rest
    | some .dataBlock => s.blockArrives l rest
    | some .endMarker => s.endMarkerSelected l
    | some .collectRequest => s.collectSelected l
    | none => s.deselect l

end Sys2Proof.Machine
end

