-- ==== Sys2Proof/Machine/ResetOps.lean ====
section
/-! DEFINITION. The resets (R20, R21, R106, R125, R148, R161, R176, R188) and the end of the edit unit's
operation, where a waiting soft reset takes effect. -/

namespace Sys2Proof.Machine

/-! ## The hard reset (R20) -/

/-- The axis after a hard reset, its home switch input standing as it does (R82, R88, R162). -/
def Axis.hardReset (x : Axis) : Axis := { Axis.reset with homeSwitch := x.homeSwitch }

/-- The state right after a hard reset of a part in any state: `State.reset` but for what lies outside the
part (its input pins, its reference clock, the commands that wait) and the counter of the free values
(entry 38). The E-stop state is the level of its input, without an event (R169). -/
def State.afterHardReset (s : State) : State :=
  { State.reset with
    axes := s.axes.map Axis.hardReset, estop := s.estop, supplyTenths := s.supplyTenths,
    refClock := s.refClock, freeIx := s.freeIx, pending := s.pending }

/-- The hard reset: the supply state follows the sense input against the level-0 threshold, and a LOW one
raises SUPPLY_LOW (R172). -/
def State.hardReset (s : State) : State :=
  if s.supplyTenths < supplyThreshold 0 then
    { s.afterHardReset with supplyLow := true }.raise .supplyLow
  else s.afterHardReset

/-- Initialization ends: SERVING, and INIT_DONE is raised (R20). -/
def State.initializationEnds (s : State) : State :=
  match s.phase with
  | .initializing => { s with phase := .serving, initTicks := 0 }.raise .initDone
  | .serving => s

/-! ## The soft reset, block by block (R21, R66, R106, R125, R148, R161, R188) -/

/-- The check engine stops, and the move under check is OPEN with CANCELLED, without an event (R21, R66). -/
def State.resetCheck (s : State) : State :=
  match s.check with
  | none => s
  | some c => { s with check := none }.onMove c.slot Move.cancel

/-- A move released by the pass controller returns from BOUND to READY, and an un-certification mark is then
carried out (R11, R12). -/
def Move.release (m : Move) : Move :=
  match m.state with
  | .bound => if m.uncertify then m.uncertified else { m with state := .ready }
  | .opened => m
  | .checking => m
  | .ready => m

/-- The bound move of the pass record returns to READY (R11). -/
def State.releaseMove (s : State) : State :=
  match s.pass.record with
  | none => s
  | some r => s.onMove r.slot Move.release

/-- The report after a soft reset: a run in progress becomes RESET (R148). -/
def Report.softReset (r : Report) : Report :=
  if r.outcome = .running then { r with outcome := .reset, cause := none } else r

/-- The pass controller after a soft reset (R148, R161). -/
def Pass.softReset (p : Pass) : Pass := { Pass.reset with report := p.report.softReset }

/-- One axis under a soft reset, steps 1 to 3 of R106. -/
def Axis.softReset (x : Axis) : Axis :=
  { x with
    datum := match x.datum with
      | .seeking => .unknown
      | .unknown => .unknown
      | .known => if x.owner = .home then .unknown else .known
    lastResult := match x.owner with
      | .home => { outcome := .homeFailed, cause := .reset }
      | .park => { outcome := .parkDone, cause := .reset }
      | .none => x.lastResult
      | .pass => x.lastResult
    home := none, creep := none, owner := .none
    setpoint := match x.drive with
      | .on => x.stepPosition
      | .off => x.setpoint
      | .settling _ => x.setpoint
      | .tripped => x.setpoint }

/-- The open transfer is a get. -/
def Link.getOpen (k : Link) : Bool :=
  match k.transfer with
  | some (.get _ _ _ _ _ _ _) => true
  | some (.put _ _ _ _) => false
  | none => false

/-- One link under a soft reset (R176, R188): flags cleared, the transfer closed, the buffer and the held
item dropped, the marks cleared; the CRC mode, the mask and an item in progress kept. -/
def Link.softReset (k : Link) : Link :=
  { k with
    flags := 0, transfer := none, closedByReset := k.closedByReset || k.getOpen, buffer := none,
    held := none, marks := .absent, collection := .none }

/-- A RESET of a link is answered once the soft reset has taken effect (R188). -/
def State.answerReset (l : LinkId) (s : State) : State :=
  if (s.link l).resetDue then
    (s.onLink l (fun k => { k with resetDue := false })).ok l .none
  else s

/-- The soft reset takes effect on the whole part at one moment (R188). Entry 33 gives its order. -/
def State.softReset (s : State) : State :=
  let s1 := s.resetCheck.releaseMove
  let s2 := { s1 with pass := s1.pass.softReset, clock := Clock.reset, park := none }
  let s3 := (s2.onAxes Axis.softReset).applyStagedAll allAxes
  let s4 := { s3.onLinks Link.softReset with edit := none, resetWaiting := false }
  (s4.answerReset .a).answerReset .b

/-! ## The end of the edit unit's operation (R22, R24, R21) -/

/-- The operation in progress ends. With a soft reset waiting its response is withheld and the reset takes
effect before any waiting item is taken (R21); otherwise its answer is sent, waiting collections are
compared, and the arbiter takes the next item (R24). -/
def State.finishEdit (s : State) : State :=
  match s.edit with
  | none => s
  | some r =>
    if s.resetWaiting then (s.completeOp r).softReset
    else (((s.completeOp r).answerOp r s).serveCollections).arbitrate 4 r.link

/-- RESET is taken in SERVING (R188): at once when the edit unit is IDLE, else at the end of its operation;
a second RESET joins one that waits. A check that has not ended by then does not end any more (`State.endCheck`) and
is cancelled (R66, R68). The moment of that is the reset's one moment (R21, R188), where R66 says "taken": until
then the move is CHECKING. DESIGN CHOICE (entry 46). -/
def State.takeReset (s : State) (l : LinkId) : State :=
  let s1 := s.onLink l (fun k => { k with resetDue := true })
  match s.edit with
  | none => s1.softReset
  | some _ => { s1 with resetWaiting := true }

/-- SOFT_RESET: the moment at which the soft reset takes effect (R188, entry 28). -/
def State.softResetMoment (s : State) : State :=
  match s.phase with
  | .initializing => s
  | .serving =>
    match s.edit with
    | none => s.softReset
    | some r => (s.completeOp r).softReset

end Sys2Proof.Machine
end

