-- ==== Sys2Proof/Machine/TickOps.lean ====
section
/-! DEFINITION. The servo tick (R163) as one operation on the whole part: the timers of the links, the
bounded operations, the supply monitor, the clock, the eases, the homes and the step output. -/

namespace Sys2Proof.Machine

/-- The reference-clock time moves to the next tick (00_scope.md, Units; entry 8). -/
def State.nextTick (s : State) : State :=
  { s with refClock := (s.refClock / clocksPerTick + 1) * clocksPerTick }

/-- Initialization's own tick: it ends at its bound of 200 ticks at the latest (R20, entry 7). -/
def State.tickInit (s : State) : State :=
  match s.phase with
  | .serving => s
  | .initializing =>
    if 200 ≤ s.initTicks + 1 then s.initializationEnds else { s with initTicks := s.initTicks + 1 }

/-- The edit unit's own tick: its operation ends at its bound at the latest (R22, entry 7). -/
def State.tickEdit (s : State) : State :=
  match s.edit with
  | none => s
  | some r =>
    if s.opBound r.op ≤ r.elapsed + 1 then s.finishEdit
    else { s with edit := some { r with elapsed := r.elapsed + 1 } }

/-- A loss timer that has run out by the tick is taken first (R118, R121). -/
def State.tickLoss (s : State) : State :=
  match s.clock.deadline with
  | some d => if d ≤ s.refClock then s.followerExpires else s
  | none => s

/-- The homes' ticks, in axis order. -/
def State.tickHomes (s : State) : State := forAxes allAxes (fun a t => t.tickHome a) s

/-- The blocks' parts of a servo tick that come before the step output. Entry 6 gives their order. -/
def State.beforeOutput (s : State) : State :=
  ((s.nextTick.tickLink .a).tickLink .b).tickInit.tickEdit.tickCheck.compareSupply.tickLoss.tickPass.tickPark
    |>.tickHomes

/-- The servo tick. The step output comes last, so that a staged record which a park or home ending on this tick
applies is in force for this tick's stages (R165, R168): R85 says both "from that moment" and "the next
tick's". DESIGN CHOICE (entry 43). -/
def State.servoTick (s : State) : State := s.beforeOutput.tickOutput

end Sys2Proof.Machine
end

