-- ==== Sys2Proof/Machine/AxisCommands.lean ====
section
/-! DEFINITION. The meanings of the axis commands and of the axis units' own events (file 05), and of the
home switch and encoder inputs. -/

namespace Sys2Proof.Machine

/-! ## Commands -/

/-- An accepted AXIS_SET: applied when the axis is unowned, staged otherwise (R84). -/
def State.takeRecord (s : State) (l : LinkId) (a : AxisId) (r : AxisRecord) : State :=
  match (s.axis a).owner with
  | .none => (s.applyRecord a r).ok l (.axisSet false)
  | .home => (s.onAxis a (fun x => { x with staged := some r })).ok l (.axisSet true)
  | .park => (s.onAxis a (fun x => { x with staged := some r })).ok l (.axisSet true)
  | .pass => (s.onAxis a (fun x => { x with staged := some r })).ok l (.axisSet true)

/-- AXIS_SET (R83, R84). -/
def execAxisSet (l : LinkId) (axis : Nat) (rec : RecordArgs) (s : State) :
    Host.Outcome State Fault Refusal :=
  .next (s.taken l (fun t =>
    match axisOf axis, recordOf rec with
    | some a, some r => t.takeRecord l a r
    | _, _ => t.refuse l .range))

/-- AXIS_GET (R87). -/
def execAxisGet (l : LinkId) (axis : Nat) (s : State) : Host.Outcome State Fault Refusal :=
  .next (s.taken l (fun t =>
    match axisOf axis with
    | none => t.refuse l .range
    | some a => t.ok l (.axis (t.axis a))))

/-- An accepted AXIS_ENABLE (R91). -/
def Axis.enable (x : Axis) : Axis :=
  match x.drive with
  | .off => if x.conf.settleTime = 0 then x.driveOn else { x with drive := .settling x.conf.settleTime }
  | .tripped => if x.conf.settleTime = 0 then x.driveOn else { x with drive := .settling x.conf.settleTime }
  | .settling _ => x
  | .on => x

/-- AXIS_ENABLE (R91). -/
def execAxisEnable (l : LinkId) (axis : Nat) (s : State) : Host.Outcome State Fault Refusal :=
  .next (s.taken l (fun t =>
    match axisOf axis with
    | none => t.refuse l .range
    | some a =>
      if (t.axis a).conf.unset then t.refuse l .notConfigured
      else if t.enableBarred then t.refuse l .estop
      else (t.onAxis a Axis.enable).ok l .none))

/-- AXIS_DISABLE (R93). -/
def execAxisDisable (l : LinkId) (axis : Nat) (s : State) : Host.Outcome State Fault Refusal :=
  .next (s.taken l (fun t =>
    match axisOf axis with
    | none => t.refuse l .range
    | some a =>
      if (t.axis a).owner ≠ .none then t.refuse l .owned
      else (t.onAxis a Axis.driveOff).ok l .none))

/-- The first leg of a home with its target velocity (R96). -/
def Axis.firstLeg (x : Axis) : HomeLeg × Int :=
  match x.conf.homeMethod with
  | .switch =>
    if x.homeSwitch then (.backingOff, x.conf.backOffVelocity) else (.searching, x.conf.searchVelocity)
  | .stop => (.pressing, x.conf.searchVelocity)

/-- A home begins (R96, R97). -/
def Axis.beginHome (x : Axis) : Axis :=
  { x with
    owner := .home, datum := .seeking
    home := some { leg := x.firstLeg.1, start := x.setpoint, cause := .none }
    creep := some { position := x.setpoint * 65536, velocity := 0, target := x.firstLeg.2,
                    step := creepStep x.conf.ac } }

/-- AXIS_HOME (R96). -/
def execAxisHome (l : LinkId) (axis : Nat) (s : State) : Host.Outcome State Fault Refusal :=
  .next (s.taken l (fun t =>
    match axisOf axis with
    | none => t.refuse l .range
    | some a =>
      if (t.axis a).drive ≠ .on then t.refuse l .state
      else if (t.axis a).owner ≠ .none then t.refuse l .owned
      else (t.onAxis a Axis.beginHome).ok l .none))

/-- The targets of a park: 1 to 16 pairs, no axis above 15 or twice, each target a count (R102, test 1). -/
def parkTargets (ts : List (Nat × Int)) : Option (List (AxisId × Int)) :=
  if ts.isEmpty || decide (16 < ts.length) || !decide ((ts.map (·.1)).Nodup) ||
      !ts.all (fun q => inCount q.2) then none
  else allSome (fun q => (axisOf q.1).map (fun a => (a, q.2))) ts

/-- A park is accepted: it ends at once when every distance is 0, and otherwise claims its axes (R102). -/
def State.beginPark (s : State) (es : List EaseAxis) (duration : Nat) : State :=
  if es.all (fun e => decide (e.dist = 0)) then
    (forAxes (es.map (·.axis)) (fun a t => t.onAxis a (fun x =>
      { x with lastResult := { outcome := .parkDone, cause := .none } })) s).raise .parkDone
  else
    forAxes (es.map (·.axis)) (fun a t => t.onAxis a (fun x => { x with owner := .park }))
      { s with park := some { axes := es, duration := duration, elapsed := 0, stopping := false } }

/-- AXIS_PARK (R102). -/
def execAxisPark (l : LinkId) (targets : List (Nat × Int)) (s : State) :
    Host.Outcome State Fault Refusal :=
  .next (s.taken l (fun t =>
    match parkTargets targets with
    | none => t.refuse l .range
    | some ts =>
      if t.park.isSome then t.refuse l .busyOther
      else if ts.any (fun q => decide ((t.axis q.1).drive ≠ .on)) then t.refuse l .state
      else if ts.any (fun q => decide ((t.axis q.1).owner ≠ .none)) then t.refuse l .owned
      else if ts.any (fun q => decide ((t.axis q.1).datum ≠ .known)) then t.refuse l .notHomed
      else if ts.any (fun q => !(t.axis q.1).conf.admits q.2) then t.refuse l .limits
      else
        match t.groupDuration (t.easeAxes ts) with
        | none => t.refuse l .range
        | some d => (t.beginPark (t.easeAxes ts) d).ok l .none))

/-- AXIS_STOP reaches the park (R104): each axis goes to its creep generator, or the park ends at once. -/
def State.stopPark (s : State) : State :=
  match s.park with
  | none => s
  | some g =>
    if g.stopping then s
    else if g.still then s.endPark .stopped
    else { s with park := some { g with stopping := true } }.handToCreep g

/-- A leg in which AXIS_STOP changes nothing (R100). -/
def Axis.stopIgnored (x : Axis) : Bool :=
  match x.home with
  | none => true
  | some h =>
    match h.leg with
    | .finishing | .abandoning => true
    | .searching | .braking | .backingOff | .pressing => false

/-- AXIS_STOP (R100, R104). -/
def execAxisStop (l : LinkId) (axis : Nat) (s : State) : Host.Outcome State Fault Refusal :=
  .next (s.taken l (fun t =>
    match axisOf axis with
    | none => t.refuse l .range
    | some a =>
      match (t.axis a).owner with
      | .pass => t.refuse l .owned
      | .none => t.ok l .none
      | .home =>
        if (t.axis a).stopIgnored then t.ok l .none
        else (t.onAxis a (Axis.abandonHome .stopped)).ok l .none
      | .park => t.stopPark.ok l .none))

/-! ## Events, each when it is due (entry 5) -/

/-- DRIVE_SETTLE_END (R92). -/
def execDriveSettleEnd (axis : AxisId) (s : State) : Host.Outcome State Fault Refusal :=
  .next (match (s.axis axis).drive with
    | .settling n => if n ≤ 1 then s.onAxis axis Axis.driveOn else s
    | .off => s
    | .on => s
    | .tripped => s)

/-- The coming tick is the last of the park's ease (R103). -/
def State.parkEaseDue (s : State) : Bool :=
  match s.park with
  | some g => !g.stopping && decide (g.duration ≤ g.elapsed + 1)
  | none => false

/-- PARK_EASE_END (R103). -/
def execParkEaseEnd (s : State) : Host.Outcome State Fault Refusal :=
  .next (if s.parkEaseDue then s.tickPark else s)

/-- The coming tick brings every generator of the stopping park to rest (R104). -/
def State.parkRestDue (s : State) : Bool :=
  match s.park with
  | some g => g.stopping && (s.groupCreepTick g).groupAtRest g
  | none => false

/-- PARK_STOP_AT_REST (R104). -/
def execParkStopAtRest (s : State) : Host.Outcome State Fault Refusal :=
  .next (if s.parkRestDue then s.tickPark else s)

/-- The axis as its generator's coming tick leaves it. -/
def State.crept (s : State) (a : AxisId) : Axis := (s.axis a).creepTick

/-- The home of an axis is in a leg. -/
def State.homeIn (s : State) (a : AxisId) (leg : HomeLeg) : Bool :=
  decide ((s.axis a).owner = .home) && decide ((s.axis a).home.map (·.leg) = some leg)

/-- The coming tick brings the home to rest in a leg, within its travel (R97, R98, R100). -/
def State.restDue (s : State) (a : AxisId) (leg : HomeLeg) : Bool :=
  s.homeIn a leg && (s.crept a).creepAtRest && !(s.crept a).travelExceeded

/-- HOME_BRAKING_AT_REST (R98). -/
def execHomeBrakingAtRest (axis : AxisId) (s : State) : Host.Outcome State Fault Refusal :=
  .next (if s.restDue axis .braking then s.tickHome axis else s)

/-- HOME_FINISHING_AT_REST (R98). -/
def execHomeFinishingAtRest (axis : AxisId) (s : State) : Host.Outcome State Fault Refusal :=
  .next (if s.restDue axis .finishing then s.tickHome axis else s)

/-- HOME_ABANDON_AT_REST (R100). -/
def execHomeAbandonAtRest (axis : AxisId) (s : State) : Host.Outcome State Fault Refusal :=
  .next (if s.restDue axis .abandoning then s.tickHome axis else s)

/-- HOME_TRAVEL_EXCEEDED (R100). -/
def execHomeTravelExceeded (axis : AxisId) (s : State) : Host.Outcome State Fault Refusal :=
  .next (if decide ((s.axis axis).owner = .home) && (s.crept axis).travelExceeded then s.tickHome axis
    else s)

/-- HOME_STOP_REACHED (R99). Unlike the other rows of an end (entry 5) this one makes no part of the coming tick:
the test is made on the error of the setpoint and the encoder count as they stand between ticks, and no
generator tick comes before it. SERVO_TICK makes R99's own test, after the generator and stage 3. -/
def execHomeStopReached (axis : AxisId) (s : State) : Host.Outcome State Fault Refusal :=
  .next (if decide ((s.axis axis).drive = .on) &&
      (s.axis axis).atStop (saturateError ((s.axis axis).setpoint - (s.axis axis).encoder))
    then s.stopReached axis else s)

/-! ## The home switch and the encoder -/

/-- The assertion edge of a home switch (R98): a SEARCHING home brakes. -/
def Axis.switchAsserted (x : Axis) : Axis :=
  let y := { x with homeSwitch := true }
  if x.owner = .home ∧ x.home.map (·.leg) = some .searching then (y.setLeg .braking).setTarget 0 else y

/-- The release edge of a home switch (R98): a home that is BACKING_OFF captures its count. -/
def Axis.switchReleased (x : Axis) : Axis :=
  let y := { x with homeSwitch := false }
  if x.owner = .home ∧ x.home.map (·.leg) = some .backingOff then y.homeRelease else y

/-- HOME_SWITCH_ASSERT (R98); no edge when the level is already asserted (entry 24). -/
def execHomeSwitchAssert (axis : AxisId) (s : State) : Host.Outcome State Fault Refusal :=
  .next (if (s.axis axis).homeSwitch then s else s.onAxis axis Axis.switchAsserted)

/-- HOME_SWITCH_RELEASE (R98); no edge when the level is already released (entry 24). -/
def execHomeSwitchRelease (axis : AxisId) (s : State) : Host.Outcome State Fault Refusal :=
  .next (if (s.axis axis).homeSwitch then s.onAxis axis Axis.switchReleased else s)

/-- ENCODER_TRANSITION (R89). -/
def execEncoderTransition (axis : AxisId) (positive : Bool) (s : State) :
    Host.Outcome State Fault Refusal :=
  .next (s.onAxis axis (fun x =>
    { x with encoder := wrapEncoder (if positive then x.encoder + 1 else x.encoder - 1) }))

end Sys2Proof.Machine
end

