-- ==== Sys2Proof/Machine/EditCommands.lean ====
section
/-! DEFINITION. The meanings of the store edits, of the ends of the timed ones, and of the check commands
(files 02 and 03). -/

namespace Sys2Proof.Machine

/-- MOVE_NEW (R29). -/
def execMoveNew (l : LinkId) (slot first last : Nat) (label : List Byte) (_exp : Option Nat) (s : State) :
    Host.Outcome State Fault Refusal :=
  .next (s.taken l (fun t => t.storeEdit l (.moveNew slot first last label)))

/-- MOVE_SPAN (R31). -/
def execMoveSpan (l : LinkId) (slot first last : Nat) (exp : Option Nat) (s : State) :
    Host.Outcome State Fault Refusal :=
  .next (s.taken l (fun t => t.storeEdit l (.moveSpan slot first last exp)))

/-- MOVE_LABEL (R32). -/
def execMoveLabel (l : LinkId) (slot : Nat) (label : List Byte) (exp : Option Nat) (s : State) :
    Host.Outcome State Fault Refusal :=
  .next (s.taken l (fun t => t.storeEdit l (.moveLabel slot label exp)))

/-- KEYS_PUT (R33). -/
def execKeysPut (l : LinkId) (slot track : Nat) (exp : Option Nat) (s : State) :
    Host.Outcome State Fault Refusal :=
  .next (s.taken l (fun t => t.storeEdit l (.keysPut slot track exp)))

/-- KEY_MARK_FIRST (R39). -/
def execKeyMarkFirst (l : LinkId) (slot track frame : Nat) (exp : Option Nat) (s : State) :
    Host.Outcome State Fault Refusal :=
  .next (s.taken l (fun t => t.storeEdit l (.keyMarkFirst slot track frame exp)))

/-- KEY_MARK_LAST (R40). -/
def execKeyMarkLast (l : LinkId) (frame : Nat) (_exp : Option Nat) (s : State) :
    Host.Outcome State Fault Refusal :=
  .next (s.taken l (fun t => t.storeEdit l (.keyMarkLast frame)))

/-- KEY_DROP (R41). -/
def execKeyDrop (l : LinkId) (exp : Option Nat) (s : State) : Host.Outcome State Fault Refusal :=
  .next (s.taken l (fun t => t.storeEdit l (.keyDrop exp)))

/-- TRACK_CLEAR (R42). -/
def execTrackClear (l : LinkId) (slot track : Nat) (exp : Option Nat) (s : State) :
    Host.Outcome State Fault Refusal :=
  .next (s.taken l (fun t => t.storeEdit l (.trackClear slot track exp)))

/-- MOVE_COPY (R43). -/
def execMoveCopy (l : LinkId) (src dst : Nat) (exp : Option Nat) (s : State) :
    Host.Outcome State Fault Refusal :=
  .next (s.taken l (fun t => t.storeEdit l (.moveCopy src dst exp)))

/-- MOVE_RETIRE (R44 to R46). -/
def execMoveRetire (l : LinkId) (slot : Nat) (exp : Option Nat) (s : State) :
    Host.Outcome State Fault Refusal :=
  .next (s.taken l (fun t => t.storeEdit l (.moveRetire slot exp)))

/-- MOVE_PROTECT (R47). -/
def execMoveProtect (l : LinkId) (slot : Nat) (exp : Option Nat) (s : State) :
    Host.Outcome State Fault Refusal :=
  .next (s.taken l (fun t => t.storeEdit l (.moveProtect slot exp)))

/-- MOVE_UNPROTECT (R48). -/
def execMoveUnprotect (l : LinkId) (slot : Nat) (exp : Option Nat) (s : State) :
    Host.Outcome State Fault Refusal :=
  .next (s.taken l (fun t => t.storeEdit l (.moveUnprotect slot exp)))

/-! ## The ends of the timed operations (R22): each row ends an operation of its own kind -/

/-- The edit unit works on a data block. -/
def EditRun.isBlock (r : EditRun) : Bool :=
  match r.op with
  | .dataBlock _ _ _ => true
  | .keyDrop _ _ _ _ | .trackClear _ _ | .moveCopy _ _ | .moveRetire _ => false

/-- The edit unit works on a KEY_DROP. -/
def EditRun.isDrop (r : EditRun) : Bool :=
  match r.op with
  | .keyDrop _ _ _ _ => true
  | .dataBlock _ _ _ | .trackClear _ _ | .moveCopy _ _ | .moveRetire _ => false

/-- The edit unit works on a TRACK_CLEAR. -/
def EditRun.isClear (r : EditRun) : Bool :=
  match r.op with
  | .trackClear _ _ => true
  | .dataBlock _ _ _ | .keyDrop _ _ _ _ | .moveCopy _ _ | .moveRetire _ => false

/-- The edit unit works on a MOVE_COPY. -/
def EditRun.isCopy (r : EditRun) : Bool :=
  match r.op with
  | .moveCopy _ _ => true
  | .dataBlock _ _ _ | .keyDrop _ _ _ _ | .trackClear _ _ | .moveRetire _ => false

/-- The edit unit works on a MOVE_RETIRE. -/
def EditRun.isRetire (r : EditRun) : Bool :=
  match r.op with
  | .moveRetire _ => true
  | .dataBlock _ _ _ | .keyDrop _ _ _ _ | .trackClear _ _ | .moveCopy _ _ => false

/-- The operation in progress ends when it is of a kind; otherwise there is no such end. -/
def State.finishIf (s : State) (f : EditRun → Bool) : State :=
  match s.edit with
  | some r => if f r then s.finishEdit else s
  | none => s

/-- DATA_BLOCK_APPLIED (R36). -/
def execDataBlockApplied (s : State) : Host.Outcome State Fault Refusal :=
  .next (s.finishIf EditRun.isBlock)

/-- KEY_DROP_END (R41). -/
def execKeyDropEnd (s : State) : Host.Outcome State Fault Refusal := .next (s.finishIf EditRun.isDrop)

/-- TRACK_CLEAR_END (R42). -/
def execTrackClearEnd (s : State) : Host.Outcome State Fault Refusal := .next (s.finishIf EditRun.isClear)

/-- MOVE_COPY_END (R43). -/
def execMoveCopyEnd (s : State) : Host.Outcome State Fault Refusal := .next (s.finishIf EditRun.isCopy)

/-- MOVE_RETIRE_END (R44). -/
def execMoveRetireEnd (s : State) : Host.Outcome State Fault Refusal :=
  .next (s.finishIf EditRun.isRetire)

/-! ## The check (file 03) -/

/-- A check begins on a move (R50, R51): CHECKING without a failure record, the limits of every axis with a
present track read. -/
def State.beginCheck (s : State) (slot : Nat) (m : Move) : State :=
  { s with check := some { slot := slot,
                           limits := m.presentAxes.map (fun a => limitsOf a (s.axis a).conf),
                           peaks := [], extents := [], elapsed := 0 } }.onMove slot
    (fun x => { x with state := .checking, failure := none })

/-- MOVE_CHECK (R50). -/
def execMoveCheck (l : LinkId) (slot : Nat) (exp : Option Nat) (s : State) :
    Host.Outcome State Fault Refusal :=
  .next (s.taken l (fun t =>
    if !slotOk slot then t.refuse l .range
    else
      match t.move slot with
      | none => t.refuse l .state
      | some m =>
        if t.isTarget slot then t.refuse l .busyOther
        else if m.staleFor exp then t.refuseWith l .stale (.generation m.generation) false
        else if m.state ≠ .opened then t.refuse l .state
        else if t.check.isSome then t.refuse l .busyOther
        else (t.beginCheck slot m).ok l (.slotGeneration slot m.generation)))

/-- CHECK_END (R62, R63). -/
def execCheckEnd (s : State) : Host.Outcome State Fault Refusal := .next s.endCheck

end Sys2Proof.Machine
end

