-- ==== Sys2Proof/Machine/LinkCommands.lean ====
section
/-! DEFINITION. The meanings of the resets, of the links' own commands and reads, and of the items of a link
that are no commands (files 01 and 10). -/

namespace Sys2Proof.Machine

/-- HARD_RESET (R20). -/
def execHardReset (s : State) : Host.Outcome State Fault Refusal := .next s.hardReset

/-- INITIALIZATION_END (R20). -/
def execInitializationEnd (s : State) : Host.Outcome State Fault Refusal := .next s.initializationEnds

/-- SOFT_RESET (R188). -/
def execSoftReset (s : State) : Host.Outcome State Fault Refusal := .next s.softResetMoment

/-- STATUS (R183): answered in every state. -/
def execStatus (l : LinkId) (s : State) : Host.Outcome State Fault Refusal :=
  .next ((s.deselect l).ok l (.status ((s.deselect l).statusInfo l)))

/-- EVENTS_READ (R190): answered in every state. -/
def execEventsRead (l : LinkId) (s : State) : Host.Outcome State Fault Refusal :=
  .next ((s.deselect l).ok l (.events ((s.deselect l).link l).visibleFlags))

/-- The answer with the flags as EVENTS_READ would return them (R190). -/
def State.okEvents (s : State) (l : LinkId) : State := s.ok l (.events (s.link l).visibleFlags)

/-- EVENTS_MASK (R190): a set bit unmasks its kind (entry 16); bits 17 to 23 are ignored (R192). -/
def execEventsMask (l : LinkId) (mask : WireEvents) (s : State) : Host.Outcome State Fault Refusal :=
  .next (s.taken l (fun t => (t.onLink l (fun k => { k with mask := mask.setWidth 17 })).okEvents l))

/-- EVENTS_CLEAR (R190): refused RANGE when a bit above 16 names a kind that does not exist. -/
def execEventsClear (l : LinkId) (kinds : WireEvents) (s : State) : Host.Outcome State Fault Refusal :=
  .next (s.taken l (fun t =>
    if kinds >>> 17 ≠ 0 then t.refuse l .range
    else (t.onLink l (fun k => { k with flags := k.flags &&& ~~~(kinds.setWidth 17) })).okEvents l))

/-- CRC_MODE (R179). -/
def execCrcMode (l : LinkId) (mode : Nat) (s : State) : Host.Outcome State Fault Refusal :=
  .next (s.taken l (fun t =>
    match flagOf mode with
    | none => t.refuse l .range
    | some on => (t.onLink l (fun k => { k with crcOn := on })).ok l (.crcMode on)))

/-- RESET (R188). -/
def execReset (l : LinkId) (s : State) : Host.Outcome State Fault Refusal :=
  .next (s.taken l (fun t => t.takeReset l))

/-- FAULT_STATUS (R175). -/
def execFaultStatus (l : LinkId) (s : State) : Host.Outcome State Fault Refusal :=
  .next (s.taken l (fun t => t.ok l (.faults t.faultInfo)))

/-- MOVE_INFO (R15 to R17). -/
def execMoveInfo (l : LinkId) (slot : Nat) (s : State) : Host.Outcome State Fault Refusal :=
  .next (s.taken l (fun t =>
    if 64 < slot then t.refuse l .range
    else if slot = 0 then t.ok l (.directory t.directory)
    else if t.isTarget slot then t.refuse l .busyOther
    else
      match t.move slot with
      | none => t.ok l (.emptySlot slot t.free)
      | some m => t.ok l (.move slot t.free m.info)))

/-- An open get transfer begins (R18); get closed by reset becomes NO (R186). -/
def State.openGet (s : State) (l : LinkId) (slot : Nat) (t : TrackId) (m : Move) : State :=
  (s.onLink l (fun k =>
    { k with transfer := some (.get slot t m.generation 1 0 false 0), closedByReset := false })).ok l
      (.keysGet m.generation (m.keyCount t))

/-- KEYS_GET (R18). -/
def execKeysGet (l : LinkId) (slot track : Nat) (s : State) : Host.Outcome State Fault Refusal :=
  .next (s.taken l (fun t =>
    match trackOf track with
    | none => t.refuse l .range
    | some tr =>
      if !slotOk slot then t.refuse l .range
      else if (t.link l).transfer.isSome then t.refuse l .state
      else
        match t.move slot with
        | none => t.refuse l .state
        | some m =>
          if t.isTarget slot then t.refuse l .busyOther
          else if t.transferHas l.other (Transfer.names slot tr) then t.refuse l .trackInUse
          else t.openGet l slot tr m))

/-- COMMAND_FRAME_REJECTED (R177, R178): the bytes of the selection, the command marker first. -/
def execCommandFrameRejected (l : LinkId) (bytes : List Byte) (s : State) :
    Host.Outcome State Fault Refusal := .next (s.selection l bytes)

/-- DATA_BLOCK (R177, R184): the bytes of the selection, the data-block marker first. -/
def execDataBlock (l : LinkId) (bytes : List Byte) (s : State) : Host.Outcome State Fault Refusal :=
  .next (s.selection l bytes)

/-- END_MARKER (R37, R187). -/
def execEndMarker (l : LinkId) (s : State) : Host.Outcome State Fault Refusal :=
  .next (s.endMarkerSelected l)

/-- COLLECT_REQUEST (R186, R187). -/
def execCollectRequest (l : LinkId) (s : State) : Host.Outcome State Fault Refusal :=
  .next (s.collectSelected l)

/-- LINK_DESELECT (R177). -/
def execLinkDeselect (l : LinkId) (s : State) : Host.Outcome State Fault Refusal := .next (s.deselect l)

/-- GET_DATA_BLOCK_SENT (R19, R186). -/
def execGetDataBlockSent (l : LinkId) (s : State) : Host.Outcome State Fault Refusal :=
  .next (s.blockSent l)

/-- The open transfer is a put whose idle time reaches 1,000 on the coming tick (R38). -/
def State.putTimeoutDue (s : State) (l : LinkId) : Bool :=
  match (s.link l).transfer with
  | some (.put _ _ _ idle) => decide (999 ≤ idle) && !s.outstanding l
  | some (.get _ _ _ _ _ _ _) => false
  | none => false

/-- The open transfer is a get whose idle time reaches 1,000 on the coming tick (R19). -/
def State.getTimeoutDue (s : State) (l : LinkId) : Bool :=
  match (s.link l).transfer with
  | some (.get _ _ _ _ _ _ idle) => decide (999 ≤ idle ∧ (s.link l).collection = .none)
  | some (.put _ _ _ _) => false
  | none => false

/-- PUT_TRANSFER_TIMEOUT (R38), when it is due (entry 5). -/
def execPutTransferTimeout (l : LinkId) (s : State) : Host.Outcome State Fault Refusal :=
  .next (if s.putTimeoutDue l then s.transferTimesOut l else s)

/-- GET_TRANSFER_TIMEOUT (R19), when it is due (entry 5). -/
def execGetTransferTimeout (l : LinkId) (s : State) : Host.Outcome State Fault Refusal :=
  .next (if s.getTimeoutDue l then s.transferTimesOut l else s)

end Sys2Proof.Machine
end

