-- ==== Sys2Proof/Machine/OutputCommands.lean ====
section
/-! DEFINITION. The meanings of the servo tick, of the E-stop and supply events, and of SUPPLY_SET (file 09). -/

namespace Sys2Proof.Machine

/-- SERVO_TICK (R163; entries 5 and 6). -/
def execServoTick (s : State) : Host.Outcome State Fault Refusal := .next s.servoTick

/-- ESTOP_ASSERT (R170); no assertion when the input is asserted already (R169, entry 24). -/
def execEstopAssert (s : State) : Host.Outcome State Fault Refusal :=
  .next (if s.estop then s else s.estopAsserted)

/-- ESTOP_RELEASE (R171); no release when the input is not asserted (R169, entry 24). -/
def execEstopRelease (s : State) : Host.Outcome State Fault Refusal :=
  .next (if s.estop then { s with estop := false }.raise .estopClear else s)

/-- SUPPLY_MONITOR_LOW (R172): the monitor compares the voltage it reads (entry 25). -/
def execSupplyMonitorLow (tenths : Nat) (s : State) : Host.Outcome State Fault Refusal :=
  .next { s with supplyTenths := tenths }.compareSupply

/-- SUPPLY_MONITOR_OK (R172): the monitor compares the voltage it reads (entry 25). -/
def execSupplyMonitorOk (tenths : Nat) (s : State) : Host.Outcome State Fault Refusal :=
  .next { s with supplyTenths := tenths }.compareSupply

/-- An accepted SUPPLY_SET: level and action replaced, and the comparison made at that moment; a LOW state
that stays LOW takes the STOP action when the action changes from FLAG to STOP (R174). -/
def State.setSupply (s : State) (level : Nat) (action : SupplyAction) : State :=
  let s1 := { s with supplyLevel := level, supplyAction := action }.compareSupply
  if s.supplyLow && s1.supplyLow && decide (s.supplyAction = .flag) then s1.supplyStop else s1

/-- SUPPLY_SET (R174). -/
def execSupplySet (l : LinkId) (level action : Nat) (s : State) : Host.Outcome State Fault Refusal :=
  .next (s.taken l (fun t =>
    match supplyActionOf action with
    | none => t.refuse l .range
    | some act =>
      if 3 < level then t.refuse l .range
      else (t.setSupply level act).ok l (.supply level act (t.setSupply level act).supplyLow)))

end Sys2Proof.Machine
end

