-- ==== Sys2Proof/Machine/PassCommands.lean ====
section
/-! DEFINITION. The meanings of the pass and clock commands and of the events of the move clock and the pass
controller (files 06 and 07). -/

namespace Sys2Proof.Machine

/-! ## PASS_ARM (R129, R130) -/

/-- The highest key rate of a speed track. -/
def highestRate (ks : List SpeedKey) : Nat := ks.foldl (fun m k => max m k.rate) 0

/-- The rate a MASTER pass is compared with the ceiling at: the highest speed key rate, or the pass rate
(R129, test 11). -/
def PassRecord.masterRate (r : PassRecord) (m : Move) : Nat :=
  if m.speedTrack.isEmpty then r.rate.getD 0 else highestRate m.speedTrack

/-- A pass axis lies within its limits at every value of the pass (R129, test 10). -/
def State.passAxisFits (s : State) (m : Move) (sum : Summary) (r : PassRecord) (pa : PassAxis) : Bool :=
  let rec_ := (s.axis pa.axis).conf
  (match sum.extents.find? (fun e => decide (e.axis = pa.axis)) with
   | some e => decide (rec_.softLow ≤ e.low + pa.offset ∧ e.high + pa.offset ≤ rec_.softHigh)
   | none => true) &&
  rec_.admits (passStartValue m r pa) && rec_.admits (s.axis pa.axis).setpoint

/-- Tests 5 to 12 of R129 on a READY move with its summary, in order. -/
def State.armRefusal (s : State) (m : Move) (sum : Summary) (r : PassRecord) : Option Reason :=
  if r.first < m.first ∨ m.last < r.last then some .range
  else if r.axes.any (fun pa => !m.hasTrack pa.axis) then some .range
  else if r.mode = .master ∧ m.speedTrack.isEmpty = true ∧ r.rate = none then some .range
  else if r.axes.any (fun pa => decide ((s.axis pa.axis).owner ≠ .none)) then some .owned
  else if r.axes.any (fun pa =>
      decide ((s.axis pa.axis).drive ≠ .on ∨ (s.axis pa.axis).datum ≠ .known)) then some .notHomed
  else if r.axes.any (fun pa => !s.passAxisFits m sum r pa) then some .limits
  else if r.mode = .master ∧ sum.ceiling < r.masterRate m then some .ceiling
  else
    match r.mode, r.step with
    | .step, some f => if f.stepTime < ceilDiv 3000000 sum.ceiling then some .ceiling else none
    | _, _ => none

/-- PASS_ARM is accepted: the move BOUND, the pass axes owned by PASS, the record written, ARMED (R130). -/
def State.arm (s : State) (r : PassRecord) : State :=
  let s1 := s.onMove r.slot (fun m => { m with state := .bound })
  let s2 := forAxes r.axisIds (fun a t => t.onAxis a (fun x => { x with owner := .pass })) s1
  s2.withPass { s2.pass with state := .armed, record := some r }

/-- PASS_ARM (R129, R130). -/
def execPassArm (l : LinkId) (args : PassArgs) (s : State) : Host.Outcome State Fault Refusal :=
  .next (s.taken l (fun t =>
    if t.pass.state ≠ .idle then t.refuse l .state
    else
      match passRecordOf args with
      | none => t.refuse l .range
      | some r =>
        if t.isTarget r.slot then t.refuse l .busyOther
        else
          match t.move r.slot with
          | none => t.refuse l .notReady
          | some m =>
            match m.state, m.summary with
            | .ready, some sum =>
              match t.armRefusal m sum r with
              | some why => t.refuse l why
              | none => (t.arm r).ok l (.armed r.slot sum.ceiling)
            | _, _ => t.refuse l .notReady))

/-! ## The approach (R132 to R134) -/

/-- The targets of the approach: each pass axis's start value (R132). -/
def State.approachTargets (s : State) (r : PassRecord) : List (AxisId × Int) :=
  match s.move r.slot with
  | some m => r.axes.map (fun pa => (pa.axis, passStartValue m r pa))
  | none => []

/-- The approach begins, or ends at once when every distance is 0 (R132). -/
def State.beginApproach (s : State) (es : List EaseAxis) (duration : Nat) : State :=
  if es.all (fun e => decide (e.dist = 0)) then s.atStart
  else s.withPass { s.pass with
    state := .approaching
    approach := some { axes := es, duration := duration, elapsed := 0, stopping := false } }

/-- PASS_GO_START (R132). -/
def execPassGoStart (l : LinkId) (s : State) : Host.Outcome State Fault Refusal :=
  .next (s.taken l (fun t =>
    match t.pass.record with
    | none => t.refuse l .state
    | some r =>
      if t.pass.state ≠ .armed ∧ t.pass.state ≠ .ended then t.refuse l .state
      else if r.axes.any (fun pa => decide ((t.axis pa.axis).drive ≠ .on)) then t.refuse l .state
      else if r.axes.any (fun pa => !(t.axis pa.axis).conf.admits (t.axis pa.axis).setpoint) then
        t.refuse l .limits
      else
        match t.groupDuration (t.easeAxes (t.approachTargets r)) with
        | none => t.refuse l .range
        | some d => (t.beginApproach (t.easeAxes (t.approachTargets r)) d).ok l .none))

/-- PASS_ABORT stops the approach (R134). -/
def State.stopApproach (s : State) : State :=
  match s.pass.approach with
  | none => s
  | some g =>
    if g.stopping then s
    else if g.still then s.approachGivenUp
    else (s.withPass { s.pass with approach := some { g with stopping := true } }).handToCreep g

/-! ## Running, holding, aborting (R135 to R140) -/

/-- PASS_RUN (R135). -/
def execPassRun (l : LinkId) (s : State) : Host.Outcome State Fault Refusal :=
  .next (s.taken l (fun t =>
    match t.pass.record with
    | none => t.refuse l .state
    | some r =>
      if t.pass.state = .idle then t.refuse l .state
      else if r.mode = .step then t.refuse l .mode
      else if t.pass.state ≠ .atStart then t.refuse l .state
      else (t.roll r).ok l .none))

/-- A hold begins (R114, R137). -/
def State.hold (s : State) (r : PassRecord) : State :=
  ({ s with
     pass := { s.pass with state := .holding }
     clock := { s.clock with ramp := .hold r.holdRamp 0 } }).note (fun c => { c with held := true })

/-- PASS_HOLD (R137). -/
def execPassHold (l : LinkId) (s : State) : Host.Outcome State Fault Refusal :=
  .next (s.taken l (fun t =>
    match t.pass.record with
    | none => t.refuse l .state
    | some r =>
      if t.pass.state = .idle then t.refuse l .state
      else if r.mode ≠ .master then t.refuse l .mode
      else if t.pass.state ≠ .running then t.refuse l .state
      else (t.hold r).ok l .none))

/-- A resume begins (R114, R138). -/
def State.resume (s : State) (r : PassRecord) : State :=
  { s with
    pass := { s.pass with state := .resuming }
    clock := { s.clock with ramp := .resume r.holdRamp 0 } }

/-- PASS_RESUME (R138). -/
def execPassResume (l : LinkId) (s : State) : Host.Outcome State Fault Refusal :=
  .next (s.taken l (fun t =>
    match t.pass.record with
    | none => t.refuse l .state
    | some r =>
      if t.pass.state = .idle then t.refuse l .state
      else if r.mode ≠ .master then t.refuse l .mode
      else if t.pass.state ≠ .held then t.refuse l .state
      else (t.resume r).ok l .none))

/-- PASS_ABORT in a run of a MASTER or FOLLOWER pass: STOPPING with cause COMMAND, and a stop request to the
clock, which may end the run at once (R140). -/
def State.abortRun (s : State) (r : PassRecord) : State :=
  let s1 := s.withPass { s.pass with state := .stopping, stopCause := some .command }
  let q := s1.stopRequest r.stopRamp
  q.1.finish q.2

/-- PASS_ABORT in STEP_MOVING: the end is requested, and the pending steps are dropped (R159). -/
def State.requestStepAbort (s : State) : State :=
  if s.pass.stepping.abortRequested then s
  else s.withStepping { s.pass.stepping with abortRequested := true, pending := 0 }

/-- PASS_ABORT (R134, R140, R159). -/
def execPassAbort (l : LinkId) (s : State) : Host.Outcome State Fault Refusal :=
  .next (s.taken l (fun t =>
    match t.pass.record with
    | none => t.refuse l .state
    | some r =>
      match t.pass.state with
      | .idle | .armed | .atStart | .ended => t.refuse l .state
      | .approaching => t.stopApproach.ok l .none
      | .rolling | .running | .holding | .held | .resuming | .trailing => (t.abortRun r).ok l .none
      | .stopping => t.ok l .none
      | .stepMoving => t.requestStepAbort.ok l .none
      | .stepSettling | .exposing | .stepReady => (t.endRun .aborted (some .command)).ok l .none))

/-! ## Disarming and reading (R126, R146, R147) -/

/-- The pass axes are released, and their staged records applied in axis order (R86, R147 step 3). -/
def State.releaseAxes (s : State) (r : PassRecord) : State :=
  (forAxes r.axisIds (fun a t => t.onAxis a (fun x => { x with owner := .none })) s).applyStagedAll r.axisIds

/-- PASS_DISARM is accepted (R147). -/
def State.disarm (s : State) (r : PassRecord) : State :=
  let s1 := ((s.withClock s.clock.disarmed).releaseMove).releaseAxes r
  s1.withPass { s1.pass with
    state := .idle, record := none, stopCause := none, endReached := none, approach := none
    stepping := .reset }

/-- PASS_DISARM (R147). -/
def execPassDisarm (l : LinkId) (s : State) : Host.Outcome State Fault Refusal :=
  .next (s.taken l (fun t =>
    match t.pass.record with
    | none => t.refuse l .state
    | some r =>
      if t.pass.state ≠ .armed ∧ t.pass.state ≠ .atStart ∧ t.pass.state ≠ .ended then t.refuse l .state
      else
        match (t.disarm r).move r.slot with
        | some m => (t.disarm r).ok l (.disarmed m.state)
        | none => (t.disarm r).ok l .none))

/-- PASS_STATUS (R146). -/
def execPassStatus (l : LinkId) (s : State) : Host.Outcome State Fault Refusal :=
  .next (s.taken l (fun t => t.ok l (.pass t.pass)))

/-- CLOCK_STATUS (R126). -/
def execClockStatus (l : LinkId) (s : State) : Host.Outcome State Fault Refusal :=
  .next (s.taken l (fun t => t.ok l (.clock t.clock)))

/-! ## Events of the approach and the clock, each when it is due (entry 5) -/

/-- The coming tick is the last of the approach's ease (R133). -/
def State.approachEaseDue (s : State) : Bool :=
  match s.pass.approach with
  | some g => decide (s.pass.state = .approaching) && !g.stopping && decide (g.duration ≤ g.elapsed + 1)
  | none => false

/-- APPROACH_EASE_END (R133). -/
def execApproachEaseEnd (s : State) : Host.Outcome State Fault Refusal :=
  .next (if s.approachEaseDue then s.tickApproach else s)

/-- The coming tick brings every generator of the stopping approach to rest (R134). -/
def State.approachRestDue (s : State) : Bool :=
  match s.pass.approach with
  | some g => decide (s.pass.state = .approaching) && g.stopping && (s.groupCreepTick g).groupAtRest g
  | none => false

/-- APPROACH_STOP_AT_REST (R134). -/
def execApproachStopAtRest (s : State) : Host.Outcome State Fault Refusal :=
  .next (if s.approachRestDue then s.tickApproach else s)

/-- A run on a CLOCKING clock. -/
def State.clocksRun (s : State) : Bool :=
  s.pass.state.inRun && decide (s.clock.state = .clocking)

/-- The coming tick ends the hold ramp, and not the run (R114). -/
def State.holdDue (s : State) : Bool :=
  match s.clock.ramp with
  | .hold _ _ => s.clocksRun && decide (s.tickClocking.1.clock.ramp = .held)
  | .none => false
  | .held => false
  | .resume _ _ => false
  | .stop _ _ => false

/-- HOLD_RAMP_END (R114, R137). -/
def execHoldRampEnd (s : State) : Host.Outcome State Fault Refusal :=
  .next (if s.holdDue then s.tickPass else s)

/-- The coming tick ends the resume ramp, and not the run (R114). -/
def State.resumeDue (s : State) : Bool :=
  match s.clock.ramp with
  | .resume _ _ => s.clocksRun && decide (s.tickClocking.1.clock.ramp = .none)
  | .none => false
  | .held => false
  | .hold _ _ => false
  | .stop _ _ => false

/-- RESUME_RAMP_END (R114, R138). -/
def execResumeRampEnd (s : State) : Host.Outcome State Fault Refusal :=
  .next (if s.resumeDue then s.tickPass else s)

/-- The coming tick ends the stop (R115). -/
def State.stopDue (s : State) : Bool :=
  match s.clock.ramp with
  | .stop _ _ => s.clocksRun && decide (s.tickClocking.2 = some .stopped)
  | .none => false
  | .held => false
  | .hold _ _ => false
  | .resume _ _ => false

/-- STOP_RAMP_END (R115, R140). -/
def execStopRampEnd (s : State) : Host.Outcome State Fault Refusal :=
  .next (if s.stopDue then s.tickPass else s)

/-- The loss timer of a locked clock runs out before the coming tick has passed (R118, R121). -/
def State.lossDue (s : State) : Bool :=
  match s.clock.deadline with
  | some d => decide (d ≤ s.refClock + clocksPerTick)
  | none => false

/-- SYNC_LOSS_TIMEOUT (R121): the first frame has begun. -/
def execSyncLossTimeout (s : State) : Host.Outcome State Fault Refusal :=
  .next (if s.lossDue && decide (s.clock.firstFrameBegun = some true) then s.loseSync else s)

/-- LOCK_TIMEOUT (R118): the first frame has not begun. -/
def execLockTimeout (s : State) : Host.Outcome State Fault Refusal :=
  .next (if s.lossDue && decide (s.clock.firstFrameBegun ≠ some true) then s.loseLock else s)

/-- CAMERA_FRAME_EDGE (R116), at a place within the tick (entry 8). -/
def execCameraFrameEdge (offset : Nat) (s : State) : Host.Outcome State Fault Refusal :=
  .next (s.cameraEdge (s.refClock + offset))

/-- The roll trigger rolls the pass (R135). -/
def State.triggerRolls (s : State) (r : PassRecord) : Bool :=
  decide (s.pass.state = .atStart) && decide (r.mode ≠ .step) && decide (r.rollSource = .trigger)

/-- ROLL_TRIGGER_EDGE (R135). -/
def execRollTriggerEdge (s : State) : Host.Outcome State Fault Refusal :=
  .next (match s.pass.record with
    | none => s
    | some r => if s.triggerRolls r then s.roll r else s)

end Sys2Proof.Machine
end

