-- ==== Sys2Proof/Machine/StepCommands.lean ====
section
/-! DEFINITION. The meanings of the stop-motion commands and events (file 08). -/

namespace Sys2Proof.Machine

/-- A pass state in which steps may be asked for (R152, test 4). -/
def PassState.takesSteps : PassState → Bool
  | .atStart | .stepMoving | .stepSettling | .exposing | .stepReady => true
  | .idle | .armed | .approaching | .rolling | .running | .holding | .held | .resuming | .stopping
  | .trailing | .ended => false

/-- A pass state in which a step is in hand (R152, test 6). -/
def PassState.stepInHand : PassState → Bool
  | .stepMoving | .stepSettling | .exposing => true
  | .idle | .armed | .approaching | .atStart | .rolling | .running | .holding | .held | .resuming
  | .stopping | .trailing | .ended | .stepReady => false

/-- A direction differs from the step direction in hand, where there is one. -/
def Stepping.against (t : Stepping) (d : Direction) : Bool :=
  match t.direction with
  | some e => decide (e ≠ d)
  | none => false

/-- A frame lies in the pass range. -/
def PassRecord.inRange (r : PassRecord) (n : Int) : Bool :=
  decide ((r.first : Int) ≤ n ∧ n ≤ (r.last : Int))

/-- Tests 3 to 8 of R152, in order. -/
def State.stepRefusal (s : State) (r : PassRecord) (count : Nat) (d : Direction) : Option Reason :=
  let t := s.pass.stepping
  if r.mode ≠ .step then some .mode
  else if !s.pass.state.takesSteps then some .state
  else if t.abortRequested then some .state
  else if (s.pass.state.stepInHand || decide (0 < t.pending)) && t.against d then some .state
  else if 255 < t.pending + count then some .range
  else if !r.inRange (stepFrom d (t.committed r.startFrame) count) then some .range
  else none

/-- The pass stands, so that a step asked for begins at once (R152). -/
def PassState.standing : PassState → Bool
  | .atStart | .stepReady => true
  | .idle | .armed | .approaching | .rolling | .running | .holding | .held | .resuming | .stopping
  | .trailing | .ended | .stepMoving | .stepSettling | .exposing => false

/-- Steps are accepted (R152): the run begins in AT_START, the pending count rises, and a standing pass
begins its first step at once. -/
def State.askSteps (s : State) (r : PassRecord) (f : StepFields) (count : Nat) (d : Direction) : State :=
  let s1 := if s.pass.state = .atStart then s.beginStepRun r else s
  let s2 := s1.withStepping { s1.pass.stepping with
    pending := s1.pass.stepping.pending + count, direction := some d }
  if s.pass.state.standing then s2.beginStep f else s2

/-- The response of PASS_STEP: pending count, step direction and committed frame (R152). -/
def State.steppingResults (s : State) (r : PassRecord) (d : Direction) : Results :=
  .stepping s.pass.stepping.pending d (s.pass.stepping.committed r.startFrame)

/-- A PASS_STEP past its first two tests (R152). -/
def State.takeSteps (s : State) (l : LinkId) (r : PassRecord) (count : Nat) (d : Direction) : State :=
  match s.stepRefusal r count d, r.step with
  | some why, _ => s.refuse l why
  | none, some f => (s.askSteps r f count d).ok l ((s.askSteps r f count d).steppingResults r d)
  | none, none => s.refuse l .mode

/-- PASS_STEP (R152). -/
def execPassStep (l : LinkId) (count direction : Nat) (s : State) : Host.Outcome State Fault Refusal :=
  .next (s.taken l (fun t =>
    match t.pass.record with
    | none => t.refuse l .state
    | some r =>
      if t.pass.state = .idle then t.refuse l .state
      else
        match directionOf direction with
        | none => t.refuse l .range
        | some d => if 1 ≤ count ∧ count ≤ 255 then t.takeSteps l r count d else t.refuse l .range))

/-- PASS_EXPOSE is accepted: the run begins in AT_START, and the exposure begins at once (R158). -/
def State.expose (s : State) (r : PassRecord) (f : StepFields) : State :=
  (if s.pass.state = .atStart then s.beginStepRun r else s).beginExposure f

/-- PASS_EXPOSE (R158). -/
def execPassExpose (l : LinkId) (s : State) : Host.Outcome State Fault Refusal :=
  .next (s.taken l (fun t =>
    match t.pass.record with
    | none => t.refuse l .state
    | some r =>
      if t.pass.state = .idle then t.refuse l .state
      else
        match r.mode, r.step with
        | .step, some f =>
          if t.pass.state.standing then (t.expose r f).ok l .none else t.refuse l .state
        | _, _ => t.refuse l .mode))

/-- STEP_ADVANCE_EDGE (R153): as a PASS_STEP of one in the pass direction, when the input is enabled and
tests 3 to 8 of R152 pass. -/
def execStepAdvanceEdge (s : State) : Host.Outcome State Fault Refusal :=
  .next (match s.pass.record with
    | none => s
    | some r =>
      match r.step with
      | none => s
      | some f =>
        if f.inputEnable && decide (s.stepRefusal r 1 r.direction = none) then s.askSteps r f 1 r.direction
        else s)

/-- The exposure in progress, when the pass is EXPOSING: the record and its step fields. -/
def State.exposing (s : State) : Option (PassRecord × StepFields) :=
  if s.pass.state = .exposing then
    match s.pass.record with
    | some r => r.step.map (fun f => (r, f))
    | none => none
  else none

/-- EXPOSURE_DONE_EDGE (R156): taken in a HANDSHAKE exposure, ignored otherwise. -/
def execExposureDoneEdge (s : State) : Host.Outcome State Fault Refusal :=
  .next (match s.exposing with
    | none => s
    | some (r, f) =>
      match f.exposure with
      | .handshake _ => s.exposureCompleted r f
      | .timed _ => s)

/-! ## Events, each when it is due (entry 5) -/

/-- The coming tick is the last of the step's ease (R154). -/
def State.stepEaseDue (s : State) : Bool :=
  match s.pass.stepping.ease with
  | some e => decide (s.pass.state = .stepMoving) && decide (e.duration ≤ e.elapsed + 1)
  | none => false

/-- STEP_EASE_END (R154, R159). -/
def execStepEaseEnd (s : State) : Host.Outcome State Fault Refusal :=
  .next (if s.stepEaseDue then s.tickPass else s)

/-- The coming tick ends the settle (R155). -/
def State.settleDue (s : State) : Bool :=
  decide (s.pass.state = .stepSettling) && decide (s.pass.stepping.settleRemaining.getD 0 ≤ 1)

/-- STEP_SETTLE_END (R155). -/
def execStepSettleEnd (s : State) : Host.Outcome State Fault Refusal :=
  .next (if s.settleDue then s.tickPass else s)

/-- The coming tick brings the exposure remaining to 0. -/
def State.remainingDue (s : State) : Bool := decide (s.pass.stepping.exposureRemaining.getD 0 ≤ 1)

/-- EXPOSURE_TIME_END (R156): the end of a TIMED exposure. -/
def execExposureTimeEnd (s : State) : Host.Outcome State Fault Refusal :=
  .next (match s.exposing with
    | none => s
    | some (_, f) =>
      match f.exposure with
      | .timed _ => if s.remainingDue then s.tickPass else s
      | .handshake _ => s)

/-- EXPOSURE_TIMEOUT (R156): the time-out of a HANDSHAKE exposure. -/
def execExposureTimeout (s : State) : Host.Outcome State Fault Refusal :=
  .next (match s.exposing with
    | none => s
    | some (_, f) =>
      match f.exposure with
      | .handshake _ => if s.remainingDue then s.tickPass else s
      | .timed _ => s)

end Sys2Proof.Machine
end

