-- ==== Sys2Proof/Machine/Dispatch.lean ====
section
/-! DEFINITION. One arm per command, each a direct call of its meaning. -/

namespace Sys2Proof.Machine

def exec (i : Instr) (s : State) : Host.Outcome State Fault Refusal :=
  match i with
  | .hardReset => Sys2Proof.Machine.execHardReset s
  | .initializationEnd => Sys2Proof.Machine.execInitializationEnd s
  | .softReset => Sys2Proof.Machine.execSoftReset s
  | .status l => Sys2Proof.Machine.execStatus l s
  | .eventsRead l => Sys2Proof.Machine.execEventsRead l s
  | .eventsMask l mask => Sys2Proof.Machine.execEventsMask l mask s
  | .eventsClear l kinds => Sys2Proof.Machine.execEventsClear l kinds s
  | .crcMode l mode => Sys2Proof.Machine.execCrcMode l mode s
  | .reset l => Sys2Proof.Machine.execReset l s
  | .faultStatus l => Sys2Proof.Machine.execFaultStatus l s
  | .moveInfo l slot => Sys2Proof.Machine.execMoveInfo l slot s
  | .keysGet l slot track => Sys2Proof.Machine.execKeysGet l slot track s
  | .moveNew l slot first last label exp => Sys2Proof.Machine.execMoveNew l slot first last label exp s
  | .moveSpan l slot first last exp => Sys2Proof.Machine.execMoveSpan l slot first last exp s
  | .moveLabel l slot label exp => Sys2Proof.Machine.execMoveLabel l slot label exp s
  | .keysPut l slot track exp => Sys2Proof.Machine.execKeysPut l slot track exp s
  | .keyMarkFirst l slot track frame exp => Sys2Proof.Machine.execKeyMarkFirst l slot track frame exp s
  | .keyMarkLast l frame exp => Sys2Proof.Machine.execKeyMarkLast l frame exp s
  | .keyDrop l exp => Sys2Proof.Machine.execKeyDrop l exp s
  | .trackClear l slot track exp => Sys2Proof.Machine.execTrackClear l slot track exp s
  | .moveCopy l src dst exp => Sys2Proof.Machine.execMoveCopy l src dst exp s
  | .moveRetire l slot exp => Sys2Proof.Machine.execMoveRetire l slot exp s
  | .moveProtect l slot exp => Sys2Proof.Machine.execMoveProtect l slot exp s
  | .moveUnprotect l slot exp => Sys2Proof.Machine.execMoveUnprotect l slot exp s
  | .moveCheck l slot exp => Sys2Proof.Machine.execMoveCheck l slot exp s
  | .axisSet l axis rec => Sys2Proof.Machine.execAxisSet l axis rec s
  | .axisGet l axis => Sys2Proof.Machine.execAxisGet l axis s
  | .axisEnable l axis => Sys2Proof.Machine.execAxisEnable l axis s
  | .axisDisable l axis => Sys2Proof.Machine.execAxisDisable l axis s
  | .axisHome l axis => Sys2Proof.Machine.execAxisHome l axis s
  | .axisPark l targets => Sys2Proof.Machine.execAxisPark l targets s
  | .axisStop l axis => Sys2Proof.Machine.execAxisStop l axis s
  | .passArm l args => Sys2Proof.Machine.execPassArm l args s
  | .passGoStart l => Sys2Proof.Machine.execPassGoStart l s
  | .passRun l => Sys2Proof.Machine.execPassRun l s
  | .passHold l => Sys2Proof.Machine.execPassHold l s
  | .passResume l => Sys2Proof.Machine.execPassResume l s
  | .passAbort l => Sys2Proof.Machine.execPassAbort l s
  | .passDisarm l => Sys2Proof.Machine.execPassDisarm l s
  | .passStep l count direction => Sys2Proof.Machine.execPassStep l count direction s
  | .passExpose l => Sys2Proof.Machine.execPassExpose l s
  | .passStatus l => Sys2Proof.Machine.execPassStatus l s
  | .clockStatus l => Sys2Proof.Machine.execClockStatus l s
  | .supplySet l level action => Sys2Proof.Machine.execSupplySet l level action s
  | .commandFrameRejected l bytes => Sys2Proof.Machine.execCommandFrameRejected l bytes s
  | .dataBlock l bytes => Sys2Proof.Machine.execDataBlock l bytes s
  | .endMarker l => Sys2Proof.Machine.execEndMarker l s
  | .collectRequest l => Sys2Proof.Machine.execCollectRequest l s
  | .linkDeselect l => Sys2Proof.Machine.execLinkDeselect l s
  | .dataBlockApplied => Sys2Proof.Machine.execDataBlockApplied s
  | .keyDropEnd => Sys2Proof.Machine.execKeyDropEnd s
  | .trackClearEnd => Sys2Proof.Machine.execTrackClearEnd s
  | .moveCopyEnd => Sys2Proof.Machine.execMoveCopyEnd s
  | .moveRetireEnd => Sys2Proof.Machine.execMoveRetireEnd s
  | .checkEnd => Sys2Proof.Machine.execCheckEnd s
  | .servoTick => Sys2Proof.Machine.execServoTick s
  | .driveSettleEnd axis => Sys2Proof.Machine.execDriveSettleEnd axis s
  | .putTransferTimeout l => Sys2Proof.Machine.execPutTransferTimeout l s
  | .getTransferTimeout l => Sys2Proof.Machine.execGetTransferTimeout l s
  | .parkEaseEnd => Sys2Proof.Machine.execParkEaseEnd s
  | .parkStopAtRest => Sys2Proof.Machine.execParkStopAtRest s
  | .approachEaseEnd => Sys2Proof.Machine.execApproachEaseEnd s
  | .approachStopAtRest => Sys2Proof.Machine.execApproachStopAtRest s
  | .homeBrakingAtRest axis => Sys2Proof.Machine.execHomeBrakingAtRest axis s
  | .homeFinishingAtRest axis => Sys2Proof.Machine.execHomeFinishingAtRest axis s
  | .homeStopReached axis => Sys2Proof.Machine.execHomeStopReached axis s
  | .homeTravelExceeded axis => Sys2Proof.Machine.execHomeTravelExceeded axis s
  | .homeAbandonAtRest axis => Sys2Proof.Machine.execHomeAbandonAtRest axis s
  | .holdRampEnd => Sys2Proof.Machine.execHoldRampEnd s
  | .resumeRampEnd => Sys2Proof.Machine.execResumeRampEnd s
  | .stopRampEnd => Sys2Proof.Machine.execStopRampEnd s
  | .syncLossTimeout => Sys2Proof.Machine.execSyncLossTimeout s
  | .lockTimeout => Sys2Proof.Machine.execLockTimeout s
  | .stepEaseEnd => Sys2Proof.Machine.execStepEaseEnd s
  | .stepSettleEnd => Sys2Proof.Machine.execStepSettleEnd s
  | .exposureTimeEnd => Sys2Proof.Machine.execExposureTimeEnd s
  | .exposureTimeout => Sys2Proof.Machine.execExposureTimeout s
  | .cameraFrameEdge offset => Sys2Proof.Machine.execCameraFrameEdge offset s
  | .rollTriggerEdge => Sys2Proof.Machine.execRollTriggerEdge s
  | .stepAdvanceEdge => Sys2Proof.Machine.execStepAdvanceEdge s
  | .exposureDoneEdge => Sys2Proof.Machine.execExposureDoneEdge s
  | .estopAssert => Sys2Proof.Machine.execEstopAssert s
  | .estopRelease => Sys2Proof.Machine.execEstopRelease s
  | .supplyMonitorLow tenths => Sys2Proof.Machine.execSupplyMonitorLow tenths s
  | .supplyMonitorOk tenths => Sys2Proof.Machine.execSupplyMonitorOk tenths s
  | .homeSwitchAssert axis => Sys2Proof.Machine.execHomeSwitchAssert axis s
  | .homeSwitchRelease axis => Sys2Proof.Machine.execHomeSwitchRelease axis s
  | .encoderTransition axis positive => Sys2Proof.Machine.execEncoderTransition axis positive s
  | .getDataBlockSent l => Sys2Proof.Machine.execGetDataBlockSent l s

end Sys2Proof.Machine
end

