-- ==== Sys2Proof/Safety.lean ====
section
/-! DEFINITION. What a sound state of the part is, in the terms the statements use. Every predicate is a Bool
that can be evaluated. Each is kept by every step and holds right after a hard reset; none mentions a run. -/

namespace Sys2Proof.Machine

/-! ## Links (R34, R176) -/

/-- The slot and the track an open transfer names. -/
def Transfer.target : Transfer → Nat × TrackId
  | .put s t _ _ => (s, t)
  | .get s t _ _ _ _ _ => (s, t)

/-- No two open transfers name the same track (R34, R176). -/
def State.transfersApart (s : State) : Bool :=
  match s.linkA.transfer, s.linkB.transfer with
  | some x, some y => decide (x.target ≠ y.target)
  | _, _ => true

/-! ## The directory (R11, R49) -/

/-- The state of the move in a slot. -/
def State.stateOf (s : State) (n : Nat) : Option MoveState := (s.move n).map (·.state)

/-- A retire in progress works on a move that is neither BOUND nor CHECKING (R44). -/
def State.retireGuard (s : State) : Bool :=
  match s.edit with
  | some r =>
    (match r.op with
     | .moveRetire n => decide (s.stateOf n ≠ some .bound ∧ s.stateOf n ≠ some .checking)
     | .dataBlock _ _ _ | .keyDrop _ _ _ _ | .trackClear _ _ | .moveCopy _ _ => true)
  | none => true

/-- A move is BOUND exactly when the pass record names its slot (R11), and CHECKING exactly when the check
engine works on it (R49). -/
def State.directoryAgrees (s : State) : Bool :=
  allSlots.all (fun n =>
    decide ((s.stateOf n = some .bound ↔ s.pass.record.map (·.slot) = some n) ∧
      (s.stateOf n = some .checking ↔ s.check.map (·.slot) = some n))) &&
  (match s.pass.record with
   | some r => slotOk r.slot
   | none => true) &&
  (match s.check with
   | some c => slotOk c.slot
   | none => true) && s.retireGuard

/-! ## The check engine (R49, R52, R61) -/

/-- The running peaks and extents of a check are those of the first tracks of its move, in axis order; no peak
stands where one of the reasons 1 to 4 of R52 fails the move, and no extent before every track has its
peaks and the move ceiling is 1,000 or above. R51 has the tracks read in that order; that the results come to
stand whole, track by track, is the model's DESIGN CHOICE (entry 23). -/
def CheckRun.sound (m : Move) (c : CheckRun) : Bool :=
  decide (c.peaks = peaksOf m (m.presentAxes.take c.peaks.length) ∧
    c.extents = extentsOf m (m.presentAxes.take c.extents.length)) &&
  (c.peaks.isEmpty || (formFailure m c.limits).isNone) &&
  (c.extents.isEmpty ||
    (decide (c.peaks.length = m.presentAxes.length) && (tooSlow c.limits c.peaks).isNone))

/-! ## The key pool (R7) -/

/-- The blocks all moves hold. -/
def State.heldBlocks (s : State) : Nat := (allSlots.map s.blocksIn).sum

/-- The blocks an operation in progress will need are there: what a data block or a copy was accepted on
(R8, R25). -/
def State.opFits (s : State) : Bool :=
  match s.edit with
  | none => true
  | some r =>
    match r.op with
    | .dataBlock slot t ks =>
      (match s.move slot with
       | some m => decide ((m.merge t ks).blocks ≤ s.free + m.blocks)
       | none => true)
    | .moveCopy src dst =>
      (match s.move src, s.move dst with
       | some m, some d => decide (m.blocks ≤ s.free ∧ d.blocks = 0)
       | _, _ => true)
    | .keyDrop _ _ _ _ | .trackClear _ _ | .moveRetire _ => true

/-- Free blocks plus the blocks held by all tracks of all moves are 512 (R7), also at the end of the operation
in progress. -/
def State.poolBalanced (s : State) : Bool := decide (s.free + s.heldBlocks = 512) && s.opFits

/-! ## Tracks (R3, R6) -/

/-- The frames of a list lie in a span. -/
def framesWithin (first last : Nat) (fs : List Nat) : Bool :=
  fs.all (fun f => decide (first ≤ f ∧ f ≤ last))

/-- Every track of a move is in strictly increasing frame order, inside the span, of at most 2,048 keys. -/
def Move.tracksSound (m : Move) : Bool :=
  decide (m.first < m.last ∧ m.last ≤ 65535) &&
  allTracks.all (fun t =>
    increasing (m.frames t) && framesWithin m.first m.last (m.frames t) && decide (m.keyCount t ≤ 2048))

/-- The frames of a block's keys. -/
def BlockKeys.frames : BlockKeys → List Nat
  | .axis ks => ks.map (·.frame)
  | .speed ks => ks.map (·.frame)

/-- A data block in progress is in order, inside its move's span, and will not overfill its track; a copy's
destination has the source's span. -/
def State.opSound (s : State) : Bool :=
  match s.edit with
  | none => true
  | some r =>
    match r.op with
    | .dataBlock slot t ks =>
      (match s.move slot with
       | some m => increasing ks.frames && framesWithin m.first m.last ks.frames &&
           decide ((m.merge t ks).keyCount t ≤ 2048)
       | none => true)
    | .moveCopy src dst =>
      (match s.move src, s.move dst with
       | some m, some d => decide (m.first = d.first ∧ m.last = d.last)
       | _, _ => true)
    | .keyDrop _ _ _ _ | .trackClear _ _ | .moveRetire _ => true

/-- Every move of the store has sound tracks (R3, R6). -/
def State.tracksSound (s : State) : Bool :=
  allSlots.all (fun n =>
    match s.move n with
    | some m => m.tracksSound
    | none => true) && s.opSound

/-! ## Held moves (R11, R13) -/

/-- A move that is held against change: BOUND or protected. -/
def Move.heldFast (m : Move) : Bool := decide (m.state = .bound) || m.isProtected

/-- The span, the label and the keys of two moves agree. -/
def Move.sameContent (m n : Move) : Bool :=
  decide (m.first = n.first ∧ m.last = n.last ∧ m.label = n.label ∧ m.axisTracks = n.axisTracks ∧
    m.speedTrack = n.speedTrack)

/-- The slot whose content an operation in progress will change: the destination of a copy. -/
def EditOp.changes : EditOp → Nat
  | .dataBlock s _ _ => s
  | .keyDrop s _ _ _ => s
  | .trackClear s _ => s
  | .moveCopy _ d => d
  | .moveRetire s => s

/-- The operation in progress changes no move that is held against change (R13, R26). -/
def State.opSparesHeld (s : State) : Bool :=
  match s.edit with
  | none => true
  | some r =>
    match s.move r.op.changes with
    | some m => !m.heldFast
    | none => true

/-- An operation leaves a slot's move as it is: it works on another slot, or removes none of its keys (R28). -/
def EditOp.spares (slot : Nat) (m : Move) : EditOp → Bool
  | .dataBlock n _ _ => decide (n ≠ slot)
  | .keyDrop n t first last => decide (n ≠ slot) || !(m.frames t).any (inMarks first last)
  | .trackClear n t => decide (n ≠ slot) || decide (m.keyCount t = 0)
  | .moveCopy _ dst => decide (dst ≠ slot)
  | .moveRetire n => decide (n ≠ slot)

/-- The check in progress is sound for its move, and the operation in progress leaves that move as it is: an
edit that changes its content has cancelled the check as it was taken (R28, R49). -/
def State.checkSound (s : State) : Bool :=
  match s.check with
  | none => true
  | some c =>
    match s.move c.slot with
    | none => true
    | some m =>
      c.sound m &&
        (match s.edit with
         | some r => r.op.spares c.slot m
         | none => true)

/-! ## Owners (R94) -/

/-- An axis has the owner PASS exactly when the pass record lists it, PARK exactly when the park in progress
does, and HOME exactly when it holds a home in progress (R94). -/
def State.ownersAgree (s : State) : Bool :=
  allAxes.all (fun a =>
    decide (((s.axis a).owner = .pass ↔
        ((s.pass.record.map (·.axisIds)).getD []).contains a = true) ∧
      ((s.axis a).owner = .park ↔ ((s.park.map (·.ids)).getD []).contains a = true) ∧
      ((s.axis a).owner = .home ↔ (s.axis a).home.isSome = true)))

/-! ## The pass and its outputs (R113, R127, R144, R149, R150) -/

/-- A run is in progress: of a MASTER or FOLLOWER pass, or of a STEP pass. -/
def Pass.runs (p : Pass) : Bool := p.state.inRun || p.state.inStep

/-- The pass record is present in every state but IDLE (R127). -/
def State.recordAgrees (s : State) : Bool :=
  decide (s.pass.state = .idle ↔ s.pass.record = none)

/-- The clock runs exactly during a run, and is STEPPING exactly during a STEP run; the camera run output is
HIGH exactly during a run (R149); the exposure trigger is HIGH exactly in EXPOSING (R150); the report's
outcome is RUNNING exactly during a run (R144); the camera sync output is LOW while the clock is STOPPED or
STEPPING (R113). -/
def State.outputsAgree (s : State) : Bool :=
  decide ((s.pass.state.inRun = true ↔ s.clock.state = .clocking ∨ s.clock.state = .following) ∧
    (s.pass.state.inStep = true ↔ s.clock.state = .stepping) ∧
    (s.pass.cameraRun = true ↔ s.pass.runs = true) ∧
    (s.pass.stepping.trigger = true ↔ s.pass.state = .exposing) ∧
    (s.pass.report.outcome = .running ↔ s.pass.runs = true) ∧
    (s.clock.state = .stopped ∨ s.clock.state = .stepping → s.clock.cameraSync = false))

/-! ## The E-stop (R170, R171) -/

/-- While the E-stop is asserted every drive is OFF (R170, R171). -/
def State.estopHolds (s : State) : Bool :=
  !s.estop || allAxes.all (fun a => decide ((s.axis a).drive = .off))

/-! ## Waiting items and initialization (R20, R24) -/

/-- Items wait behind the edit unit only while it is WORKING (R23, R24, R37). -/
def State.waitingNeedsWork (s : State) : Bool :=
  s.edit.isSome ||
    (s.linkA.buffer.isNone && s.linkA.held.isNone && s.linkB.buffer.isNone && s.linkB.held.isNone)

/-- During initialization the store is empty, the edit unit is IDLE, and no link holds marks or an open
transfer (R20, R187). -/
def State.initQuiet (s : State) : Bool :=
  decide (s.phase = .serving) ||
    (allSlots.all (fun n => (s.move n).isNone) && decide (s.free = 512) && s.edit.isNone &&
      s.linkA.transfer.isNone && s.linkB.transfer.isNone && decide (s.linkA.marks = .absent) &&
      decide (s.linkB.marks = .absent))

/-! ## Who sends a command -/

/-- The link whose partner sends a command, or another item of a link (R177); none for a pin, a reset, a
tick or an event of the part's own blocks. -/
def senderOf : Instr → Option LinkId
  | .status l | .eventsRead l | .eventsMask l _ | .eventsClear l _ | .crcMode l _ | .reset l
  | .faultStatus l | .moveInfo l _ | .keysGet l _ _ | .moveNew l _ _ _ _ _ | .moveSpan l _ _ _ _
  | .moveLabel l _ _ _ | .keysPut l _ _ _ | .keyMarkFirst l _ _ _ _ | .keyMarkLast l _ _
  | .keyDrop l _ | .trackClear l _ _ _ | .moveCopy l _ _ _ | .moveRetire l _ _ | .moveProtect l _ _
  | .moveUnprotect l _ _ | .moveCheck l _ _ | .axisSet l _ _ | .axisGet l _ | .axisEnable l _
  | .axisDisable l _ | .axisHome l _ | .axisPark l _ | .axisStop l _ | .passArm l _ | .passGoStart l
  | .passRun l | .passHold l | .passResume l | .passAbort l | .passDisarm l | .passStep l _ _
  | .passExpose l | .passStatus l | .clockStatus l | .supplySet l _ _ | .commandFrameRejected l _
  | .dataBlock l _ | .endMarker l | .collectRequest l | .linkDeselect l | .getDataBlockSent l => some l
  | .hardReset | .initializationEnd | .softReset | .dataBlockApplied | .keyDropEnd | .trackClearEnd
  | .moveCopyEnd | .moveRetireEnd | .checkEnd | .servoTick | .driveSettleEnd _
  | .putTransferTimeout _ | .getTransferTimeout _ | .parkEaseEnd | .parkStopAtRest | .approachEaseEnd
  | .approachStopAtRest | .homeBrakingAtRest _ | .homeFinishingAtRest _ | .homeStopReached _
  | .homeTravelExceeded _ | .homeAbandonAtRest _ | .holdRampEnd | .resumeRampEnd | .stopRampEnd
  | .syncLossTimeout | .lockTimeout | .stepEaseEnd | .stepSettleEnd | .exposureTimeEnd
  | .exposureTimeout | .cameraFrameEdge _ | .rollTriggerEdge | .stepAdvanceEdge | .exposureDoneEdge
  | .estopAssert | .estopRelease | .supplyMonitorLow _ | .supplyMonitorOk _ | .homeSwitchAssert _
  | .homeSwitchRelease _ | .encoderTransition _ _ => none

/-- Marks of a link that a command clears: the state with them absent (R30). -/
def State.unmarked (s : State) (l : LinkId) : State := s.onLink l (fun k => { k with marks := .absent })

/-- The link holds marks. -/
def State.marked (s : State) (l : LinkId) : Bool := decide ((s.link l).marks ≠ .absent)

/-- Nothing waits behind the edit unit on a link: no block, no held item, no collection. -/
def Link.nothingWaits (k : Link) : Bool :=
  k.buffer.isNone && k.held.isNone && decide (k.collection ≠ .waiting)

/-- An operation is in progress that ends without a soft reset and with nothing behind it. -/
def State.endsAlone (s : State) (r : EditRun) : Bool :=
  decide (s.edit = some r) && !s.resetWaiting && s.linkA.nothingWaits && s.linkB.nothingWaits

end Sys2Proof.Machine
end

