-- ==== Sys2Proof/WellFormed.lean ====
section
/-! DEFINITION. Which commands can arrive at all: every operand fits the width R192 gives it, a command's
arguments fit one frame (at most 240 bytes, R193), and a timed edge lies within its tick. A value that
fits its width but lies outside its rule's range is well formed: the part refuses it itself. -/

namespace Sys2Proof

/-- An unsigned field of one byte. -/
abbrev fitsByte (n : Nat) : Bool := decide (n < 256)
/-- An unsigned field of two bytes. -/
abbrev fitsTwo (n : Nat) : Bool := decide (n < 65536)
/-- An unsigned field of four bytes. -/
abbrev fitsFour (n : Nat) : Bool := decide (n < 4294967296)
/-- A signed field of four bytes. -/
abbrev fitsSigned (x : Int) : Bool := decide (-2147483648 ≤ x ∧ x ≤ 2147483647)
/-- An expected generation fits its two bytes, or is absent (R192). -/
abbrev fitsExp (e : Option Nat) : Bool :=
  match e with
  | none => true
  | some g => fitsTwo g

/-- The AXIS_SET record fits its 54 bytes (11.4). -/
def RecordArgs.fits (r : RecordArgs) : Bool :=
  fitsSigned r.softLow && fitsSigned r.softHigh && fitsFour r.vmax && fitsFour r.amax &&
  fitsFour r.jmax && fitsFour r.vc && fitsFour r.ac && fitsTwo r.pmax && fitsSigned r.feMax &&
  fitsSigned r.feWarn && fitsByte r.homeMethod && fitsByte r.homeDirection && fitsFour r.homeSpeed &&
  fitsSigned r.homeOffset && fitsSigned r.searchTravel && fitsTwo r.settleTime

/-- The pairs of axis and offset that fit the 240 argument bytes of PASS_ARM (11.1): 24 bytes stand beside the pairs,
and 4 more where the presence byte brings the pass rate. -/
abbrev pairsFit (ratePresence pairs : Nat) : Bool :=
  decide (24 + (if ratePresence = 1 then 4 else 0) + 5 * pairs ≤ 240)

/-- The PASS_ARM fields fit the frame of 11.1: the pass rate is carried exactly with presence byte 01h,
and the pairs of axis and offset fit the argument bytes. -/
def PassArgs.fits (p : PassArgs) : Bool :=
  fitsByte p.slot && fitsTwo p.first && fitsTwo p.last && fitsByte p.direction && fitsByte p.mode &&
  fitsByte p.ratePresence && fitsFour p.rate && decide (p.ratePresence = 1 ∨ p.rate = 0) &&
  pairsFit p.ratePresence p.axes.length && p.axes.all (fun q => fitsByte q.1 && fitsSigned q.2) &&
  fitsByte p.lead && fitsByte p.trail && fitsTwo p.holdRamp && fitsTwo p.stopRamp &&
  fitsByte p.rollSource && fitsTwo p.stepTime && fitsTwo p.stepSettle && fitsByte p.exposureControl &&
  fitsTwo p.exposureTime && fitsByte p.stepInput

/-- A command can arrive: its operands fit what the link or the pin can carry. -/
def WellFormed : Instr → Bool
  | .hardReset => true
  | .initializationEnd => true
  | .softReset => true
  | .status _ => true
  | .eventsRead _ => true
  | .eventsMask _ _ => true
  | .eventsClear _ _ => true
  | .crcMode _ m => fitsByte m
  | .reset _ => true
  | .faultStatus _ => true
  | .moveInfo _ s => fitsByte s
  | .keysGet _ s t => fitsByte s && fitsByte t
  | .moveNew _ s f l lab e => fitsByte s && fitsTwo f && fitsTwo l && decide (lab.length ≤ 232) && fitsExp e
  | .moveSpan _ s f l e => fitsByte s && fitsTwo f && fitsTwo l && fitsExp e
  | .moveLabel _ s lab e => fitsByte s && decide (lab.length ≤ 236) && fitsExp e
  | .keysPut _ s t e => fitsByte s && fitsByte t && fitsExp e
  | .keyMarkFirst _ s t f e => fitsByte s && fitsByte t && fitsTwo f && fitsExp e
  | .keyMarkLast _ f e => fitsTwo f && fitsExp e
  | .keyDrop _ e => fitsExp e
  | .trackClear _ s t e => fitsByte s && fitsByte t && fitsExp e
  | .moveCopy _ s d e => fitsByte s && fitsByte d && fitsExp e
  | .moveRetire _ s e => fitsByte s && fitsExp e
  | .moveProtect _ s e => fitsByte s && fitsExp e
  | .moveUnprotect _ s e => fitsByte s && fitsExp e
  | .moveCheck _ s e => fitsByte s && fitsExp e
  | .axisSet _ a r => fitsByte a && r.fits
  | .axisGet _ a => fitsByte a
  | .axisEnable _ a => fitsByte a
  | .axisDisable _ a => fitsByte a
  | .axisHome _ a => fitsByte a
  | .axisPark _ ts => decide (ts.length ≤ 16) && ts.all (fun q => fitsByte q.1 && fitsSigned q.2)
  | .axisStop _ a => fitsByte a
  | .passArm _ p => p.fits
  | .passGoStart _ => true
  | .passRun _ => true
  | .passHold _ => true
  | .passResume _ => true
  | .passAbort _ => true
  | .passDisarm _ => true
  | .passStep _ c d => fitsByte c && fitsByte d
  | .passExpose _ => true
  | .passStatus _ => true
  | .clockStatus _ => true
  | .supplySet _ v act => fitsByte v && fitsByte act
  | .commandFrameRejected _ _ => true
  | .dataBlock _ _ => true
  | .endMarker _ => true
  | .collectRequest _ => true
  | .linkDeselect _ => true
  | .dataBlockApplied => true
  | .keyDropEnd => true
  | .trackClearEnd => true
  | .moveCopyEnd => true
  | .moveRetireEnd => true
  | .checkEnd => true
  | .servoTick => true
  | .driveSettleEnd _ => true
  | .putTransferTimeout _ => true
  | .getTransferTimeout _ => true
  | .parkEaseEnd => true
  | .parkStopAtRest => true
  | .approachEaseEnd => true
  | .approachStopAtRest => true
  | .homeBrakingAtRest _ => true
  | .homeFinishingAtRest _ => true
  | .homeStopReached _ => true
  | .homeTravelExceeded _ => true
  | .homeAbandonAtRest _ => true
  | .holdRampEnd => true
  | .resumeRampEnd => true
  | .stopRampEnd => true
  | .syncLossTimeout => true
  | .lockTimeout => true
  | .stepEaseEnd => true
  | .stepSettleEnd => true
  | .exposureTimeEnd => true
  | .exposureTimeout => true
  | .cameraFrameEdge o => decide (o ≤ 16384)
  | .rollTriggerEdge => true
  | .stepAdvanceEdge => true
  | .exposureDoneEdge => true
  | .estopAssert => true
  | .estopRelease => true
  | .supplyMonitorLow v => decide (v ≤ 600)
  | .supplyMonitorOk v => decide (v ≤ 600)
  | .homeSwitchAssert _ => true
  | .homeSwitchRelease _ => true
  | .encoderTransition _ _ => true
  | .getDataBlockSent _ => true

end Sys2Proof
end

