-- ==== Sys2Proof/Certificates/Slice0/Obligations.lean ====
section
/-! DEFINITION. The statements for the provers, from the numbered rules of spec/. Every statement is about
every state of the part that meets its hypotheses, whether or not a run reaches it. -/

open Sys2Proof Sys2Proof.Machine

section

/-- O1 (tier 1). A step runs the command at the front of the queue; an empty queue idles. Rests on the
model's own choice of log entry 1. -/
def Obligations.StepRunsTheFrontCommand : Prop :=
  (∀ (c : Instr) (rest : List Instr) (s : State), s.pending = c :: rest →
      step s = exec c { s with pending := rest }) ∧
  (∀ s : State, s.pending = [] → step s = .next s)

/-- O2 (tier 2). Every command, in every state, answers a next state and leaves the queue alone. From R182,
R26, R178. -/
def Obligations.EveryCommandAnswersANextState : Prop :=
  ∀ (c : Instr) (s : State), ∃ t, exec c s = .next t ∧ t.pending = s.pending

/-- O3 (tier 1). LINK_DESELECT loses the partial item and the answer; a response's status byte is formed
when it is sent. From R177, R23, R180, R184, R186, R181, R193. Rests on the model's own choice of log
entries 10, 44, 47. -/
def Obligations.DeselectionsAndResponses : Prop :=
  (∀ (s : State) (l : LinkId),
    exec (.linkDeselect l) s = .next (s.deselect l) ∧
    (s.deselect l).link l = { s.link l with
      item := none, held := none, answer := none, collection := .none, resetDue := false,
      buffer := (s.link l).buffer.map (fun b => { b with ackDue := false }) } ∧
    (s.deselect l).link l.other = s.link l.other ∧
    (s.deselect l).edit =
      s.edit.map (fun r => if r.link = l then { r with answerDue := false } else r) ∧
    { s.deselect l with linkA := s.linkA, linkB := s.linkB, edit := s.edit } = s) ∧
  (∀ (s : State) (l : LinkId) (why : Reason) (res : Results) (rr : Bool),
    s.accept l res rr = s.setLink l { s.link l with
      answer := some (.response
        { illegal := false, frame := false, refused := false, rangeReset := rr } .none res) } ∧
    s.refuseWith l why res rr = s.setLink l { s.link l with
      answer := some (.response
        { illegal := false, frame := false, refused := true, rangeReset := rr } why res) }) ∧
  (∀ (s : State) (l : LinkId) (k : Link),
    (s.setLink l k).link l = k ∧ (s.setLink l k).link l.other = s.link l.other ∧
    { s.setLink l k with linkA := s.linkA, linkB := s.linkB } = s) ∧
  (∀ (s : State) (l : LinkId) (b : Status),
    let y := s.statusByte l b
    y.getLsbD 7 = false ∧ y.getLsbD 6 = decide (s.phase = .initializing) ∧ y.getLsbD 5 = b.illegal ∧
    y.getLsbD 4 = b.frame ∧ y.getLsbD 3 = b.refused ∧
    y.getLsbD 2 = s.edit.any (fun r => decide (r.link ≠ l)) ∧ y.getLsbD 1 = b.rangeReset ∧
    y.getLsbD 0 = decide ((s.link l).flags &&& (s.link l).mask ≠ 0)) ∧
  (∀ (s : State) (l : LinkId) (b : Status) (why : Reason) (res : Results),
    (s.link l).answer = some (.response b why res) →
    let unit := s.statusByte l b :: why.code :: BitVec.ofNat 8 res.bytes.length :: res.bytes
    s.unitSent l = some (unit ++ crcBytes (crcOf unit)))

/-- O4 (tier 2). Every well-formed command, as the bytes its partner sends, passes R178 and is read back as
that command. From R177, R178, R192, R193. Rests on the model's own choice of log entry 26. -/
def Obligations.CommandFramesReadBack : Prop :=
  (∀ (i : Instr) (l : LinkId) (c : Nat) (crcOn : Bool),
    WellFormed i = true → commandCode i = some c → senderOf i = some l →
    ∃ bs, frameBytes i = some bs ∧ itemBytes i = some (0xC3#8 :: bs) ∧
      testFrame crcOn bs = .passes c (commandArgs i) ∧ readItem crcOn l (0xC3#8 :: bs) = some i) ∧
  (∀ (l : LinkId) (crcOn : Bool) (rest : List Byte),
    itemBytes (.endMarker l) = some [0xF4#8] ∧ readItem crcOn l (0xF4#8 :: rest) = some (.endMarker l) ∧
    itemBytes (.collectRequest l) = some [0xF2#8] ∧
    readItem crcOn l (0xF2#8 :: rest) = some (.collectRequest l)) ∧
  (∀ (l : LinkId) (crcOn : Bool) (b : Byte) (rest : List Byte),
    b ≠ 0xC3#8 → b ≠ 0xF1#8 → b ≠ 0xF4#8 → b ≠ 0xF2#8 → readItem crcOn l (b :: rest) = none)

/-- O5 (tier 1). COMMAND_FRAME_REJECTED in the order of R178, a frame that passes, a byte of no item, and
every item during initialization. From R178, R177, R179, R187, R20, R193. Rests on the model's own choice of
log entries 9, 26, 47. -/
def Obligations.FramesAnsweredWithoutExecution : Prop :=
  (∀ (s : State) (l : LinkId) (code len : Byte) (args crc : List Byte), crc.length = 2 →
    let bs := 0xC3#8 :: code :: len :: (args ++ crc)
    let answered (illegal frame : Bool) : State := (s.deselect l).setLink l
      { (s.deselect l).link l with
        answer := some (.response
          { illegal := illegal, frame := frame, refused := false, rangeReset := false } .none .none) }
    (240 < len.toNat → args = [] →
      exec (.commandFrameRejected l bs) s = .next (answered false true)) ∧
    (len.toNat ≤ 240 → args.length = len.toNat →
      ((s.link l).crcOn = true → crc ≠ crcBytes (crcOf (code :: len :: args)) →
        exec (.commandFrameRejected l bs) s = .next (answered false true)) ∧
      ((s.link l).crcOn = false ∨ crc = crcBytes (crcOf (code :: len :: args)) →
        (codeAssigned code.toNat = false →
          exec (.commandFrameRejected l bs) s = .next (answered true false)) ∧
        (codeAssigned code.toNat = true → lengthAccepted code.toNat args = false →
          exec (.commandFrameRejected l bs) s = .next (answered false true)) ∧
        (codeAssigned code.toNat = true → lengthAccepted code.toNat args = true →
          exec (.commandFrameRejected l bs) s = .next (s.deselect l)))) ∧
    (len.toNat ≤ 240 → args.length < len.toNat + 2 →
      exec (.commandFrameRejected l (0xC3#8 :: code :: len :: args)) s =
        .next ((s.deselect l).onLink l
          (fun k => { k with item := some (.frame (code :: len :: args)) })))) ∧
  (∀ (s : State) (l : LinkId) (b : Byte) (rest : List Byte),
    exec (.commandFrameRejected l []) s = .next (s.deselect l) ∧
    exec (.dataBlock l []) s = .next (s.deselect l) ∧
    (b ≠ 0xC3#8 → b ≠ 0xF1#8 → b ≠ 0xF4#8 → b ≠ 0xF2#8 →
      exec (.commandFrameRejected l (b :: rest)) s = .next (s.deselect l) ∧
      exec (.dataBlock l (b :: rest)) s = .next (s.deselect l))) ∧
  (∀ (s : State) (l : LinkId), s.phase = .initializing →
    (∀ (i : Instr) (c : Nat), commandCode i = some c → senderOf i = some l → 1 < c →
      exec i s = .next ((s.deselect l).setLink l { (s.deselect l).link l with
        answer := some (.response
          { illegal := false, frame := false, refused := false, rangeReset := false } .none .none) })) ∧
    (∀ bs b, testBlock (s.link l).crcOn (s.link l).keySize bs = .received b →
      exec (.dataBlock l (0xF1#8 :: bs)) s = .next ((s.deselect l).onLink l
        (fun k => { k with answer := some (.blockRefused .noTransfer) }))) ∧
    exec (.endMarker l) s = .next ((s.deselect l).onLink l
      (fun k => { k with answer := some .closeRefused })) ∧
    exec (.collectRequest l) s = .next ((s.deselect l).onLink l
      (fun k => { k with answer := some (.readError .noTransfer) })))

/-- O6 (tier 1). STATUS, EVENTS_READ, EVENTS_MASK, EVENTS_CLEAR and CRC_MODE act on and report their own
link. From R183, R190, R187, R179, R192. Rests on the model's own choice of log entries 9, 16. -/
def Obligations.TheLinksOwnCommands : Prop :=
  (∀ (s : State) (l : LinkId),
    exec (.status l) s = .next ((s.deselect l).ok l (.status
      { phase := s.phase, edit := s.edit.map (fun r => (r.link, r.op.targets)),
        check := s.check.map (·.slot), crcOn := (s.link l).crcOn, transfer := (s.link l).transfer,
        outstanding := s.outstanding l, held := false, marks := (s.link l).marks })) ∧
    exec (.eventsRead l) s =
      .next ((s.deselect l).ok l (.events ((s.link l).flags &&& (s.link l).mask)))) ∧
  (∀ (s : State) (l : LinkId), s.phase = .serving →
    (∀ m : WireEvents, exec (.eventsMask l m) s =
      .next (((s.deselect l).onLink l (fun k => { k with mask := m.setWidth 17 })).ok l
        (.events ((s.link l).flags &&& m.setWidth 17)))) ∧
    (∀ k : WireEvents, k.toNat < 131072 → exec (.eventsClear l k) s =
      .next (((s.deselect l).onLink l (fun x => { x with flags := x.flags &&& ~~~(k.setWidth 17) })).ok l
        (.events ((s.link l).flags &&& ~~~(k.setWidth 17) &&& (s.link l).mask)))) ∧
    (∀ k : WireEvents, 131072 ≤ k.toNat →
      exec (.eventsClear l k) s = .next ((s.deselect l).refuse l .range)) ∧
    exec (.crcMode l 0) s =
      .next (((s.deselect l).onLink l (fun k => { k with crcOn := false })).ok l (.crcMode false)) ∧
    exec (.crcMode l 1) s =
      .next (((s.deselect l).onLink l (fun k => { k with crcOn := true })).ok l (.crcMode true)) ∧
    (∀ n, 1 < n → exec (.crcMode l n) s = .next ((s.deselect l).refuse l .range)))

/-- O7 (tier 1). FAULT_STATUS, MOVE_INFO, AXIS_GET, PASS_STATUS and CLOCK_STATUS return what stands and
change nothing. From R175, R87, R146, R126, R15, R16, R17. -/
def Obligations.ReadsReturnTheRecordsAsTheyStand : Prop :=
  ∀ (s : State) (l : LinkId), s.phase = .serving →
    exec (.faultStatus l) s = .next ((s.deselect l).ok l (.faults
      { axes := s.axes.toList.map (fun x =>
          { softClamp := x.softClamp, pulseClamp := x.pulseClamp, followingError := x.followingError,
            trip := x.trip }),
        estop := s.estop, supplyLevel := s.supplyLevel, supplyAction := s.supplyAction,
        supplyLow := s.supplyLow })) ∧
    exec (.passStatus l) s = .next ((s.deselect l).ok l (.pass s.pass)) ∧
    exec (.clockStatus l) s = .next ((s.deselect l).ok l (.clock s.clock)) ∧
    (∀ a : AxisId, exec (.axisGet l a.val) s = .next ((s.deselect l).ok l (.axis (s.axis a)))) ∧
    (∀ n, 15 < n → exec (.axisGet l n) s = .next ((s.deselect l).refuse l .range)) ∧
    (∀ n, 64 < n → exec (.moveInfo l n) s = .next ((s.deselect l).refuse l .range)) ∧
    (∃ i : DirectoryInfo, exec (.moveInfo l 0) s = .next ((s.deselect l).ok l (.directory i)) ∧
      i.free = s.free ∧
      i.emptySlots = (List.range 64).countP (fun k => (s.move (k + 1)).isNone) ∧
      ((∀ n, 1 ≤ n → n ≤ 64 → (s.move n).isSome = true) → i.lowestEmpty = 0) ∧
      (∀ n, 1 ≤ n → n ≤ 64 → s.move n = none → (∀ k, 1 ≤ k → k < n → (s.move k).isSome = true) →
        i.lowestEmpty = n) ∧
      ((∀ n, s.stateOf n ≠ some .bound) → i.boundSlot = 0) ∧
      (∀ n, s.stateOf n = some .bound → (∀ k, s.stateOf k = some .bound → k = n) → i.boundSlot = n) ∧
      ((∀ n, s.stateOf n ≠ some .checking) → i.checkingSlot = 0) ∧
      (∀ n, s.stateOf n = some .checking → (∀ k, s.stateOf k = some .checking → k = n) →
        i.checkingSlot = n) ∧
      i.states.length = 64 ∧ ∀ n, 1 ≤ n → n ≤ 64 → i.states[n - 1]? = some (s.stateOf n)) ∧
    (∀ n, 1 ≤ n → n ≤ 64 →
      (s.isTarget n = true → exec (.moveInfo l n) s = .next ((s.deselect l).refuse l .busyOther)) ∧
      (s.isTarget n = false →
        (s.move n = none →
          exec (.moveInfo l n) s = .next ((s.deselect l).ok l (.emptySlot n s.free))) ∧
        (∀ m, s.move n = some m → exec (.moveInfo l n) s = .next ((s.deselect l).ok l
          (.move n s.free
            { state := m.state, isProtected := m.isProtected, generation := m.generation,
              label := m.label, first := m.first, last := m.last,
              counts := allTracks.map (fun t => (m.keyCount t, (m.keyCount t + 31) / 32)),
              summary := m.summary, failure := m.failure })))))

/-- O8 (tier 1). HARD_RESET and INITIALIZATION_END, and the values of the After-hard-reset columns. From
R20, R169, R172, R189, R82, R88, R107, R127, R144, R150, R162, R176. Rests on the model's own choice of log
entries 2, 3, 7, 38. -/
def Obligations.HardResetAndItsValues : Prop :=
  ((∀ s : State, exec .hardReset s = .next
    (let t : State := { State.reset with
      axes := s.axes.map (fun x => { Axis.reset with homeSwitch := x.homeSwitch }), estop := s.estop,
      supplyTenths := s.supplyTenths, refClock := s.refClock, freeIx := s.freeIx, pending := s.pending }
     if s.supplyTenths < 180 then
       { t with supplyLow := true, linkA := { Link.reset with flags := 0x1000#17 },
                linkB := { Link.reset with flags := 0x1000#17 } }
     else t)) ∧
  (∀ s : State, s.phase = .initializing → exec .initializationEnd s = .next
    { s with phase := .serving, initTicks := 0,
             linkA := { s.linkA with flags := s.linkA.flags ||| 0x1#17 },
             linkB := { s.linkB with flags := s.linkB.flags ||| 0x1#17 } }) ∧
  (∀ s : State, s.phase = .serving → exec .initializationEnd s = .next s)) ∧
  (State.reset.phase = .initializing ∧ (∀ n, State.reset.move n = none) ∧ State.reset.free = 512 ∧
  State.reset.edit = none ∧ State.reset.check = none ∧ State.reset.park = none ∧
  (∀ a : AxisId, ∃ sw dp, State.reset.axis a =
    { conf := { softLow := 0, softHigh := 0, vmax := 0, amax := 0, jmax := 0, vc := 0, ac := 0,
                pmax := 0, feMax := 0, feWarn := 0, homeMethod := .switch, homeDirection := .negative,
                homeSpeed := 0, homeOffset := 0, searchTravel := 0, settleTime := 0 },
      staged := none, drive := .off, datum := .unknown, owner := .none, home := none, creep := none,
      setpoint := 0, stepPosition := 0, encoder := 0,
      lastResult := { outcome := .none, cause := .none }, homeSwitch := sw, softClamp := false,
      pulseClamp := false, followingError := 0, trip := none, dirPositive := dp, pulses := 0 }) ∧
  State.reset.clock =
    { state := .stopped, mode := none, direction := none, phase := 0, currentFrame := 0,
      travelLimit := none, remainder := 0, baseRate := 0, appliedRate := 0, ramp := .none,
      lock := none, firstFrameBegun := none, lastEdge := none, lastPeriod := none,
      previousPeriod := none, stableCount := 0, increment := 0, measuredRate := 0, glitchCount := 0,
      cameraSync := false } ∧
  State.reset.pass =
    { state := .idle, record := none, stopCause := none, endReached := none, approach := none,
      report := { outcome := .none, cause := none, frames := 0,
                  conditions := { syncLost := false, relocked := false, held := false,
                                  setpointClamped := false, pulseClamped := false, feWarn := false,
                                  exposeTimeout := false },
                  peaks := none },
      cameraRun := false,
      stepping := { pending := 0, direction := none, destination := none, ease := none,
                    settleRemaining := none, exposureRemaining := none, abortRequested := false,
                    trigger := false } } ∧
  (∀ l : LinkId, State.reset.link l =
    { crcOn := true, item := none, buffer := none, held := none, transfer := none,
      closedByReset := false, marks := .absent, flags := 0, mask := 0, collection := .none,
      resetDue := false, answer := none }) ∧
  State.reset.supplyLevel = 0 ∧ State.reset.supplyAction = .flag ∧ State.reset.resetWaiting = false) ∧
  (∀ s : State, (s.phase = .serving → s.tickInit = s) ∧
    (s.phase = .initializing →
      (s.initTicks + 1 < 200 → s.tickInit = { s with initTicks := s.initTicks + 1 }) ∧
      (200 ≤ s.initTicks + 1 → exec .initializationEnd s = .next s.tickInit)))

/-- O9 (tier 2). A soft reset: what it ends, what it clears and what it keeps. From R188, R21, R106, R125,
R148, R161, R176, R66. Rests on the model's own choice of log entry 12. -/
def Obligations.SoftResetActsOnTheWholePart : Prop :=
  ∀ s : State,
    s.softReset.clock = Clock.reset ∧
    s.softReset.pass = { Pass.reset with
      report := if s.pass.report.outcome = .running
        then { s.pass.report with outcome := .reset, cause := none } else s.pass.report } ∧
    s.softReset.park = none ∧ s.softReset.check = none ∧ s.softReset.edit = none ∧
    s.softReset.resetWaiting = false ∧ s.softReset.free = s.free ∧ s.softReset.phase = s.phase ∧
    (∀ a : AxisId,
      (s.softReset.axis a).owner = .none ∧ (s.softReset.axis a).home = none ∧
      (s.softReset.axis a).creep = none ∧ (s.softReset.axis a).staged = none ∧
      (s.softReset.axis a).conf = (s.axis a).staged.getD (s.axis a).conf ∧
      (s.softReset.axis a).encoder = (s.axis a).encoder ∧
      (s.softReset.axis a).stepPosition = (s.axis a).stepPosition ∧
      (s.softReset.axis a).trip = (s.axis a).trip ∧
      ((s.axis a).datum = .seeking → (s.softReset.axis a).datum = .unknown) ∧
      ((s.axis a).owner = .home → (s.softReset.axis a).datum = .unknown ∧
        (s.softReset.axis a).lastResult = { outcome := .homeFailed, cause := .reset }) ∧
      ((s.axis a).owner = .park →
        (s.softReset.axis a).lastResult = { outcome := .parkDone, cause := .reset }) ∧
      ((s.axis a).drive = .on → (s.softReset.axis a).setpoint = (s.axis a).stepPosition) ∧
      ((s.axis a).drive = .on → (s.softReset.axis a).drive =
        if (s.axis a).staged.any AxisRecord.unset then .off else .on)) ∧
    (∀ l : LinkId,
      (s.softReset.link l).flags = 0 ∧ (s.softReset.link l).transfer = none ∧
      (s.softReset.link l).buffer = none ∧ (s.softReset.link l).held = none ∧
      (s.softReset.link l).marks = .absent ∧ (s.softReset.link l).collection = .none ∧
      (s.softReset.link l).closedByReset = ((s.link l).closedByReset || (s.link l).getOpen) ∧
      (s.softReset.link l).crcOn = (s.link l).crcOn ∧ (s.softReset.link l).mask = (s.link l).mask ∧
      (s.softReset.link l).item = (s.link l).item ∧
      ((s.link l).resetDue = true → (s.softReset.link l).resetDue = false ∧
        (s.softReset.link l).answer = some (.response
          { illegal := false, frame := false, refused := false, rangeReset := false } .none .none))) ∧
    (∀ c m, s.check = some c → s.move c.slot = some m → s.softReset.move c.slot = some
      { m with state := .opened, failure := some { reason := .cancelled, track := none, frame := 0 } }) ∧
    (∀ n m, s.move n = some m → s.check.map (·.slot) ≠ some n →
      (m.state = .ready ∨ (m.state = .bound ∧ s.pass.record.map (·.slot) = some n)) →
      let dropped := (m.state = .bound ∧ m.uncertify = true) ∨ ∃ a r, m.hasTrack a = true ∧
        (s.axis a).staged = some r ∧ (s.axis a).conf.limitsDiffer r = true
      (dropped → s.softReset.move n = some
        { m with state := .opened, summary := none, failure := none, uncertify := false }) ∧
      (¬dropped → s.softReset.move n = some { m with state := .ready })) ∧
    (∀ n : Nat,
      (s.softReset.move n).map (fun m => (m.first, m.last, m.label, m.axisTracks, m.speedTrack,
          m.isProtected, m.generation)) =
        (s.move n).map (fun m => (m.first, m.last, m.label, m.axisTracks, m.speedTrack,
          m.isProtected, m.generation)))

/-- O10 (tier 1). RESET and SOFT_RESET: at once with the edit unit IDLE, else at the end of its operation; a
check that has not ended by then is CANCELLED. From R188, R21, R66, R67, R68. Rests on the model's own
choice of log entries 28, 46. -/
def Obligations.ResetTakesEffectAtOnceOrAfterTheOperation : Prop :=
  (∀ (s : State) (l : LinkId), s.phase = .serving →
    (s.edit = none → exec (.reset l) s =
      .next ((s.deselect l).onLink l (fun k => { k with resetDue := true })).softReset) ∧
    (s.edit.isSome = true → exec (.reset l) s =
      .next { (s.deselect l).onLink l (fun k => { k with resetDue := true }) with
        resetWaiting := true })) ∧
  (∀ s : State, s.phase = .serving →
    (s.edit = none → exec .softReset s = .next s.softReset) ∧
    (∀ r, s.edit = some r → exec .softReset s = .next (s.completeOp r).softReset)) ∧
  (∀ s : State, s.phase = .initializing → exec .softReset s = .next s) ∧
  (∀ (s : State) (r : EditRun), s.edit = some r → s.resetWaiting = true →
    (∀ i, i = (match r.op with
        | .dataBlock _ _ _ => Instr.dataBlockApplied
        | .keyDrop _ _ _ _ => Instr.keyDropEnd
        | .trackClear _ _ => Instr.trackClearEnd
        | .moveCopy _ _ => Instr.moveCopyEnd
        | .moveRetire _ => Instr.moveRetireEnd) →
      exec i s = .next (s.completeOp r).softReset)) ∧
  (∀ (s : State) (r : EditRun) (c : CheckRun) (m : Move), s.resetWaiting = true → s.edit = some r →
    s.check = some c → (s.completeOp r).move c.slot = some m →
    exec .checkEnd s = .next s ∧
    (s.completeOp r).softReset.check = none ∧
    (s.completeOp r).softReset.move c.slot = some { m with
      state := .opened, failure := some { reason := .cancelled, track := none, frame := 0 } } ∧
    ∀ l, ((s.completeOp r).softReset.link l).flags = 0)

/-- O11 (tier 2). A command or item of one link leaves the other link's own state alone. From R176, R30,
R45, R190. -/
def Obligations.OneLinkLeavesTheOtherLinkAlone : Prop :=
  ∀ (i : Instr) (l : LinkId) (s t : State), senderOf i = some l → i ≠ .reset l → exec i s = .next t →
    (t.link l.other).crcOn = (s.link l.other).crcOn ∧
    (t.link l.other).mask = (s.link l.other).mask ∧
    (t.link l.other).item = (s.link l.other).item ∧
    (t.link l.other).buffer = (s.link l.other).buffer ∧
    (t.link l.other).held = (s.link l.other).held ∧
    (t.link l.other).collection = (s.link l.other).collection ∧
    (t.link l.other).answer = (s.link l.other).answer ∧
    (t.link l.other).resetDue = (s.link l.other).resetDue ∧
    (t.link l.other).closedByReset = (s.link l.other).closedByReset ∧
    (t.link l.other).flags &&& (s.link l.other).flags = (s.link l.other).flags ∧
    ((∀ slot e, i ≠ .moveRetire l slot e) →
      (t.link l.other).transfer = (s.link l.other).transfer ∧
      (t.link l.other).marks = (s.link l.other).marks) ∧
    (∀ slot e, i = .moveRetire l slot e →
      ((t.link l.other).transfer = (s.link l.other).transfer ∨
        (t.link l.other).transfer = (s.link l.other).transfer.map (Transfer.retire slot)) ∧
      ((t.link l.other).marks = (s.link l.other).marks ∨
        (t.link l.other).marks = (s.link l.other).marks.forget slot))

/-- O12 (tier 1). An accepted content change acts on an OPEN, CHECKING and READY move as R28 gives. From
R28, R64, R67. -/
def Obligations.AContentChangeActsByTheMovesState : Prop :=
  ∀ (s : State) (slot : Nat) (m : Move), s.move slot = some m →
    (m.state = .opened → s.contentChange slot = s) ∧
    (m.state = .ready → s.contentChange slot = s.setMove slot (some
      { m with state := .opened, summary := none, failure := none, uncertify := false })) ∧
    (m.state = .checking → s.contentChange slot =
      let t := { s with check := none }.setMove slot (some
        { m with state := .opened, failure := some { reason := .cancelled, track := none, frame := 0 } })
      { t with linkA := { t.linkA with flags := t.linkA.flags ||| 0x2#17 },
               linkB := { t.linkB with flags := t.linkB.flags ||| 0x2#17 } })

/-- O13 (tier 1). MOVE_NEW: its tests in order, the slot it takes, and the move it makes. From R29, R30,
R23. -/
def Obligations.MoveNewTakesTheNamedOrTheLowestEmptySlot : Prop :=
  ∀ (s : State) (l : LinkId) (slot first last : Nat) (label : List Byte) (e : Option Nat),
    s.phase = .serving →
    let d := (s.deselect l).unmarked l
    let made : Move :=
      { state := .opened, isProtected := false, generation := 0, label := label, first := first,
        last := last, axisTracks := Vector.replicate 16 [], speedTrack := [], summary := none,
        failure := none, uncertify := false }
    let fits := first < last ∧ last ≤ 65535 ∧ label.length ≤ 16 ∧
      ∀ b ∈ label, 0x20 ≤ b.toNat ∧ b.toNat ≤ 0x7E
    (∀ r, s.edit = some r → r.link ≠ l → exec (.moveNew l slot first last label e) s =
      .next (d.refuseWith l .busyOther .none (s.marked l))) ∧
    (s.edit = none →
      (¬(slot ≤ 64 ∧ fits) → exec (.moveNew l slot first last label e) s =
        .next (d.refuseWith l .range .none (s.marked l))) ∧
      (1 ≤ slot → slot ≤ 64 → fits →
        ((s.move slot).isSome = true → exec (.moveNew l slot first last label e) s =
          .next (d.refuseWith l .state .none (s.marked l))) ∧
        (s.move slot = none → exec (.moveNew l slot first last label e) s =
          .next ((d.setMove slot (some made)).accept l (.slotGeneration slot 0) (s.marked l)))) ∧
      (slot = 0 → fits →
        ((∀ n, 1 ≤ n → n ≤ 64 → (s.move n).isSome = true) →
          exec (.moveNew l slot first last label e) s =
            .next (d.refuseWith l .full .none (s.marked l))) ∧
        (∀ n, 1 ≤ n → n ≤ 64 → s.move n = none → (∀ k, 1 ≤ k → k < n → (s.move k).isSome = true) →
          exec (.moveNew l slot first last label e) s =
            .next ((d.setMove n (some made)).accept l (.slotGeneration n 0) (s.marked l)))))

/-- O14 (tier 1). MOVE_SPAN and MOVE_LABEL: acceptance, with and without a change. From R31, R32, R14, R28,
R30. -/
def Obligations.SpanAndLabelEditsReplaceTheirField : Prop :=
  ∀ (s : State) (l : LinkId) (slot : Nat) (m : Move) (e : Option Nat), s.phase = .serving →
    s.edit = none → 1 ≤ slot → slot ≤ 64 → s.move slot = some m → (∀ g, e = some g → g = m.generation) →
    m.state ≠ .bound →
    let d := s.deselect l
    (∀ first last, first < last → last ≤ 65535 →
      ((∀ t f, f ∈ m.frames t → first ≤ f ∧ f ≤ last) → m.isProtected = false →
        (m.first = first ∧ m.last = last → exec (.moveSpan l slot first last e) s =
          .next ((d.unmarked l).accept l (.generation m.generation) (s.marked l))) ∧
        (¬(m.first = first ∧ m.last = last) → exec (.moveSpan l slot first last e) s =
          .next ((((d.contentChange slot).onMove slot (fun x => { x with
            first := first, last := last, generation := (x.generation + 1) % 65536 })).unmarked l).accept
              l (.generation ((m.generation + 1) % 65536)) (s.marked l)))) ∧
      (∀ t f, m.outside first last = some (t, f) → exec (.moveSpan l slot first last e) s =
        .next ((d.unmarked l).refuseWith l .spanKey (.spanKey t f) (s.marked l)))) ∧
    (∀ label : List Byte, label.length ≤ 16 → (∀ b ∈ label, 0x20 ≤ b.toNat ∧ b.toNat ≤ 0x7E) →
      m.isProtected = false →
      (m.label = label → exec (.moveLabel l slot label e) s =
        .next ((d.unmarked l).accept l (.generation m.generation) (s.marked l))) ∧
      (m.label ≠ label → exec (.moveLabel l slot label e) s =
        .next ((((d.contentChange slot).onMove slot (fun x => { x with
          label := label, generation := (x.generation + 1) % 65536 })).unmarked l).accept
            l (.generation ((m.generation + 1) % 65536)) (s.marked l))))

/-- O15 (tier 1). KEYS_PUT and KEYS_GET open a transfer or are refused; the end marker closes a put. From
R33, R34, R18, R37, R185, R186, R26. -/
def Obligations.KeyTransfersOpenAndClose : Prop :=
  ∀ (s : State) (l : LinkId), s.phase = .serving →
    let d := s.deselect l
    (∀ (slot : Nat) (m : Move) (tr : Nat) (t : TrackId) (e : Option Nat), trackOf tr = some t →
      1 ≤ slot → slot ≤ 64 → s.move slot = some m → (s.link l).transfer = none →
      (∀ x, (s.link l.other).transfer = some x → x.target ≠ (slot, t)) →
      (s.edit = none → (∀ g, e = some g → g = m.generation) → m.state ≠ .bound →
        m.isProtected = false → exec (.keysPut l slot tr e) s =
          .next (((d.onLink l (fun k => { k with
            transfer := some (.put slot t 0 0), closedByReset := false })).unmarked l).accept l
              (.keysPut m.generation (m.keyCount t) s.free) (s.marked l))) ∧
      (s.isTarget slot = false → exec (.keysGet l slot tr) s =
        .next ((d.onLink l (fun k => { k with
          transfer := some (.get slot t m.generation 1 0 false 0), closedByReset := false })).ok l
            (.keysGet m.generation (m.keyCount t))))) ∧
    (∀ (slot tr : Nat) (t : TrackId),
      (16 < tr ∨ slot = 0 ∨ 64 < slot → exec (.keysGet l slot tr) s = .next (d.refuse l .range)) ∧
      (trackOf tr = some t → 1 ≤ slot → slot ≤ 64 →
        ((s.link l).transfer.isSome = true ∨ s.move slot = none →
          exec (.keysGet l slot tr) s = .next (d.refuse l .state)) ∧
        ((s.link l).transfer = none → (s.move slot).isSome = true →
          (s.isTarget slot = true → exec (.keysGet l slot tr) s = .next (d.refuse l .busyOther)) ∧
          (s.isTarget slot = false → (s.link l.other).transfer.map Transfer.target = some (slot, t) →
            exec (.keysGet l slot tr) s = .next (d.refuse l .trackInUse))))) ∧
    (∀ (slot tr : Nat) (t : TrackId) (e : Option Nat), s.edit = none → trackOf tr = some t → 1 ≤ slot →
      slot ≤ 64 →
      ((s.link l).transfer.isSome = true → exec (.keysPut l slot tr e) s =
        .next ((d.unmarked l).refuseWith l .state .none (s.marked l))) ∧
      (∀ m, (s.link l).transfer = none → s.move slot = some m → (∀ g, e = some g → g = m.generation) →
        m.state ≠ .bound → (s.link l.other).transfer.map Transfer.target = some (slot, t) →
        exec (.keysPut l slot tr e) s =
          .next ((d.unmarked l).refuseWith l .trackInUse .none (s.marked l)))) ∧
    (s.edit = none →
      (∀ slot t n i, (s.link l).transfer = some (.put slot t n i) → exec (.endMarker l) s =
        .next (d.onLink l (fun k => { k with transfer := none, answer := some (.close n) }))) ∧
      ((∀ slot t n i, (s.link l).transfer ≠ some (.put slot t n i)) → exec (.endMarker l) s =
        .next (d.onLink l (fun k => { k with answer := some .closeRefused })))) ∧
    (s.edit.isSome = true → exec (.endMarker l) s =
      .next (d.onLink l (fun k => { k with held := some .endMarker })))

/-- O16 (tier 1). KEY_MARK_FIRST: refusals BUSY_OTHER, RANGE, STATE, STALE; else the first mark replaces the
marks. From R39. -/
def Obligations.FirstMarkHoldsSlotTrackAndFrame : Prop :=
  ∀ (s : State) (l : LinkId) (slot tr frame : Nat) (e : Option Nat), s.phase = .serving →
    let d := s.deselect l
    (∀ r, s.edit = some r → r.link ≠ l → exec (.keyMarkFirst l slot tr frame e) s =
      .next (d.refuseWith l .busyOther .none false)) ∧
    (s.edit = none →
      (¬(1 ≤ slot ∧ slot ≤ 64 ∧ tr ≤ 16 ∧ frame ≤ 65535) → exec (.keyMarkFirst l slot tr frame e) s =
        .next (d.refuseWith l .range .none false)) ∧
      (1 ≤ slot → slot ≤ 64 → frame ≤ 65535 → ∀ t, trackOf tr = some t →
        (s.move slot = none → exec (.keyMarkFirst l slot tr frame e) s =
          .next (d.refuseWith l .state .none false)) ∧
        (∀ m, s.move slot = some m →
          (∀ g, e = some g → g ≠ m.generation → exec (.keyMarkFirst l slot tr frame e) s =
            .next (d.refuseWith l .stale (.generation m.generation) false)) ∧
          ((∀ g, e = some g → g = m.generation) → exec (.keyMarkFirst l slot tr frame e) s =
            .next ((d.onLink l (fun k => { k with marks := .first slot t frame })).accept l
              (.generation m.generation) false)))))

/-- O17 (tier 1). KEY_MARK_LAST: refusals BUSY_OTHER, SEQUENCE, RANGE leave the marks; else the last mark is
set or replaced. From R40. -/
def Obligations.LastMarkJoinsTheFirst : Prop :=
  ∀ (s : State) (l : LinkId) (frame : Nat) (e : Option Nat), s.phase = .serving →
    let d := s.deselect l
    (∀ r, s.edit = some r → r.link ≠ l → exec (.keyMarkLast l frame e) s =
      .next (d.refuseWith l .busyOther .none false)) ∧
    (s.edit = none →
      ((s.link l).marks = .absent → exec (.keyMarkLast l frame e) s =
        .next (d.refuseWith l .sequence .none false)) ∧
      (∀ slot t first, (s.link l).marks = .first slot t first ∨
          (∃ last, (s.link l).marks = .both slot t first last) →
        (frame < first ∨ 65535 < frame → exec (.keyMarkLast l frame e) s =
          .next (d.refuseWith l .range .none false)) ∧
        (first ≤ frame → frame ≤ 65535 → exec (.keyMarkLast l frame e) s =
          .next ((d.onLink l (fun k => { k with marks := .both slot t first frame })).accept l
            .none false))))

/-- O18 (tier 1). KEY_DROP, TRACK_CLEAR, MOVE_COPY and MOVE_RETIRE: their own refusals, and what happens at
the taking. From R41, R42, R22, R25, R26, R28, R30, R43, R44, R45, R46. -/
def Obligations.TimedEditsBeginTheirOperation : Prop :=
  (∀ (s : State) (l : LinkId) (slot : Nat) (t : TrackId) (m : Move) (e : Option Nat),
    s.phase = .serving → s.edit = none → s.move slot = some m →
    (∀ g, e = some g → g = m.generation) → m.state ≠ .bound → m.isProtected = false →
    (∀ n i, (s.link l.other).transfer ≠ some (.put slot t n i)) →
    let d := s.deselect l
    (∀ a b, (s.link l).marks = .both slot t a b → exec (.keyDrop l e) s = .next
      { ((if (m.frames t).any (fun f => decide (a ≤ f ∧ f ≤ b)) then d.contentChange slot
          else d).unmarked l) with
        edit := some { link := l, op := .keyDrop slot t a b, answerDue := true, rangeReset := false,
                       elapsed := 0 } }) ∧
    ((∀ x y a b, (s.link l).marks ≠ .both x y a b) → exec (.keyDrop l e) s =
      .next (d.refuseWith l .sequence .none false)) ∧
    (∀ tr, trackOf tr = some t → 1 ≤ slot → slot ≤ 64 → exec (.trackClear l slot tr e) s = .next
      { ((if m.keyCount t = 0 then d else d.contentChange slot).unmarked l) with
        edit := some { link := l, op := .trackClear slot t, answerDue := true,
                       rangeReset := s.marked l, elapsed := 0 } })) ∧
  (∀ (s : State) (l : LinkId) (e : Option Nat), s.phase = .serving →
    let d := s.deselect l
    let c := d.unmarked l
    (∀ r, s.edit = some r → r.link ≠ l → exec (.keyDrop l e) s =
      .next (d.refuseWith l .busyOther .none false)) ∧
    (∀ slot t a b, s.edit = none → (s.link l).marks = .both slot t a b →
      (s.move slot = none → exec (.keyDrop l e) s = .next (c.refuseWith l .state .none false)) ∧
      (∀ m, s.move slot = some m →
        (∀ g, e = some g → g ≠ m.generation → exec (.keyDrop l e) s =
          .next (c.refuseWith l .stale (.generation m.generation) false)) ∧
        ((∀ g, e = some g → g = m.generation) →
          (m.state = .bound → exec (.keyDrop l e) s = .next (c.refuseWith l .held .none false)) ∧
          (m.state ≠ .bound →
            (∀ n i, (s.link l.other).transfer = some (.put slot t n i) → exec (.keyDrop l e) s =
              .next (c.refuseWith l .trackInUse .none false)) ∧
            ((∀ n i, (s.link l.other).transfer ≠ some (.put slot t n i)) → m.isProtected = true →
              exec (.keyDrop l e) s = .next (c.refuseWith l .isProtected .none false)))))) ∧
    (∀ slot m, s.edit = none → s.move slot = some m → (∀ g, e = some g → g = m.generation) →
      m.state ≠ .bound →
      (∀ tr t n i, trackOf tr = some t → (s.link l.other).transfer = some (.put slot t n i) →
        exec (.trackClear l slot tr e) s = .next (c.refuseWith l .trackInUse .none (s.marked l))) ∧
      (∀ k t n i, (s.link k).transfer = some (.put slot t n i) →
        exec (.moveRetire l slot e) s = .next (c.refuseWith l .trackInUse .none (s.marked l)))) ∧
    (∀ src dst, s.edit = none →
      (src = 0 ∨ 64 < src ∨ dst = 0 ∨ 64 < dst → exec (.moveCopy l src dst e) s =
        .next (c.refuseWith l .range .none (s.marked l))) ∧
      (1 ≤ src → src ≤ 64 → 1 ≤ dst → dst ≤ 64 →
        (s.move src = none → exec (.moveCopy l src dst e) s =
          .next (c.refuseWith l .state .none (s.marked l))) ∧
        (∀ m g, s.move src = some m → e = some g → g ≠ m.generation → exec (.moveCopy l src dst e) s =
          .next (c.refuseWith l .stale (.generation m.generation) (s.marked l)))))) ∧
  (∀ (s : State) (l : LinkId) (slot : Nat) (m : Move) (e : Option Nat), s.phase = .serving →
    s.edit = none → 1 ≤ slot → slot ≤ 64 → s.move slot = some m →
    (∀ g, e = some g → g = m.generation) →
    let d := s.deselect l
    (∀ dst, 1 ≤ dst → dst ≤ 64 →
      ((s.move dst).isSome = true → exec (.moveCopy l slot dst e) s =
        .next ((d.unmarked l).refuseWith l .state .none (s.marked l))) ∧
      (s.move dst = none → s.free < m.blocks → exec (.moveCopy l slot dst e) s =
        .next ((d.unmarked l).refuseWith l .full .none (s.marked l))) ∧
      (s.move dst = none → m.blocks ≤ s.free → exec (.moveCopy l slot dst e) s = .next
        { ((d.setMove dst (some
            { state := .opened, isProtected := false, generation := 0, label := m.label,
              first := m.first, last := m.last, axisTracks := Vector.replicate 16 [],
              speedTrack := [], summary := none, failure := none, uncertify := false })).unmarked l) with
          edit := some { link := l, op := .moveCopy slot dst, answerDue := true,
                         rangeReset := s.marked l, elapsed := 0 } })) ∧
    (m.state ≠ .bound → m.isProtected = false →
      (∀ k t n i, (s.link k).transfer ≠ some (.put slot t n i)) → exec (.moveRetire l slot e) s = .next
        { (((if m.state = .checking then d.contentChange slot else d).onLinks (fun k =>
            { k with
              transfer := k.transfer.map (fun x => match x with
                | .put a b n i => .put a b n i
                | .get a b g p n ret i => .get a b g p n (ret || decide (a = slot)) i)
              marks := match k.marks with
                | .absent => .absent
                | .first a b f => if a = slot then .absent else .first a b f
                | .both a b f n => if a = slot then .absent else .both a b f n })).unmarked l) with
          edit := some { link := l, op := .moveRetire slot, answerDue := true,
                         rangeReset := s.marked l, elapsed := 0 } }))

/-- O19 (tier 1). KEY_DROP_END, TRACK_CLEAR_END, MOVE_COPY_END and MOVE_RETIRE_END: the store, the pool and
the answer; the tick that counts to the bound. From R41, R42, R7, R14, R22, R43, R44. Rests on the model's
own choice of log entry 7. -/
def Obligations.TimedEditsEnd : Prop :=
  (∀ (s : State) (r : EditRun) (slot : Nat) (t : TrackId) (m : Move), s.endsAlone r = true →
    s.move slot = some m →
    let after (f : Nat → Bool) : State :=
      if (m.frames t).any f then
        { s.setMove slot (some { m.keep t (fun n => !f n) with
            generation := (m.generation + 1) % 65536 }) with
          free := s.free + m.blocks - (m.keep t (fun n => !f n)).blocks, edit := none }
      else { s with edit := none }
    let gen (f : Nat → Bool) : Nat :=
      if (m.frames t).any f then (m.generation + 1) % 65536 else m.generation
    (∀ a b, r.op = .keyDrop slot t a b →
      let f : Nat → Bool := fun n => decide (a ≤ n ∧ n ≤ b)
      exec .keyDropEnd s = .next (if r.answerDue then
        (after f).accept r.link (.dropped ((m.frames t).filter f).length (gen f)) r.rangeReset
        else after f)) ∧
    (r.op = .trackClear slot t →
      let f : Nat → Bool := fun _ => true
      exec .trackClearEnd s = .next (if r.answerDue then
        (after f).accept r.link (.cleared (m.keyCount t) (after f).free (gen f)) r.rangeReset
        else after f))) ∧
  (∀ (s : State) (r : EditRun) (m : Move), s.endsAlone r = true →
    (∀ src dst d, r.op = .moveCopy src dst → s.move src = some m → s.move dst = some d →
      let t := { s.setMove dst (some { d with
        axisTracks := m.axisTracks, speedTrack := m.speedTrack }) with
        free := s.free - m.blocks, edit := none }
      exec .moveCopyEnd s = .next (if r.answerDue then
        t.accept r.link (.copied dst 0 (s.free - m.blocks)) r.rangeReset else t)) ∧
    (∀ slot, r.op = .moveRetire slot → s.move slot = some m →
      let t := { s.setMove slot none with free := s.free + m.blocks, edit := none }
      exec .moveRetireEnd s = .next (if r.answerDue then
        t.accept r.link (.retired m.blocks (s.free + m.blocks)) r.rangeReset else t))) ∧
  (∀ s : State, s.edit = none → s.tickEdit = s) ∧
  (∀ (s : State) (r : EditRun) (i : Instr), s.edit = some r → i = (match r.op with
        | .dataBlock _ _ _ => Instr.dataBlockApplied
        | .keyDrop _ _ _ _ => Instr.keyDropEnd
        | .trackClear _ _ => Instr.trackClearEnd
        | .moveCopy _ _ => Instr.moveCopyEnd
        | .moveRetire _ => Instr.moveRetireEnd) →
    let bound : Nat := match r.op with
      | .dataBlock _ _ _ => 2
      | .keyDrop _ _ _ _ | .trackClear _ _ | .moveRetire _ => 4
      | .moveCopy src _ => 4 + (((s.move src).map Move.blocks).getD 0 + 7) / 8
    (r.elapsed + 1 < bound → s.tickEdit = { s with edit := some { r with elapsed := r.elapsed + 1 } }) ∧
    (bound ≤ r.elapsed + 1 → exec i s = .next s.tickEdit))

/-- O20 (tier 1). DATA_BLOCK: frame errors, the tests of R35 in order and the operation; DATA_BLOCK_APPLIED
merges and acknowledges. From R184, R35, R36, R38, R34, R177, R179, R192, R4, R5. Rests on the model's own
choice of log entries 27, 45. -/
def Obligations.DataBlockTakenAndApplied : Prop :=
  (∀ (s : State) (l : LinkId) (count : Byte) (keys crc : List Byte),
    let d := s.deselect l
    let bad : State := d.onLink l (fun k =>
      { k with transfer := k.transfer.map Transfer.restart, answer := some .blockFrameError })
    let size := (s.link l).keySize
    (count.toNat = 0 ∨ 16 < count.toNat → crc.length = 2 →
      exec (.dataBlock l (0xF1#8 :: count :: crc)) s = .next bad) ∧
    (1 ≤ count.toNat → count.toNat ≤ 16 → keys.length = count.toNat * size → crc.length = 2 →
      ((s.link l).crcOn = true → crc ≠ crcBytes (crcOf (count :: keys)) →
        exec (.dataBlock l (0xF1#8 :: count :: (keys ++ crc))) s = .next bad) ∧
      ((s.link l).crcOn = false ∨ crc = crcBytes (crcOf (count :: keys)) →
        testBlock (s.link l).crcOn size (count :: (keys ++ crc)) =
          .received { count := count.toNat, body := keys })) ∧
    (1 ≤ count.toNat → count.toNat ≤ 16 → keys.length < count.toNat * size + 2 →
      exec (.dataBlock l (0xF1#8 :: count :: keys)) s =
        .next (d.onLink l (fun k => { k with item := some (.block (count :: keys)) })))) ∧
  (∀ (s : State) (l : LinkId) (bs : List Byte) (b : DataBlock), s.phase = .serving →
    testBlock (s.link l).crcOn (s.link l).keySize bs = .received b →
    let d := s.deselect l
    let no (why : Reason) : State := d.onLink l (fun k =>
      { k with transfer := k.transfer.map Transfer.restart, answer := some (.blockRefused why) })
    (s.outstanding l = true → exec (.dataBlock l (0xF1#8 :: bs)) s = .next (no .overrun)) ∧
    (s.outstanding l = false → s.edit.isSome = true → exec (.dataBlock l (0xF1#8 :: bs)) s =
      .next (d.onLink l (fun k => { k with buffer := some { block := b, ackDue := true } }))) ∧
    (s.outstanding l = false → s.edit = none →
      ((∀ slot t n i, (s.link l).transfer ≠ some (.put slot t n i)) →
        exec (.dataBlock l (0xF1#8 :: bs)) s = .next (no .noTransfer)) ∧
      (∀ slot t n i m, (s.link l).transfer = some (.put slot t n i) → s.move slot = some m →
        (m.state = .bound → exec (.dataBlock l (0xF1#8 :: bs)) s = .next (no .held)) ∧
        (m.state ≠ .bound →
          (increasing (b.frames t) = false → exec (.dataBlock l (0xF1#8 :: bs)) s = .next (no .order)) ∧
          (increasing (b.frames t) = true →
            ((∃ f ∈ b.frames t, f < m.first ∨ m.last < f) →
              exec (.dataBlock l (0xF1#8 :: bs)) s = .next (no .spanKey)) ∧
            ((∀ f ∈ b.frames t, m.first ≤ f ∧ f ≤ m.last) →
              (b.keys t = none → exec (.dataBlock l (0xF1#8 :: bs)) s = .next (no .range)) ∧
              (∀ ks, b.keys t = some ks →
                (m.tooFull s.free t ks = true → exec (.dataBlock l (0xF1#8 :: bs)) s = .next (no .full)) ∧
                (m.tooFull s.free t ks = false →
                  (m.isProtected = true → exec (.dataBlock l (0xF1#8 :: bs)) s = .next (no .isProtected)) ∧
                  (m.isProtected = false → exec (.dataBlock l (0xF1#8 :: bs)) s = .next
                    { d.contentChange slot with
                      edit := some { link := l, op := .dataBlock slot t ks, answerDue := true,
                                     rangeReset := false, elapsed := 0 } })))))))) ) ∧
  (∀ (s : State) (r : EditRun) (slot : Nat) (t : TrackId) (ks : BlockKeys) (m : Move),
    s.endsAlone r = true → r.op = .dataBlock slot t ks → s.move slot = some m →
    (∀ n i, (s.link r.link).transfer = some (.put slot t n i) →
      exec .dataBlockApplied s = .next
        ({ s.setMove slot (some { m.merge t ks with generation := (m.generation + 1) % 65536 }) with
            free := s.free + m.blocks - (m.merge t ks).blocks, edit := none }.onLink r.link (fun k =>
          { k with
            transfer := some (.put slot t (min (n + ks.count) 65535) 0)
            answer := if r.answerDue then some .blockAccepted else k.answer })))) ∧
  (let axisBytes (k : RawAxisKey) : List Byte :=
    beBytes 2 k.frame ++ sBytes 4 k.value ++ byte1 k.mode ++ sBytes 3 k.inSlope ++ sBytes 3 k.outSlope
  ∀ (ks : List RawAxisKey) (a : AxisId) (crcOn : Bool), 1 ≤ ks.length → ks.length ≤ 16 →
    (∀ k ∈ ks, k.frame < 65536 ∧ -2147483648 ≤ k.value ∧ k.value ≤ 2147483647 ∧ k.mode < 256 ∧
      -8388608 ≤ k.inSlope ∧ k.inSlope ≤ 8388607 ∧ -8388608 ≤ k.outSlope ∧ k.outSlope ≤ 8388607) →
    let b : DataBlock := { count := ks.length, body := ks.flatMap axisBytes }
    testBlock crcOn 13 (withCrc (byte1 ks.length ++ ks.flatMap axisBytes)) = .received b ∧
    b.frames (.axis a) = ks.map (·.frame) ∧
    ((∃ k ∈ ks, k.value < -1073741824 ∨ 1073741823 < k.value ∨ 2 < k.mode) →
      b.keys (.axis a) = none) ∧
    ((∀ k ∈ ks, -1073741824 ≤ k.value ∧ k.value ≤ 1073741823 ∧ k.mode ≤ 2) →
      b.keys (.axis a) = some (.axis (ks.map (fun k =>
        { frame := k.frame, value := k.value,
          mode := if k.mode = 0 then .auto else if k.mode = 1 then .flat
            else .given k.inSlope k.outSlope }))))) ∧
  (∀ (ks : List SpeedKey) (crcOn : Bool), 1 ≤ ks.length → ks.length ≤ 16 →
    (∀ k ∈ ks, k.frame < 65536 ∧ k.rate < 4294967296) →
    let body := ks.flatMap (fun k => beBytes 2 k.frame ++ beBytes 4 k.rate)
    let b : DataBlock := { count := ks.length, body := body }
    testBlock crcOn 6 (withCrc (byte1 ks.length ++ body)) = .received b ∧
    b.frames .speed = ks.map (·.frame) ∧
    ((∃ k ∈ ks, k.rate < 1000 ∨ 300000 < k.rate) → b.keys .speed = none) ∧
    ((∀ k ∈ ks, 1000 ≤ k.rate ∧ k.rate ≤ 300000) → b.keys .speed = some (.speed ks))) ∧
  (∀ (ks : BlockKeys) (t : TrackId) (crcOn : Bool), 1 ≤ ks.count → ks.count ≤ 16 →
    (match t, ks with
      | .axis _, .axis xs => ∀ k ∈ xs, k.frame < 65536 ∧ -1073741824 ≤ k.value ∧ k.value ≤ 1073741823 ∧
          ∀ i o, k.mode = .given i o →
            -8388608 ≤ i ∧ i ≤ 8388607 ∧ -8388608 ≤ o ∧ o ≤ 8388607
      | .speed, .speed xs => ∀ k ∈ xs, k.frame < 65536 ∧ 1000 ≤ k.rate ∧ k.rate ≤ 300000
      | .axis _, .speed _ => False
      | .speed, .axis _ => False) →
    ∃ b, testBlock crcOn (keySize t) (withCrc (blockBytes ks)) = .received b ∧ b.keys t = some ks)

/-- O21 (tier 2). A merged block replaces the keys of its frames, inserts the others in order, and keeps
every other key. From R36, R6. -/
def Obligations.MergingReplacesAndInsertsInFrameOrder : Prop :=
  (∀ (m : Move) (a : AxisId) (ks : List AxisKey),
    increasing ((m.axisTrack a).map (·.frame)) = true → increasing (ks.map (·.frame)) = true →
    increasing (((m.merge (.axis a) (.axis ks)).axisTrack a).map (·.frame)) = true ∧
    (∀ k, k ∈ (m.merge (.axis a) (.axis ks)).axisTrack a ↔
      k ∈ ks ∨ (k ∈ m.axisTrack a ∧ ∀ j ∈ ks, j.frame ≠ k.frame)) ∧
    (∀ c, c ≠ a → (m.merge (.axis a) (.axis ks)).axisTrack c = m.axisTrack c) ∧
    { m.merge (.axis a) (.axis ks) with axisTracks := m.axisTracks } = m) ∧
  (∀ (m : Move) (ks : List SpeedKey),
    increasing (m.speedTrack.map (·.frame)) = true → increasing (ks.map (·.frame)) = true →
    increasing ((m.merge .speed (.speed ks)).speedTrack.map (·.frame)) = true ∧
    (∀ k, k ∈ (m.merge .speed (.speed ks)).speedTrack ↔
      k ∈ ks ∨ (k ∈ m.speedTrack ∧ ∀ j ∈ ks, j.frame ≠ k.frame)) ∧
    { m.merge .speed (.speed ks) with speedTrack := m.speedTrack } = m)

/-- O22 (tier 1). MOVE_PROTECT and MOVE_UNPROTECT set the protection and raise the generation, or change
nothing. From R47, R48, R13, R30. -/
def Obligations.ProtectAndUnprotectSetTheirSetting : Prop :=
  ∀ (s : State) (l : LinkId) (slot : Nat) (m : Move) (e : Option Nat), s.phase = .serving →
    s.edit = none → 1 ≤ slot → slot ≤ 64 → s.move slot = some m →
    (∀ g, e = some g → g = m.generation) →
    let d := (s.deselect l).unmarked l
    let set (p : Bool) : State := (d.setMove slot (some { m with
        isProtected := p, generation := (m.generation + 1) % 65536 })).accept l
      (.generation ((m.generation + 1) % 65536)) (s.marked l)
    let kept : State := d.accept l (.generation m.generation) (s.marked l)
    (m.state = .checking → exec (.moveProtect l slot e) s =
      .next (d.refuseWith l .state .none (s.marked l))) ∧
    (m.state ≠ .checking →
      (m.isProtected = false → exec (.moveProtect l slot e) s = .next (set true)) ∧
      (m.isProtected = true → exec (.moveProtect l slot e) s = .next kept)) ∧
    (m.isProtected = true → exec (.moveUnprotect l slot e) s = .next (set false)) ∧
    (m.isProtected = false → exec (.moveUnprotect l slot e) s = .next kept)

/-- O23 (tier 2). BUSY_OTHER, RANGE, STATE, STALE, HELD, PROTECTED, in order, refuse the edits of one slot;
MOVE_PROTECT and MOVE_UNPROTECT up to STALE. From R26, R27, R13, R23, R47, R48, R43. Rests on the model's
own choice of log entry 18. -/
def Obligations.EditsAreRefusedInTheOrderOfR26 : Prop :=
  ∀ (s : State) (l : LinkId) (slot dst first last tr : Nat) (label : List Byte) (e : Option Nat)
    (i : Instr), s.phase = .serving → first < last → last ≤ 65535 → tr ≤ 16 → labelOk label = true →
    (s.link l).transfer = none → (s.link l.other).transfer = none →
    let content := i = .moveSpan l slot first last e ∨ i = .moveLabel l slot label e ∨
      i = .trackClear l slot tr e ∨ i = .keysPut l slot tr e ∨ i = .moveRetire l slot e
    let setting := i = .moveProtect l slot e ∨ i = .moveUnprotect l slot e
    let d := (s.deselect l).unmarked l
    (content ∨ setting ∨ i = .moveCopy l slot dst e → ∀ r, s.edit = some r → r.link ≠ l →
      exec i s = .next (d.refuseWith l .busyOther .none (s.marked l))) ∧
    (content ∨ setting → s.edit = none →
      (slot = 0 ∨ 64 < slot → exec i s = .next (d.refuseWith l .range .none (s.marked l))) ∧
      (1 ≤ slot → slot ≤ 64 →
        (s.move slot = none → exec i s = .next (d.refuseWith l .state .none (s.marked l))) ∧
        (∀ m, s.move slot = some m →
          (∀ g, e = some g → g ≠ m.generation →
            exec i s = .next (d.refuseWith l .stale (.generation m.generation) (s.marked l))) ∧
          (content → (∀ g, e = some g → g = m.generation) →
            (m.state = .bound → exec i s = .next (d.refuseWith l .held .none (s.marked l))) ∧
            (m.state ≠ .bound → m.isProtected = true → m.outside first last = none →
              exec i s = .next (d.refuseWith l .isProtected .none (s.marked l)))))))

/-- O24 (tier 2). At the end of an operation the unit takes the other link's first waiting item, else its
own link's; store edits behind it are held. From R24, R22, R23, R25, R184, R37. Rests on the model's own
choice of log entries 11, 12, 45. -/
def Obligations.TheOtherLinkIsServedNext : Prop :=
  (∀ (s : State) (r : EditRun) (i : Instr), s.edit = some r → s.resetWaiting = false →
    i = (match r.op with
        | .dataBlock _ _ _ => Instr.dataBlockApplied
        | .keyDrop _ _ _ _ => Instr.keyDropEnd
        | .trackClear _ _ => Instr.trackClearEnd
        | .moveCopy _ _ => Instr.moveCopyEnd
        | .moveRetire _ => Instr.moveRetireEnd) →
    let b := ((s.completeOp r).answerOp r s).serveCollections
    let o := r.link.other
    let waits (u : State) (k : LinkId) : Prop := (u.link k).buffer.isSome = true ∨ (u.link k).held.isSome = true
    let working (u : State) (k : LinkId) (op : EditOp) (due rr : Bool) : State :=
      { u with edit := some { link := k, op := op, answerDue := due, rangeReset := rr, elapsed := 0 } }
    let takes (u : State) (k : LinkId) (t : State) : Prop :=
      (∀ x, (u.link k).buffer = some x →
        let c := u.onLink k (fun y => { y with buffer := none })
        (∀ op, c.judgeBlock k x.block = .inr op →
          t = working (c.contentChange op.slot) k op x.ackDue false) ∧
        (∀ why, c.judgeBlock k x.block = .inl why → t = c.acknowledge k x.ackDue (.blockRefused why))) ∧
      (∀ cmd, (u.link k).buffer = none → (u.link k).held = some (.command cmd) →
        let c := u.onLink k (fun y => { y with held := none })
        (∀ v op, c.judge k cmd = .timed v op →
          t = working (v.afterMarks k cmd .none) k op true (c.rangeReset k cmd)) ∧
        (∀ v res, c.judge k cmd = .accept v res →
          t = (v.afterMarks k cmd .none).accept k res (c.rangeReset k cmd)) ∧
        (∀ why res, c.judge k cmd = .refuse why res →
          t = (c.afterMarks k cmd why).refuseWith k why res (c.rangeReset k cmd))) ∧
      ((u.link k).buffer = none → (u.link k).held = some .endMarker →
        (∀ slot tr n j, (u.link k).transfer = some (.put slot tr n j) → t = u.onLink k (fun y =>
          { y with held := none, transfer := none, answer := some (.close n) })) ∧
        ((∀ slot tr n j, (u.link k).transfer ≠ some (.put slot tr n j)) → t = u.onLink k (fun y =>
          { y with held := none, answer := some .closeRefused })))
    (∀ k, (b.link k).buffer = (s.link k).buffer ∧ (b.link k).held = (s.link k).held) ∧ b.edit = none ∧
    (waits b o → ∃ t, takes b o t ∧
      (t.edit.isSome = true → exec i s = .next t) ∧
      (t.edit = none → waits t r.link → ∃ v, takes t r.link v ∧
        (v.edit.isSome = true → exec i s = .next v)) ∧
      (t.edit = none → ¬waits t r.link → waits t o → ∃ v, takes t o v ∧ exec i s = .next v) ∧
      (t.edit = none → ¬waits t r.link → ¬waits t o → exec i s = .next t)) ∧
    (¬waits b o → waits b r.link → ∃ t, takes b r.link t ∧
      (t.edit.isSome = true ∨ ¬waits t r.link → exec i s = .next t) ∧
      (t.edit = none → waits t r.link → ∃ v, takes t r.link v ∧ exec i s = .next v)) ∧
    (¬waits b o → ¬waits b r.link → exec i s = .next b) ∧
    (∀ t, exec i s = .next t → t.edit = none → ∀ k, ¬waits t k)) ∧
  (∀ (s : State) (l : LinkId) (r : EditRun), s.phase = .serving → s.edit = some r → r.link = l →
    let held (c : EditCmd) : State :=
      (s.deselect l).onLink l (fun k => { k with held := some (.command c) })
    (∀ (slot first last : Nat) (label : List Byte) (e : Option Nat),
      exec (.moveNew l slot first last label e) s = .next (held (.moveNew slot first last label)) ∧
      exec (.moveSpan l slot first last e) s = .next (held (.moveSpan slot first last e)) ∧
      exec (.moveLabel l slot label e) s = .next (held (.moveLabel slot label e)) ∧
      exec (.moveRetire l slot e) s = .next (held (.moveRetire slot e)) ∧
      exec (.moveProtect l slot e) s = .next (held (.moveProtect slot e)) ∧
      exec (.moveUnprotect l slot e) s = .next (held (.moveUnprotect slot e)) ∧
      exec (.keyDrop l e) s = .next (held (.keyDrop e))) ∧
    (∀ (slot n frame : Nat) (e : Option Nat),
      exec (.keysPut l slot n e) s = .next (held (.keysPut slot n e)) ∧
      exec (.keyMarkFirst l slot n frame e) s = .next (held (.keyMarkFirst slot n frame e)) ∧
      exec (.keyMarkLast l frame e) s = .next (held (.keyMarkLast frame)) ∧
      exec (.trackClear l slot n e) s = .next (held (.trackClear slot n e)) ∧
      exec (.moveCopy l slot n e) s = .next (held (.moveCopy slot n e))))

/-- O25 (tier 1). COLLECT_REQUEST, GET_DATA_BLOCK_SENT, the idle times a tick raises, PUT_TRANSFER_TIMEOUT
and GET_TRANSFER_TIMEOUT. From R19, R186, R38, R189. Rests on the model's own choice of log entries 5, 39.
-/
def Obligations.CollectionsAndTransferTimeouts : Prop :=
  ((∀ (s : State) (l : LinkId) (slot : Nat) (t : TrackId) (g p n i : Nat) (ret : Bool),
    s.phase = .serving → (s.link l).transfer = some (.get slot t g p n ret i) →
    let d := (s.deselect l).onLink l (fun k => { k with transfer := some (.get slot t g p n ret 0) })
    let ends (a : Answer) : State := ({ d with freeIx := s.freeIx + 1 } : State).onLink l (fun k =>
      if Config.endClockedOut s.freeIx = true
      then { k with transfer := none, collection := .none, answer := some a }
      else { k with collection := .unsent, answer := some a })
    (s.isTarget slot = true → exec (.collectRequest l) s =
      .next (d.onLink l (fun k => { k with collection := .waiting }))) ∧
    (s.isTarget slot = false →
      (s.move slot = none ∨ ret = true ∨ (∃ m, s.move slot = some m ∧ m.generation ≠ g) →
        exec (.collectRequest l) s = .next (ends (.readError .stale))) ∧
      (∀ m, s.move slot = some m → ret = false → m.generation = g →
        ((m.keyCount t) < p ∨ m.keyCount t = 0 → exec (.collectRequest l) s =
          .next (ends (.getEnd n))) ∧
        (1 ≤ p → p ≤ m.keyCount t → exec (.collectRequest l) s = .next (d.onLink l (fun k =>
          { k with
            collection := .sending (min 16 (m.keyCount t - (p - 1)))
            answer := some (.keys (m.nextKeys t p)) })))))) ∧
  (∀ (s : State) (l : LinkId), s.phase = .serving →
    (∀ slot t g p n ret i, (s.link l).transfer ≠ some (.get slot t g p n ret i)) →
    exec (.collectRequest l) s = .next ((s.deselect l).onLink l (fun k =>
      { k with
        closedByReset := false
        answer := some (.readError (if k.closedByReset then .state else .noTransfer)) }))) ∧
  (∀ (s : State) (l : LinkId) (slot : Nat) (t : TrackId) (g p n i c : Nat) (ret : Bool),
    (s.link l).transfer = some (.get slot t g p n ret i) → (s.link l).collection = .sending c →
    exec (.getDataBlockSent l) s = .next (s.onLink l (fun k =>
      { k with transfer := some (.get slot t g (p + c) (n + c) ret i), collection := .none })))) ∧
  (∀ (s : State) (l : LinkId) (slot : Nat) (t : TrackId) (i : Nat),
    let closed : State := s.setLink l { s.link l with
      transfer := none, collection := .none, flags := (s.link l).flags ||| 0x10000#17 }
    (∀ n, (s.link l).transfer = some (.put slot t n i) → s.outstanding l = false →
      (999 ≤ i → exec (.putTransferTimeout l) s = .next closed ∧ s.tickLink l = closed) ∧
      (i < 999 → exec (.putTransferTimeout l) s = .next s ∧ s.tickLink l =
        s.setLink l { s.link l with transfer := some (.put slot t n (i + 1)) })) ∧
    (∀ n, (s.link l).transfer = some (.put slot t n i) → s.outstanding l = true → s.tickLink l = s) ∧
    ((s.link l).transfer = none → s.tickLink l = s) ∧
    (∀ g p n ret, (s.link l).transfer = some (.get slot t g p n ret i) →
      (s.link l).collection ≠ .none → s.tickLink l = s) ∧
    (∀ g p n ret, (s.link l).transfer = some (.get slot t g p n ret i) →
      (s.link l).collection = .none →
      (999 ≤ i → exec (.getTransferTimeout l) s = .next closed ∧ s.tickLink l = closed) ∧
      (i < 999 → exec (.getTransferTimeout l) s = .next s ∧ s.tickLink l =
        s.setLink l { s.link l with transfer := some (.get slot t g p n ret (i + 1)) })))

/-- O26 (tier 1). MOVE_CHECK starts the check with the limits in force; CHECK_END writes its result and
raises CHECK_DONE. From R50, R51, R62, R63, R67, R49, R52. Rests on the model's own choice of log entries 7,
46. -/
def Obligations.MoveCheckAndCheckEnd : Prop :=
  (∀ (s : State) (l : LinkId) (slot : Nat) (e : Option Nat), s.phase = .serving →
    let d := s.deselect l
    (slot = 0 ∨ 64 < slot → exec (.moveCheck l slot e) s = .next (d.refuse l .range)) ∧
    (1 ≤ slot → slot ≤ 64 →
      (s.move slot = none → exec (.moveCheck l slot e) s = .next (d.refuse l .state)) ∧
      (∀ m, s.move slot = some m →
        (s.isTarget slot = true → exec (.moveCheck l slot e) s = .next (d.refuse l .busyOther)) ∧
        (s.isTarget slot = false →
          (∀ g, e = some g → g ≠ m.generation → exec (.moveCheck l slot e) s =
            .next (d.refuseWith l .stale (.generation m.generation) false)) ∧
          ((∀ g, e = some g → g = m.generation) →
            (m.state ≠ .opened → exec (.moveCheck l slot e) s = .next (d.refuse l .state)) ∧
            (m.state = .opened →
              (s.check.isSome = true → exec (.moveCheck l slot e) s = .next (d.refuse l .busyOther)) ∧
              (s.check = none → exec (.moveCheck l slot e) s =
                .next (({ d.setMove slot (some { m with state := .checking, failure := none }) with
                  check := (some
                    { slot := slot
                      limits := m.presentAxes.map (fun a =>
                        { axis := a, vmax := (s.axis a).conf.vmax, amax := (s.axis a).conf.amax,
                          jmax := (s.axis a).conf.jmax, unset := (s.axis a).conf.unset })
                      peaks := [], extents := [], elapsed := 0 }) } : State).ok l
                    (.slotGeneration slot m.generation))))))))) ∧
  (∀ (s : State) (c : CheckRun) (m : Move), s.check = some c → s.move c.slot = some m →
    c.sound m = true → s.resetWaiting = false →
    let done (x : Move) : State :=
      let t := { s with check := none }.setMove c.slot (some x)
      { t with linkA := { t.linkA with flags := t.linkA.flags ||| 0x2#17 },
               linkB := { t.linkB with flags := t.linkB.flags ||| 0x2#17 } }
    (∀ sum, checkResult m c.limits = .certified sum → exec .checkEnd s =
      .next (done { m with state := .ready, summary := some sum, failure := none })) ∧
    (∀ f, checkResult m c.limits = .failed f → exec .checkEnd s =
      .next (done { m with state := .opened, summary := none, failure := some f }))) ∧
  (∀ s : State, s.check = none → s.tickCheck = s) ∧
  (∀ (s : State) (c : CheckRun) (m : Move), s.check = some c → s.move c.slot = some m →
    let bound : Nat := 10 + ((allTracks.map m.keyCount).sum + 63) / 64
    (c.elapsed + 1 < bound → ∃ peaks extents, s.tickCheck = { s with
      check := some { c with peaks := peaks, extents := extents, elapsed := c.elapsed + 1 } }) ∧
    (s.resetWaiting = false → bound ≤ c.elapsed + 1 → c.sound m = true →
      exec .checkEnd s = .next s.tickCheck) ∧
    (s.resetWaiting = true → exec .checkEnd s = .next s ∧ ∃ peaks extents, s.tickCheck = { s with
      check := some { c with peaks := peaks, extents := extents, elapsed := c.elapsed + 1 } }))

/-- O27 (tier 1). AXIS_SET: the ranges of R82, RANGE otherwise; applied at once on an unowned axis, staged
on an owned one. From R82, R83, R84, R192. -/
def Obligations.AxisSetTestsTheRecordAndAppliesOrStagesIt : Prop :=
  (∀ x : RecordArgs, (recordOf x).isSome = true ↔
    x.homeMethod ≤ 1 ∧ x.homeDirection ≤ 1 ∧ -1073741824 ≤ x.softLow ∧ x.softLow < x.softHigh ∧
    x.softHigh ≤ 1073741823 ∧ x.vmax ≤ x.pmax * 2000 ∧ x.amax ≤ 1000000000 ∧ x.jmax ≤ 4000000 ∧
    x.vc ≤ x.vmax ∧ x.ac ≤ x.amax ∧ x.pmax ≤ 2000 ∧ 1 ≤ x.feMax ∧ x.feMax ≤ 1073741823 ∧
    0 ≤ x.feWarn ∧ x.feWarn ≤ x.feMax ∧ x.homeSpeed ≤ x.vc ∧ (1 ≤ x.homeSpeed ∨ x.vc = 0) ∧
    x.softLow ≤ x.homeOffset ∧ x.homeOffset ≤ x.softHigh ∧ 1 ≤ x.searchTravel ∧
    x.searchTravel ≤ 2147483647 ∧ x.settleTime ≤ 4000) ∧
  (∀ (s : State) (l : LinkId) (x : RecordArgs), s.phase = .serving →
    (∀ n, 15 < n ∨ recordOf x = none →
      exec (.axisSet l n x) s = .next ((s.deselect l).refuse l .range)) ∧
    (∀ (a : AxisId) (r : AxisRecord), recordOf x = some r →
      ((s.axis a).owner = .none → exec (.axisSet l a.val x) s =
        .next (((s.deselect l).applyRecord a r).ok l (.axisSet false))) ∧
      ((s.axis a).owner ≠ .none → exec (.axisSet l a.val x) s =
        .next (((s.deselect l).setAxis a { s.axis a with staged := some r }).ok l (.axisSet true))))) ∧
  (∀ (x : RecordArgs) (r : AxisRecord), recordOf x = some r → r =
    { softLow := x.softLow, softHigh := x.softHigh, vmax := x.vmax, amax := x.amax, jmax := x.jmax,
      vc := x.vc, ac := x.ac, pmax := x.pmax, feMax := x.feMax.toNat, feWarn := x.feWarn.toNat,
      homeMethod := if x.homeMethod = 0 then .switch else .stop,
      homeDirection := if x.homeDirection = 0 then .negative else .positive,
      homeSpeed := x.homeSpeed, homeOffset := x.homeOffset, searchTravel := x.searchTravel.toNat,
      settleTime := x.settleTime })

/-- O28 (tier 2). Applying a record: the in-force record, the drive of an unset axis, and the moves with a
track on the axis. From R85, R65, R12. -/
def Obligations.ApplyingARecordActsOnTheDriveAndTheMoves : Prop :=
  ∀ (s : State) (a : AxisId) (r : AxisRecord),
    let t := s.applyRecord a r
    let off := r.unset = true ∧ ((s.axis a).drive = .on ∨ ∃ n, (s.axis a).drive = .settling n)
    let differ := (s.axis a).conf.vmax ≠ r.vmax ∨ (s.axis a).conf.amax ≠ r.amax ∨
      (s.axis a).conf.jmax ≠ r.jmax ∨ (s.axis a).conf.softLow ≠ r.softLow ∨
      (s.axis a).conf.softHigh ≠ r.softHigh
    (off → t.axis a = { s.axis a with conf := r, drive := .off, pulses := 0 }) ∧
    (¬off → t.axis a = { s.axis a with conf := r }) ∧
    (∀ b, b ≠ a → t.axis b = s.axis b) ∧
    (¬differ → { t with axes := s.axes } = s) ∧
    (∀ n m, s.move n = some m →
      (¬(differ ∧ m.hasTrack a = true) → t.move n = some m) ∧
      (differ → m.hasTrack a = true →
        (m.state = .ready → t.move n = some
          { m with state := .opened, summary := none, failure := none, uncertify := false }) ∧
        (m.state = .checking → t.move n = some
          { m with state := .opened, failure := some { reason := .cancelled, track := none, frame := 0 } }) ∧
        (m.state = .bound → t.move n = some { m with uncertify := true }) ∧
        (m.state = .opened → t.move n = some m))) ∧
    (∀ n, s.move n = none → t.move n = none) ∧
    (∀ c m, differ → s.check = some c → s.move c.slot = some m →
      (m.hasTrack a = true → t.check = none ∧
        ∀ l, (t.link l).flags = (s.link l).flags ||| 0x2#17) ∧
      (m.hasTrack a = false → t.check = some c ∧ ∀ l, t.link l = s.link l))

/-- O29 (tier 1). AXIS_ENABLE: RANGE, NOT_CONFIGURED, ESTOP in order; OFF and TRIPPED settle, others stay.
From R91, R90, R92. Rests on the model's own choice of log entry 19. -/
def Obligations.AxisEnableTestsThenSettles : Prop :=
  ∀ (s : State) (l : LinkId), s.phase = .serving →
    let d := s.deselect l
    (∀ n, 15 < n → exec (.axisEnable l n) s = .next (d.refuse l .range)) ∧
    (∀ a : AxisId,
      ((s.axis a).conf.unset = true → exec (.axisEnable l a.val) s = .next (d.refuse l .notConfigured)) ∧
      ((s.axis a).conf.unset = false →
        (s.estop = true ∨ (s.supplyLow = true ∧ s.supplyAction = .stop) →
          exec (.axisEnable l a.val) s = .next (d.refuse l .estop)) ∧
        (s.estop = false → s.supplyLow = false ∨ s.supplyAction = .flag →
          ((s.axis a).drive = .off ∨ (s.axis a).drive = .tripped →
            ((s.axis a).conf.settleTime = 0 → exec (.axisEnable l a.val) s =
              .next ((d.setAxis a { s.axis a with
                drive := .on, setpoint := saturateCount (s.axis a).encoder,
                stepPosition := saturateCount (s.axis a).encoder }).ok l .none)) ∧
            ((s.axis a).conf.settleTime ≠ 0 → exec (.axisEnable l a.val) s =
              .next ((d.setAxis a { s.axis a with
                drive := .settling (s.axis a).conf.settleTime }).ok l .none))) ∧
          ((s.axis a).drive = .on ∨ (∃ n, (s.axis a).drive = .settling n) →
            exec (.axisEnable l a.val) s = .next (d.ok l .none)))))

/-- O30 (tier 1). AXIS_DISABLE: RANGE above 15, OWNED unless unowned; else the drive is OFF at once and the
datum kept. From R93. -/
def Obligations.AxisDisableTurnsTheDriveOff : Prop :=
  ∀ (s : State) (l : LinkId), s.phase = .serving →
    (∀ n, 15 < n → exec (.axisDisable l n) s = .next ((s.deselect l).refuse l .range)) ∧
    (∀ a : AxisId,
      ((s.axis a).owner ≠ .none →
        exec (.axisDisable l a.val) s = .next ((s.deselect l).refuse l .owned)) ∧
      ((s.axis a).owner = .none → ∃ t, exec (.axisDisable l a.val) s = .next t ∧
        t = ((s.deselect l).setAxis a { s.axis a with drive := .off, pulses := 0 }).ok l .none ∧
        (t.axis a).drive = .off ∧ (t.axis a).enableOutput = false ∧ (t.axis a).pulses = 0 ∧
        (t.axis a).datum = (s.axis a).datum ∧ ∀ b, b ≠ a → t.axis b = s.axis b))

/-- O31 (tier 1). AXIS_HOME begins its first leg; AXIS_STOP by the axis's owner. From R96, R97, R104, R100,
R134, R80. -/
def Obligations.HomesBeginAndMotionsStop : Prop :=
  (∀ (s : State) (l : LinkId), s.phase = .serving →
    let d := s.deselect l
    (∀ n, 15 < n → exec (.axisHome l n) s = .next (d.refuse l .range)) ∧
    (∀ a : AxisId,
      let x := s.axis a
      let sign : Int := match x.conf.homeDirection with
        | .negative => -1
        | .positive => 1
      let speed : Nat := x.conf.homeSpeed * 4096 / 125
      let began (leg : HomeLeg) (target : Int) : State := (d.setAxis a { x with
        owner := .home, datum := .seeking, home := some { leg := leg, start := x.setpoint, cause := .none },
        creep := some { position := x.setpoint * 65536, velocity := 0, target := target,
                        step := max 1 (x.conf.ac * 4096 / 250000) } }).ok l .none
      (x.drive ≠ .on → exec (.axisHome l a.val) s = .next (d.refuse l .state)) ∧
      (x.drive = .on →
        (x.owner ≠ .none → exec (.axisHome l a.val) s = .next (d.refuse l .owned)) ∧
        (x.owner = .none →
          (x.conf.homeMethod = .switch → x.homeSwitch = false →
            exec (.axisHome l a.val) s = .next (began .searching (sign * speed))) ∧
          (x.conf.homeMethod = .switch → x.homeSwitch = true →
            exec (.axisHome l a.val) s = .next (began .backingOff (-(sign * (max 1 (speed / 8) : Nat))))) ∧
          (x.conf.homeMethod = .stop →
            exec (.axisHome l a.val) s = .next (began .pressing (sign * speed))))))) ∧
  (∀ (s : State) (l : LinkId), s.phase = .serving →
    let d := s.deselect l
    (∀ n, 15 < n → exec (.axisStop l n) s = .next (d.refuse l .range)) ∧
    (∀ a : AxisId,
      ((s.axis a).owner = .pass → exec (.axisStop l a.val) s = .next (d.refuse l .owned)) ∧
      ((s.axis a).owner = .none → exec (.axisStop l a.val) s = .next (d.ok l .none)) ∧
      (∀ h, (s.axis a).owner = .home → (s.axis a).home = some h →
        (h.leg = .finishing ∨ h.leg = .abandoning →
          exec (.axisStop l a.val) s = .next (d.ok l .none)) ∧
        (h.leg ≠ .finishing → h.leg ≠ .abandoning → exec (.axisStop l a.val) s =
          .next ((d.setAxis a { s.axis a with
            datum := .unknown, home := some { h with leg := .abandoning, cause := .stopped },
            creep := (s.axis a).creep.map (fun c => { c with target := 0 }) }).ok l .none))) ∧
      (∀ g, (s.axis a).owner = .park → s.park = some g →
        (g.stopping = true → exec (.axisStop l a.val) s = .next (d.ok l .none)) ∧
        (g.stopping = false →
          ((∀ e ∈ g.axes, g.velocity e = 0) →
            exec (.axisStop l a.val) s = .next ((d.endPark .stopped).ok l .none)) ∧
          ((∃ e ∈ g.axes, g.velocity e ≠ 0) → exec (.axisStop l a.val) s =
            .next ((({ d with park := some { g with stopping := true } } : State).handToCreep g).ok l
              .none)))))) ∧
  (∀ (s : State) (g : GroupEase), g.ids.Nodup →
    let t := s.handToCreep g
    (∀ e ∈ g.axes,
      let x := s.axis e.axis
      let last : Int := if g.elapsed = 0 then 0
        else easeOffset e.dist g.duration g.elapsed - easeOffset e.dist g.duration (g.elapsed - 1)
      g.velocity e = last * 65536 ∧ t.axis e.axis = { x with
        creep := (some
          { position := x.setpoint * 65536, velocity := last * 65536, target := 0,
            step := max 1 (x.conf.ac * 4096 / 250000) }) }) ∧
    (∀ b, b ∉ g.ids → t.axis b = s.axis b) ∧ { t with axes := s.axes } = s)

/-- O32 (tier 2). AXIS_PARK by its tests, the park's tick, PARK_EASE_END, PARK_STOP_AT_REST and
DRIVE_SETTLE_END. From R102, R78, R79, R80, R92, R103, R104, R86. Rests on the model's own choice of log
entries 5, 19. -/
def Obligations.ParksBeginAndEnd : Prop :=
  (∀ (s : State) (l : LinkId) (ts : List (Nat × Int)), s.phase = .serving →
    let d := s.deselect l
    (ts = [] ∨ 16 < ts.length ∨ (∃ q ∈ ts, 15 < q.1) ∨ ¬(ts.map (·.1)).Nodup ∨
        (∃ q ∈ ts, q.2 < -1073741824 ∨ 1073741823 < q.2) →
      exec (.axisPark l ts) s = .next (d.refuse l .range)) ∧
    (∀ qs : List (AxisId × Int), qs ≠ [] → qs.length ≤ 16 → (qs.map (·.1)).Nodup →
      (∀ q ∈ qs, -1073741824 ≤ q.2 ∧ q.2 ≤ 1073741823) → ts = qs.map (fun q => (q.1.val, q.2)) →
      let es : List EaseAxis := qs.map (fun q =>
        { axis := q.1, start := (s.axis q.1).setpoint, dist := q.2 - (s.axis q.1).setpoint })
      (s.park.isSome = true → exec (.axisPark l ts) s = .next (d.refuse l .busyOther)) ∧
      (s.park = none →
        ((∃ q ∈ qs, (s.axis q.1).drive ≠ .on) → exec (.axisPark l ts) s = .next (d.refuse l .state)) ∧
        ((∀ q ∈ qs, (s.axis q.1).drive = .on) →
          ((∃ q ∈ qs, (s.axis q.1).owner ≠ .none) →
            exec (.axisPark l ts) s = .next (d.refuse l .owned)) ∧
          ((∀ q ∈ qs, (s.axis q.1).owner = .none) →
            ((∃ q ∈ qs, (s.axis q.1).datum ≠ .known) →
              exec (.axisPark l ts) s = .next (d.refuse l .notHomed)) ∧
            ((∀ q ∈ qs, (s.axis q.1).datum = .known) →
              ((∃ q ∈ qs, q.2 < (s.axis q.1).conf.softLow ∨ (s.axis q.1).conf.softHigh < q.2) →
                exec (.axisPark l ts) s = .next (d.refuse l .limits)) ∧
              ((∀ q ∈ qs, (s.axis q.1).conf.softLow ≤ q.2 ∧ q.2 ≤ (s.axis q.1).conf.softHigh) →
                (s.groupDuration es = none → exec (.axisPark l ts) s = .next (d.refuse l .range)) ∧
                (∀ n, s.groupDuration es = some n →
                  ((∀ e ∈ es, e.dist = 0) → exec (.axisPark l ts) s = .next
                    (((forAxes (qs.map (·.1)) (fun a t => t.onAxis a (fun x => { x with
                      lastResult := { outcome := .parkDone, cause := .none } })) d).raise
                        .parkDone).ok l .none)) ∧
                  ((∃ e ∈ es, e.dist ≠ 0) → exec (.axisPark l ts) s = .next
                    ((forAxes (qs.map (·.1)) (fun a t => t.onAxis a (fun x => { x with owner := .park }))
                      { d with park := (some
                        { axes := es, duration := n, elapsed := 0, stopping := false }) }).ok l
                          .none)))))))))) ∧
  ((∀ (s : State) (a : AxisId) (n : Nat), (s.axis a).drive = .settling n →
    (n ≤ 1 → exec (.driveSettleEnd a) s = .next (s.setAxis a { s.axis a with
      drive := .on, setpoint := saturateCount (s.axis a).encoder,
      stepPosition := saturateCount (s.axis a).encoder })) ∧
    (1 < n → exec (.driveSettleEnd a) s = .next s)) ∧
  (let unchanged (s t : State) (g : GroupEase) : Prop :=
    (∀ b, b ∉ g.ids → t.axis b = s.axis b) ∧
    { t with park := s.park, axes := s.axes, slots := s.slots, check := s.check, linkA := s.linkA,
             linkB := s.linkB } = s ∧
    ((∀ a ∈ g.ids, (s.axis a).staged = none) → t.slots = s.slots ∧ t.check = s.check ∧
      ∀ l, t.link l = { s.link l with flags := (s.link l).flags ||| 0x100#17 })
  (∀ (s : State) (g : GroupEase), s.park = some g → g.ids.Nodup → g.stopping = false →
    g.elapsed + 1 = g.duration →
    ∃ t, exec .parkEaseEnd s = .next t ∧ t.park = none ∧
      (∀ l, (t.link l).flags &&& 0x100#17 = 0x100#17) ∧
      (∀ e ∈ g.axes,
        let x := s.axis e.axis
        let off := x.enableOutput && x.staged.any AxisRecord.unset
        t.axis e.axis = { x with
          setpoint := e.start + e.dist, owner := .none, creep := none, staged := none,
          lastResult := { outcome := .parkDone, cause := .none },
          conf := x.staged.getD x.conf, drive := if off then .off else x.drive,
          pulses := if off then 0 else x.pulses }) ∧
      unchanged s t g) ∧
  (∀ (s : State) (g : GroupEase), s.park = some g → g.ids.Nodup → g.stopping = true →
    (∀ a ∈ g.ids, (s.axis a).creepTick.creepAtRest = true) →
    ∃ t, exec .parkStopAtRest s = .next t ∧ t.park = none ∧
      (∀ l, (t.link l).flags &&& 0x100#17 = 0x100#17) ∧
      (∀ a ∈ g.ids,
        let x := s.axis a
        let off := x.enableOutput && x.staged.any AxisRecord.unset
        t.axis a = { x with
          setpoint := x.creepTick.setpoint, owner := .none, creep := none, staged := none,
          lastResult := { outcome := .parkDone, cause := .stopped },
          conf := x.staged.getD x.conf, drive := if off then .off else x.drive,
          pulses := if off then 0 else x.pulses }) ∧
      unchanged s t g))) ∧
  (∀ s : State, s.park = none → s.tickPark = s) ∧
  (∀ (s : State) (g : GroupEase), s.park = some g → g.ids.Nodup →
    let t := s.tickPark
    (g.stopping = false →
      (g.elapsed + 1 < g.duration → t.park = some { g with elapsed := g.elapsed + 1 } ∧
        (∀ e ∈ g.axes, t.axis e.axis = { s.axis e.axis with
          setpoint := e.start + easeOffset e.dist g.duration (g.elapsed + 1) }) ∧
        (∀ b, b ∉ g.ids → t.axis b = s.axis b) ∧ { t with park := s.park, axes := s.axes } = s) ∧
      (g.duration ≤ g.elapsed + 1 → exec .parkEaseEnd s = .next t)) ∧
    (g.stopping = true →
      ((∃ a ∈ g.ids, (s.axis a).creepTick.creepAtRest = false) →
        (∀ a ∈ g.ids, t.axis a = (s.axis a).creepTick) ∧ (∀ b, b ∉ g.ids → t.axis b = s.axis b) ∧
        { t with axes := s.axes } = s) ∧
      ((∀ a ∈ g.ids, (s.axis a).creepTick.creepAtRest = true) → exec .parkStopAtRest s = .next t)))

/-- O33 (tier 1). The creep generator, the home's tick and legs, the home switch edges and the encoder
transitions. From R97, R98, R99, R100, R86, R89. Rests on the model's own choice of log entries 5, 15, 20.
-/
def Obligations.HomesGoOnAndEnd : Prop :=
  ((∀ (s : State) (a : AxisId) (h : HomeRun) (c : Creep),
    (s.axis a).owner = .home → (s.axis a).home = some h → (s.axis a).creep = some c → c.target = 0 →
    c.velocity.natAbs ≤ c.step →
    let x := s.axis a
    let sp := fitSetpoint (c.position / 65536)
    (h.leg = .braking → (sp - h.start).natAbs ≤ x.conf.searchTravel →
      exec (.homeBrakingAtRest a) s = .next (s.setAxis a { x with
        setpoint := sp, home := some { h with leg := .backingOff, start := sp },
        creep := some { c with velocity := 0, target := x.conf.backOffVelocity } })) ∧
    (h.leg = .finishing → exec (.homeFinishingAtRest a) s = .next
      (((s.setAxis a { x with
        setpoint := sp, datum := .known, owner := .none, home := none, creep := none,
        lastResult := { outcome := .homeDone, cause := .none } }).raise .homeDone).applyStaged a)) ∧
    (h.leg = .abandoning → exec (.homeAbandonAtRest a) s = .next
      (((s.setAxis a { x with
        setpoint := sp, datum := .unknown, owner := .none, home := none, creep := none,
        lastResult := { outcome := .homeFailed, cause := h.cause } }).raise .homeFailed).applyStaged a))) ∧
  (∀ (s : State) (a : AxisId) (h : HomeRun), (s.axis a).owner = .home → (s.axis a).home = some h →
    h.leg ≠ .finishing → h.leg ≠ .abandoning →
    (s.axis a).conf.searchTravel < ((s.axis a).creepTick.setpoint - h.start).natAbs →
    exec (.homeTravelExceeded a) s = .next (s.setAxis a { (s.axis a).creepTick with
      datum := .unknown, home := some { h with leg := .abandoning, cause := .travel },
      creep := (s.axis a).creepTick.creep.map (fun c => { c with target := 0 }) })) ∧
  (∀ (s : State) (a : AxisId) (h : HomeRun), (s.axis a).drive = .on → (s.axis a).owner = .home →
    (s.axis a).home = some h → h.leg = .pressing →
    (s.axis a).conf.feMax / 2 < (saturateError ((s.axis a).setpoint - (s.axis a).encoder)).natAbs →
    exec (.homeStopReached a) s = .next
      (((s.setAxis a { s.axis a with
        encoder := (s.axis a).conf.homeOffset, setpoint := (s.axis a).conf.homeOffset,
        stepPosition := (s.axis a).conf.homeOffset, followingError := 0, datum := .known,
        owner := .none, home := none, creep := none,
        lastResult := { outcome := .homeDone, cause := .none } }).raise .homeDone).applyStaged a))) ∧
  ((∀ (s : State) (a : AxisId), (s.axis a).homeSwitch = false →
    let x := { s.axis a with homeSwitch := true }
    (∀ h, x.owner = .home → x.home = some h → h.leg = .searching →
      exec (.homeSwitchAssert a) s = .next (s.setAxis a { x with
        home := some { h with leg := .braking }, creep := x.creep.map (fun c => { c with target := 0 }) })) ∧
    (x.owner ≠ .home ∨ x.home.map (·.leg) ≠ some .searching →
      exec (.homeSwitchAssert a) s = .next (s.setAxis a x))) ∧
  (∀ (s : State) (a : AxisId), (s.axis a).homeSwitch = true →
    let x := { s.axis a with homeSwitch := false }
    let shift := x.conf.homeOffset - x.encoder
    (∀ h, x.owner = .home → x.home = some h → h.leg = .backingOff →
      exec (.homeSwitchRelease a) s = .next (s.setAxis a { x with
        encoder := x.conf.homeOffset, setpoint := fitSetpoint (x.setpoint + shift),
        stepPosition := fitSetpoint (x.stepPosition + shift),
        home := some { h with leg := .finishing, start := h.start + shift },
        creep := x.creep.map (fun c =>
          { c with position := c.position + shift * 65536, target := 0 }) })) ∧
    (x.owner ≠ .home ∨ x.home.map (·.leg) ≠ some .backingOff →
      exec (.homeSwitchRelease a) s = .next (s.setAxis a x))) ∧
  (∀ (s : State) (a : AxisId), -2147483648 ≤ (s.axis a).encoder → (s.axis a).encoder ≤ 2147483647 →
    exec (.encoderTransition a true) s = .next (s.setAxis a { s.axis a with
      encoder := if (s.axis a).encoder = 2147483647 then -2147483648 else (s.axis a).encoder + 1 }) ∧
    exec (.encoderTransition a false) s = .next (s.setAxis a { s.axis a with
      encoder := if (s.axis a).encoder = -2147483648 then 2147483647 else (s.axis a).encoder - 1 }))) ∧
  ((∀ x : Axis, x.creep = none → x.creepTick = x ∧ x.creepAtRest = true) ∧
  (∀ (x : Axis) (c : Creep), x.creep = some c →
    let w : Int := if c.velocity < c.target then min (c.velocity + c.step) c.target
      else if c.target < c.velocity then max (c.velocity - c.step) c.target else c.velocity
    x.creepTick = { x with
      creep := some { c with velocity := w, position := c.position + w }
      setpoint := fitSetpoint ((c.position + w) / 65536) } ∧
    (x.creepTick.creepAtRest = true ↔ w = 0 ∧ c.target = 0) ∧
    (-1073741824 ≤ (c.position + w) / 65536 → (c.position + w) / 65536 ≤ 1073741823 →
      x.creepTick.setpoint = (c.position + w) / 65536))) ∧
  (∀ (s : State) (a : AxisId), (s.axis a).owner ≠ .home → s.tickHome a = s) ∧
  (∀ (s : State) (a : AxisId) (h : HomeRun), (s.axis a).owner = .home → (s.axis a).home = some h →
    let y := (s.axis a).creepTick
    let far := h.leg ≠ .finishing ∧ h.leg ≠ .abandoning ∧
      (s.axis a).conf.searchTravel < (y.setpoint - h.start).natAbs
    (far → exec (.homeTravelExceeded a) s = .next (s.tickHome a)) ∧
    (¬far → y.creepAtRest = true →
      (h.leg = .braking → exec (.homeBrakingAtRest a) s = .next (s.tickHome a)) ∧
      (h.leg = .finishing → exec (.homeFinishingAtRest a) s = .next (s.tickHome a)) ∧
      (h.leg = .abandoning → exec (.homeAbandonAtRest a) s = .next (s.tickHome a)) ∧
      (h.leg ≠ .braking → h.leg ≠ .finishing → h.leg ≠ .abandoning → s.tickHome a = s.setAxis a y)) ∧
    (¬far → y.creepAtRest = false → s.tickHome a = s.setAxis a y)) ∧
  (∀ s : State,
    (∀ a, (s.axis a).owner = .home → ∃ h, (s.axis a).home = some h ∧
      (h.leg = .finishing ∨ h.leg = .abandoning → (s.axis a).creepTick.creepAtRest = false)) →
    (∀ a, s.tickHomes.axis a = (s.tickHome a).axis a) ∧ { s.tickHomes with axes := s.axes } = s)

/-- O34 (tier 2). PASS_ARM binds, claims and arms, or is refused by the first of the twelve tests that holds
and changes nothing. From R129, R130, R11, R128, R192. Rests on the model's own choice of log entry 17. -/
def Obligations.PassArmBindsOrChangesNothing : Prop :=
  (∀ p : PassArgs, (passRecordOf p).isSome = true ↔
    1 ≤ p.slot ∧ p.slot ≤ 64 ∧ p.first < p.last ∧ p.last ≤ 65535 ∧ p.direction ≤ 1 ∧ p.mode ≤ 2 ∧
    (p.ratePresence = 0 ∨ (p.ratePresence = 1 ∧ 1000 ≤ p.rate ∧ p.rate ≤ 300000)) ∧ p.axes ≠ [] ∧
    p.axes.length ≤ 16 ∧ (∀ q ∈ p.axes, q.1 ≤ 15 ∧ -1073741824 ≤ q.2 ∧ q.2 ≤ 1073741824) ∧
    (p.axes.map (·.1)).Nodup ∧ p.lead ≤ 255 ∧ p.trail ≤ 255 ∧ 20 ≤ p.holdRamp ∧ p.holdRamp ≤ 20000 ∧
    20 ≤ p.stopRamp ∧ p.stopRamp ≤ 20000 ∧ p.rollSource ≤ 1 ∧
    (p.mode = 2 → 200 ≤ p.stepTime ∧ p.stepTime ≤ 20000 ∧ p.stepSettle ≤ 4000 ∧ p.exposureControl ≤ 1 ∧
      1 ≤ p.exposureTime ∧ p.exposureTime ≤ 60000 ∧ p.stepInput ≤ 1)) ∧
  (∀ (s : State) (l : LinkId) (p : PassArgs), s.phase = .serving →
    let d := s.deselect l
    (s.pass.state ≠ .idle → exec (.passArm l p) s = .next (d.refuse l .state)) ∧
    (s.pass.state = .idle →
      (passRecordOf p = none → exec (.passArm l p) s = .next (d.refuse l .range)) ∧
      (∀ r, passRecordOf p = some r →
        (s.isTarget r.slot = true → exec (.passArm l p) s = .next (d.refuse l .busyOther)) ∧
        (s.isTarget r.slot = false →
          ((∀ m, s.move r.slot = some m → m.state ≠ .ready) →
            exec (.passArm l p) s = .next (d.refuse l .notReady)) ∧
          (∀ m sum, s.move r.slot = some m → m.state = .ready → m.summary = some sum →
            0 < sum.ceiling →
            let t5 := r.first < m.first ∨ m.last < r.last ∨
              (∃ pa ∈ r.axes, m.axisTrack pa.axis = []) ∨
              (r.mode = .master ∧ m.speedTrack = [] ∧ r.rate = none)
            let t8 := ∃ pa ∈ r.axes, (s.axis pa.axis).owner ≠ .none
            let t9 := ∃ pa ∈ r.axes, (s.axis pa.axis).drive ≠ .on ∨ (s.axis pa.axis).datum ≠ .known
            let out (pa : PassAxis) (v : Int) : Prop :=
              v < (s.axis pa.axis).conf.softLow ∨ (s.axis pa.axis).conf.softHigh < v
            let t10 := ∃ pa ∈ r.axes,
              (∃ e, sum.extents.find? (fun e => decide (e.axis = pa.axis)) = some e ∧
                (e.low + pa.offset < (s.axis pa.axis).conf.softLow ∨
                  (s.axis pa.axis).conf.softHigh < e.high + pa.offset)) ∨
              out pa (trackValue (m.axisTrack pa.axis) (r.startFrame * 65536) pa.offset) ∨
              out pa (s.axis pa.axis).setpoint
            let t11 := r.mode = .master ∧
              ((m.speedTrack = [] ∧ ∃ n, r.rate = some n ∧ sum.ceiling < n) ∨
                ∃ k ∈ m.speedTrack, sum.ceiling < k.rate)
            let t12 := r.mode = .step ∧ ∃ f, r.step = some f ∧ f.stepTime * sum.ceiling < 3000000
            (t5 → exec (.passArm l p) s = .next (d.refuse l .range)) ∧
            (¬t5 → t8 → exec (.passArm l p) s = .next (d.refuse l .owned)) ∧
            (¬t5 → ¬t8 → t9 → exec (.passArm l p) s = .next (d.refuse l .notHomed)) ∧
            (¬t5 → ¬t8 → ¬t9 → t10 → exec (.passArm l p) s = .next (d.refuse l .limits)) ∧
            (¬t5 → ¬t8 → ¬t9 → ¬t10 → t11 ∨ t12 →
              exec (.passArm l p) s = .next (d.refuse l .ceiling)) ∧
            (¬t5 → ¬t8 → ¬t9 → ¬t10 → ¬t11 → ¬t12 → exec (.passArm l p) s = .next
              (({ forAxes (r.axes.map (·.axis))
                    (fun a t => t.onAxis a (fun x => { x with owner := .pass }))
                    (d.setMove r.slot (some { m with state := .bound })) with
                  pass := { s.pass with state := .armed, record := some r } } : State).ok l
                (.armed r.slot sum.ceiling)))))))) ∧
  (∀ (p : PassArgs) (r : PassRecord), passRecordOf p = some r →
    r = { slot := p.slot, first := p.first, last := p.last,
          direction := if p.direction = 0 then .forward else .reverse,
          mode := if p.mode = 0 then .master else if p.mode = 1 then .follower else .step,
          rate := if p.ratePresence = 1 then some p.rate else none,
          axes := r.axes, lead := p.lead, trail := p.trail, holdRamp := p.holdRamp,
          stopRamp := p.stopRamp, rollSource := if p.rollSource = 0 then .command else .trigger,
          step := if p.mode = 2 then some
            { stepTime := p.stepTime, settle := p.stepSettle,
              exposure := if p.exposureControl = 0 then .timed p.exposureTime
                else .handshake p.exposureTime,
              inputEnable := decide (p.stepInput = 1) } else none } ∧
    (∀ q : PassAxis, q ∈ r.axes ↔ (q.axis.val, q.offset) ∈ p.axes) ∧
    List.Pairwise (fun a b => a < b) (r.axes.map (·.axis)))

/-- O35 (tier 2). PASS_GO_START, the approach's tick, APPROACH_EASE_END and APPROACH_STOP_AT_REST. From
R132, R133, R134, R80, R97. Rests on the model's own choice of log entry 5. -/
def Obligations.TheApproachBeginsAndEnds : Prop :=
  (∀ (s : State) (l : LinkId) (r : PassRecord) (m : Move), s.phase = .serving →
    s.pass.record = some r → s.move r.slot = some m →
    let d := s.deselect l
    let es : List EaseAxis := r.axes.map (fun pa =>
      { axis := pa.axis, start := (s.axis pa.axis).setpoint,
        dist := trackValue (m.axisTrack pa.axis) (r.startFrame * 65536) pa.offset -
          (s.axis pa.axis).setpoint })
    (s.pass.state ≠ .armed → s.pass.state ≠ .ended →
      exec (.passGoStart l) s = .next (d.refuse l .state)) ∧
    (s.pass.state = .armed ∨ s.pass.state = .ended →
      ((∃ pa ∈ r.axes, (s.axis pa.axis).drive ≠ .on) →
        exec (.passGoStart l) s = .next (d.refuse l .state)) ∧
      ((∀ pa ∈ r.axes, (s.axis pa.axis).drive = .on) →
        ((∃ pa ∈ r.axes, (s.axis pa.axis).conf.admits (s.axis pa.axis).setpoint = false) →
          exec (.passGoStart l) s = .next (d.refuse l .limits)) ∧
        ((∀ pa ∈ r.axes, (s.axis pa.axis).conf.admits (s.axis pa.axis).setpoint = true) →
          (s.groupDuration es = none → exec (.passGoStart l) s = .next (d.refuse l .range)) ∧
          (∀ n, s.groupDuration es = some n →
            ((∀ e ∈ es, e.dist = 0) → exec (.passGoStart l) s = .next
              ((({ d with pass := { s.pass with approach := none, state := .atStart } } : State).raise
                .passAtStart).ok l .none)) ∧
            ((∃ e ∈ es, e.dist ≠ 0) → exec (.passGoStart l) s = .next
              (({ d with pass := { s.pass with
                  state := .approaching
                  approach := (some
                    { axes := es, duration := n, elapsed := 0, stopping := false }) } } : State).ok l
                .none))))))) ∧
  (∀ (s : State) (g : GroupEase), s.pass.state = .approaching → s.pass.approach = some g →
    g.ids.Nodup → g.stopping = false → g.elapsed + 1 = g.duration →
    ∃ t, exec .approachEaseEnd s = .next t ∧
      t.pass = { s.pass with approach := none, state := .atStart } ∧
      (∀ l, t.link l = { s.link l with flags := (s.link l).flags ||| 0x4#17 }) ∧
      (∀ e ∈ g.axes, t.axis e.axis = { s.axis e.axis with setpoint := e.start + e.dist }) ∧
      (∀ b, b ∉ g.ids → t.axis b = s.axis b) ∧
      { t with pass := s.pass, axes := s.axes, linkA := s.linkA, linkB := s.linkB } = s) ∧
  (∀ (s : State) (g : GroupEase), s.pass.state = .approaching → s.pass.approach = some g →
    g.ids.Nodup → g.stopping = true → (∀ a ∈ g.ids, (s.axis a).creepTick.creepAtRest = true) →
    ∃ t, exec .approachStopAtRest s = .next t ∧
      t.pass = { s.pass with approach := none, state := .armed } ∧
      (∀ a ∈ g.ids, t.axis a = { (s.axis a).creepTick with creep := none }) ∧
      (∀ b, b ∉ g.ids → t.axis b = s.axis b) ∧
      { t with pass := s.pass, axes := s.axes } = s) ∧
  (∀ (s : State) (l : LinkId), s.phase = .serving → s.pass.record = none ∨ s.pass.state = .idle →
    exec (.passGoStart l) s = .next ((s.deselect l).refuse l .state)) ∧
  (∀ (s : State) (r : PassRecord) (g : GroupEase), s.pass.record = some r →
    s.pass.state = .approaching → s.pass.approach = some g → g.ids.Nodup →
    let t := s.tickPass
    (g.stopping = false →
      (g.elapsed + 1 < g.duration →
        t.pass = { s.pass with approach := some { g with elapsed := g.elapsed + 1 } } ∧
        (∀ e ∈ g.axes, t.axis e.axis = { s.axis e.axis with
          setpoint := e.start + easeOffset e.dist g.duration (g.elapsed + 1) }) ∧
        (∀ b, b ∉ g.ids → t.axis b = s.axis b) ∧ { t with pass := s.pass, axes := s.axes } = s) ∧
      (g.duration ≤ g.elapsed + 1 → exec .approachEaseEnd s = .next t)) ∧
    (g.stopping = true →
      ((∃ a ∈ g.ids, (s.axis a).creepTick.creepAtRest = false) →
        (∀ a ∈ g.ids, t.axis a = (s.axis a).creepTick) ∧ (∀ b, b ∉ g.ids → t.axis b = s.axis b) ∧
        { t with axes := s.axes } = s) ∧
      ((∀ a ∈ g.ids, (s.axis a).creepTick.creepAtRest = true) →
        exec .approachStopAtRest s = .next t)))

/-- O36 (tier 2). PASS_RUN and ROLL_TRIGGER_EDGE roll the pass: the report cleared, the camera running, the
clock started. From R135, R109, R111, R112, R144, R162. Rests on the model's own choice of log entry 42. -/
def Obligations.ARollStartsTheRun : Prop :=
  (∀ (s : State) (l : LinkId), s.phase = .serving →
    let d := s.deselect l
    (s.pass.record = none ∨ s.pass.state = .idle →
      exec (.passRun l) s = .next (d.refuse l .state)) ∧
    (∀ r, s.pass.record = some r → s.pass.state ≠ .idle →
      (r.mode = .step → exec (.passRun l) s = .next (d.refuse l .mode)) ∧
      (r.mode ≠ .step → s.pass.state ≠ .atStart →
        exec (.passRun l) s = .next (d.refuse l .state)) ∧
      (r.mode ≠ .step → s.pass.state = .atStart →
        exec (.passRun l) s = .next ((d.roll r).ok l .none)))) ∧
  (∀ (s : State) (r : PassRecord), s.pass.record = some r →
    (s.pass.state = .atStart → r.mode ≠ .step → r.rollSource = .trigger →
      exec .rollTriggerEdge s = .next (s.roll r)) ∧
    (s.pass.state ≠ .atStart ∨ r.mode = .step ∨ r.rollSource = .command →
      exec .rollTriggerEdge s = .next s)) ∧
  (∀ (s : State) (r : PassRecord), s.pass.record = some r → s.pass.state = .atStart →
    r.first < r.last → r.mode ≠ .step →
    let t := s.roll r
    let begun := r.mode = .master ∧ r.lead = 0
    (begun → t.pass.state = .running ∧ t.pass.report.frames = 1) ∧
    (¬begun → t.pass.state = .rolling ∧ t.pass.report.frames = 0) ∧
    t.pass.record = some r ∧ t.pass.cameraRun = true ∧ t.pass.endReached = some false ∧
    t.pass.report.outcome = .running ∧ t.pass.report.cause = none ∧
    t.pass.report.conditions = Conditions.empty ∧
    t.pass.report.peaks = some (r.axes.map (fun pa => { axis := pa.axis, magnitude := 0 })) ∧
    (∀ a, t.axis a = { s.axis a with softClamp := false, pulseClamp := false }) ∧
    { t.pass with state := s.pass.state, report := s.pass.report, endReached := s.pass.endReached,
                  cameraRun := s.pass.cameraRun } = s.pass ∧
    { t with pass := s.pass, clock := s.clock, axes := s.axes } = s ∧
    (r.mode = .master →
      let n : Int := if r.direction = .forward then (r.first : Int) - r.lead else (r.last : Int) + r.lead
      t.clock = { Clock.reset with
        state := .clocking, mode := some .master, direction := some r.direction, phase := n * 65536,
        currentFrame := n, travelLimit := some r.travelLimit, cameraSync := true,
        baseRate := t.clock.baseRate, appliedRate := t.clock.baseRate } ∧
      (∀ m, s.move r.slot = some m → m.speedTrack ≠ [] → t.clock.baseRate = speedRate m.speedTrack n) ∧
      (∀ m rate, s.move r.slot = some m → m.speedTrack = [] → r.rate = some rate →
        t.clock.baseRate = rate)) ∧
    (r.mode = .follower →
      t.clock = { Clock.reset with
        state := .following, mode := some .follower, direction := some r.direction,
        phase := (if r.direction = .forward then (r.first : Int) else (r.last : Int)) * 65536,
        currentFrame := s.clock.currentFrame, travelLimit := some r.travelLimit,
        lock := some .acquiring, firstFrameBegun := some false })) ∧
  (∀ s : State, s.pass.record = none → exec .rollTriggerEdge s = .next s)

/-- O37 (tier 1). PASS_HOLD and PASS_RESUME begin a ramp; HOLD_RAMP_END stands in HELD; RESUME_RAMP_END runs
or trails. From R137, R138, R114, R131. Rests on the model's own choice of log entry 5. -/
def Obligations.HoldAndResumeAndTheEndsOfTheirRamps : Prop :=
  (∀ (s : State) (l : LinkId), s.phase = .serving →
    let d := s.deselect l
    (s.pass.record = none ∨ s.pass.state = .idle →
      exec (.passHold l) s = .next (d.refuse l .state) ∧
      exec (.passResume l) s = .next (d.refuse l .state)) ∧
    (∀ r, s.pass.record = some r → s.pass.state ≠ .idle →
      (r.mode ≠ .master → exec (.passHold l) s = .next (d.refuse l .mode) ∧
        exec (.passResume l) s = .next (d.refuse l .mode)) ∧
      (r.mode = .master →
        (s.pass.state ≠ .running → exec (.passHold l) s = .next (d.refuse l .state)) ∧
        (s.pass.state ≠ .held → exec (.passResume l) s = .next (d.refuse l .state)) ∧
        (s.pass.state = .running → s.pass.report.outcome = .running → exec (.passHold l) s = .next
          (({ d with
            pass := { s.pass with
              state := .holding
              report := { s.pass.report with
                conditions := { s.pass.report.conditions with held := true } } }
            clock := { s.clock with ramp := .hold r.holdRamp 0 } } : State).ok l .none)) ∧
        (s.pass.state = .held → exec (.passResume l) s = .next
          (({ d with
            pass := { s.pass with state := .resuming }
            clock := { s.clock with ramp := .resume r.holdRamp 0 } } : State).ok l .none))))) ∧
  (∀ (s : State) (r : PassRecord) (h k : Nat), s.pass.record = some r → s.pass.state = .holding →
    s.clock.state = .clocking → s.clock.ramp = .hold h k → h ≤ k + 1 →
    s.clock.remainder < 2000000 → s.clock.capLimit s.clock.phase = s.clock.phase →
    ∃ t, exec .holdRampEnd s = .next t ∧ t.pass = { s.pass with state := .held } ∧
      t.clock.ramp = .held ∧ t.clock.appliedRate = 0 ∧
      { t.clock with ramp := s.clock.ramp, appliedRate := s.clock.appliedRate,
                     cameraSync := s.clock.cameraSync } = s.clock ∧
      (∀ l, t.link l = { s.link l with flags := (s.link l).flags ||| 0x10#17 }) ∧
      { t with pass := s.pass, clock := s.clock, axes := s.axes, linkA := s.linkA,
               linkB := s.linkB } = s ∧
      (∀ m, s.move r.slot = some m → r.first ≤ r.last → (r.axes.map (·.axis)).Nodup → ∀ pa ∈ r.axes,
        t.axis pa.axis = if (s.axis pa.axis).drive = .on
          then { s.axis pa.axis with
            setpoint := trackValue (m.axisTrack pa.axis) (max ((r.first : Int) * 65536) (min ((r.last : Int) * 65536) t.clock.phase))
              pa.offset }
          else s.axis pa.axis) ∧
      (∀ b, b ∉ r.axes.map (·.axis) → t.axis b = s.axis b) ∧
      (∀ b, { t.axis b with setpoint := (s.axis b).setpoint } = s.axis b)) ∧
  (∀ (s : State) (r : PassRecord) (h k : Nat), s.pass.record = some r → s.resumeDue = true →
    s.clock.ramp = .resume h k →
    ∃ t, exec .resumeRampEnd s = .next t ∧ t.clock.ramp = .none ∧
      (t.pass.state = if t.pass.endReached = some true then .trailing else .running) ∧
      t.clock.appliedRate = s.clock.baseRate * (k + 1) / h ∧
      { t.pass with state := s.pass.state, endReached := s.pass.endReached,
                    report := s.pass.report } = s.pass ∧
      { t with pass := s.pass, clock := s.clock, axes := s.axes } = s ∧
      (∀ m, s.move r.slot = some m → r.first ≤ r.last → (r.axes.map (·.axis)).Nodup → ∀ pa ∈ r.axes,
        t.axis pa.axis = if (s.axis pa.axis).drive = .on
          then { s.axis pa.axis with
            setpoint := trackValue (m.axisTrack pa.axis) (max ((r.first : Int) * 65536) (min ((r.last : Int) * 65536) t.clock.phase))
              pa.offset }
          else s.axis pa.axis) ∧
      (∀ b, b ∉ r.axes.map (·.axis) → t.axis b = s.axis b) ∧
      (∀ b, { t.axis b with setpoint := (s.axis b).setpoint } = s.axis b))

/-- O38 (tier 2). PASS_ABORT in every pass state, and the end of the stop it begins. From R140, R115, R134,
R159, R160, R123, R131. Rests on the model's own choice of log entry 5. -/
def Obligations.PassAbortByState : Prop :=
  (∀ (s : State) (l : LinkId), s.phase = .serving → s.pass.record = none →
    exec (.passAbort l) s = .next ((s.deselect l).refuse l .state)) ∧
  (∀ (s : State) (l : LinkId) (r : PassRecord), s.phase = .serving → s.pass.record = some r →
    let d := s.deselect l
    let ended : State := ({ d with
      pass := { s.pass with
        report := { s.pass.report with outcome := .aborted, cause := some .command }
        state := .ended, stopCause := none, endReached := none, cameraRun := false
        stepping := Stepping.reset }
      clock := { s.clock with
        state := .stopped, ramp := .none, appliedRate := 0, baseRate := 0, cameraSync := false,
        travelLimit := none, lock := none, firstFrameBegun := none, lastEdge := none,
        lastPeriod := none, previousPeriod := none } } : State).raise .passEnded
    (s.pass.state = .idle ∨ s.pass.state = .armed ∨ s.pass.state = .atStart ∨ s.pass.state = .ended →
      exec (.passAbort l) s = .next (d.refuse l .state)) ∧
    (s.pass.state = .stopping → exec (.passAbort l) s = .next (d.ok l .none)) ∧
    (s.pass.state = .rolling ∨ s.pass.state = .running ∨ s.pass.state = .trailing →
      s.clock.state = .clocking → s.clock.ramp = .none → 0 < r.stopRamp →
      exec (.passAbort l) s = .next (({ d with
        pass := { s.pass with state := .stopping, stopCause := some .command }
        clock := { s.clock with ramp := .stop r.stopRamp 0 } } : State).ok l .none)) ∧
    (∀ h k q j, s.clock.state = .clocking → 1 ≤ h → q ≤ h →
      (s.pass.state = .holding ∧ s.clock.ramp = .hold h k ∧ q = h - k ∨
        s.pass.state = .resuming ∧ s.clock.ramp = .resume h k ∧ q = k) →
      j ≤ r.stopRamp → (r.stopRamp - j) * h ≤ q * r.stopRamp →
      (∀ i, i < j → q * r.stopRamp < (r.stopRamp - i) * h) →
      (j < r.stopRamp → exec (.passAbort l) s = .next (({ d with
        pass := { s.pass with state := .stopping, stopCause := some .command }
        clock := { s.clock with ramp := .stop r.stopRamp j } } : State).ok l .none)) ∧
      (j = r.stopRamp → exec (.passAbort l) s = .next (ended.ok l .none))) ∧
    (s.pass.state = .rolling ∨ s.pass.state = .running ∨ s.pass.state = .trailing →
      s.clock.state = .following → s.clock.firstFrameBegun = some true → 0 < r.stopRamp →
      exec (.passAbort l) s = .next (({ d with
        pass := { s.pass with state := .stopping, stopCause := some .command }
        clock := { s.clock with
          state := .clocking, remainder := 0, baseRate := s.clock.measuredRate,
          ramp := .stop r.stopRamp 0, lock := none, firstFrameBegun := none } } : State).ok l .none)) ∧
    (s.pass.state = .held → s.clock.state = .clocking → s.clock.ramp = .held →
      exec (.passAbort l) s = .next (ended.ok l .none)) ∧
    (s.pass.state = .rolling → s.clock.state = .following → s.clock.firstFrameBegun = some false →
      exec (.passAbort l) s = .next (ended.ok l .none)) ∧
    (s.pass.state = .stepMoving →
      (s.pass.stepping.abortRequested = true → exec (.passAbort l) s = .next (d.ok l .none)) ∧
      (s.pass.stepping.abortRequested = false → exec (.passAbort l) s = .next
        (({ d with pass := { s.pass with stepping := { s.pass.stepping with
          abortRequested := true, pending := 0 } } } : State).ok l .none))) ∧
    (s.pass.state = .stepSettling ∨ s.pass.state = .exposing ∨ s.pass.state = .stepReady →
      exec (.passAbort l) s = .next (ended.ok l .none)) ∧
    (∀ g, s.pass.state = .approaching → s.pass.approach = some g →
      (g.stopping = true → exec (.passAbort l) s = .next (d.ok l .none)) ∧
      (g.stopping = false → (∀ e ∈ g.axes, g.velocity e = 0) → exec (.passAbort l) s = .next
        ((forAxes g.ids (fun a t => t.onAxis a (fun x => { x with creep := none }))
          ({ d with pass := { s.pass with approach := none, state := .armed } } : State)).ok l .none)) ∧
      (g.stopping = false → (∃ e ∈ g.axes, g.velocity e ≠ 0) → exec (.passAbort l) s = .next
        ((({ d with pass := { s.pass with
          approach := some { g with stopping := true } } } : State).handToCreep g).ok l .none)))) ∧
  (∀ (s : State) (r : PassRecord) (h k : Nat), s.pass.record = some r → s.pass.state = .stopping →
    s.clock.state = .clocking → s.clock.ramp = .stop h k → h ≤ k + 1 →
    ∃ t, exec .stopRampEnd s = .next t ∧ t.pass.state = .ended ∧ t.pass.cameraRun = false ∧
      t.pass.stopCause = none ∧ t.pass.endReached = none ∧
      t.pass.report.outcome = .aborted ∧
      t.pass.report.cause = s.pass.stopCause.map StopCause.reported ∧
      t.clock.state = .stopped ∧ t.clock.appliedRate = 0 ∧ t.clock.cameraSync = false ∧
      t.pass.record = some r ∧ t.pass.approach = s.pass.approach ∧
      (∀ l, t.link l = { s.link l with flags := (s.link l).flags ||| 0x8#17 }) ∧
      { t with pass := s.pass, clock := s.clock, axes := s.axes, linkA := s.linkA,
               linkB := s.linkB } = s ∧
      (∀ m, s.move r.slot = some m → r.first ≤ r.last → (r.axes.map (·.axis)).Nodup → ∀ pa ∈ r.axes,
        t.axis pa.axis = if (s.axis pa.axis).drive = .on
          then { s.axis pa.axis with
            setpoint := trackValue (m.axisTrack pa.axis) (max ((r.first : Int) * 65536) (min ((r.last : Int) * 65536) t.clock.phase))
              pa.offset }
          else s.axis pa.axis) ∧
      (∀ b, b ∉ r.axes.map (·.axis) → t.axis b = s.axis b) ∧
      (∀ b, { t.axis b with setpoint := (s.axis b).setpoint } = s.axis b))

/-- O39 (tier 2). PASS_DISARM: accepted in ARMED, AT_START and ENDED; clock, move, axes, record, in that
order. From R147, R125, R86, R12. -/
def Obligations.PassDisarmReleasesMoveAndAxes : Prop :=
  ∀ (s : State) (l : LinkId), s.phase = .serving →
    (s.pass.record = none → exec (.passDisarm l) s = .next ((s.deselect l).refuse l .state)) ∧
    (∀ r, s.pass.record = some r →
      (s.pass.state ≠ .armed → s.pass.state ≠ .atStart → s.pass.state ≠ .ended →
        exec (.passDisarm l) s = .next ((s.deselect l).refuse l .state)) ∧
      (s.pass.state = .armed ∨ s.pass.state = .atStart ∨ s.pass.state = .ended →
        ∀ m, s.move r.slot = some m → m.state = .bound →
        ∃ t, exec (.passDisarm l) s = .next t ∧
          t.clock = { Clock.reset with glitchCount := s.clock.glitchCount } ∧
          t.pass = { s.pass with
            state := .idle, record := none, stopCause := none, endReached := none, approach := none,
            stepping := Stepping.reset } ∧
          (∀ pa ∈ r.axes,
            let x := s.axis pa.axis
            let off := x.enableOutput && x.staged.any AxisRecord.unset
            t.axis pa.axis = { x with
              owner := .none, staged := none, conf := x.staged.getD x.conf,
              drive := if off then .off else x.drive, pulses := if off then 0 else x.pulses }) ∧
          (let d := s.deselect l
           { t with pass := s.pass, clock := s.clock, axes := s.axes, slots := s.slots,
                    check := s.check, linkA := d.linkA, linkB := d.linkB } = d ∧
           ((∀ pa ∈ r.axes, (s.axis pa.axis).staged = none) →
             (∀ n, n ≠ r.slot → t.move n = s.move n) ∧ t.check = s.check ∧
             t.link l.other = s.link l.other ∧
             { t.link l with answer := (d.link l).answer } = d.link l)) ∧
          (∀ b, (∀ pa ∈ r.axes, pa.axis ≠ b) → t.axis b = s.axis b) ∧
          (let dropped := m.uncertify = true ∨ ∃ pa ∈ r.axes, m.hasTrack pa.axis = true ∧
              ∃ rec, (s.axis pa.axis).staged = some rec ∧
                (s.axis pa.axis).conf.limitsDiffer rec = true
           (dropped → t.move r.slot = some { m with
              state := .opened, summary := none, failure := none, uncertify := false }) ∧
           (¬dropped → t.move r.slot = some { m with state := .ready })) ∧
          (t.link l).answer = some (.response
            { illegal := false, frame := false, refused := false, rangeReset := false } .none (.disarmed
            (((t.move r.slot).map (·.state)).getD .opened)))))

/-- O40 (tier 1). CAMERA_FRAME_EDGE by the lock state, overspeed, snap and relock, SYNC_LOSS_TIMEOUT and
LOCK_TIMEOUT. From R116, R117, R118, R119, R120, R121, R122, R123, R141, R139, R111, R145. Rests on the
model's own choice of log entries 8, 22, 37, 41. -/
def Obligations.CameraEdgesAndTheirTimeouts : Prop :=
  (∀ (s : State) (o : Nat), s.clock.state ≠ .following → exec (.cameraFrameEdge o) s = .next s) ∧
  (∀ (s : State) (o : Nat) (r : PassRecord), s.clock.state = .following → s.pass.record = some r →
    s.clock.lock = some .acquiring →
    (s.clock.lastEdge = none → exec (.cameraFrameEdge o) s = .next
      { s with clock := { s.clock with lastEdge := some (s.refClock + o) } }) ∧
    (∀ e, s.clock.lastEdge = some e → s.refClock + o < e + 109226 →
      exec (.cameraFrameEdge o) s = .next
        { s with clock := { s.clock with glitchCount := min (s.clock.glitchCount + 1) 255 } })) ∧
  (∀ (s : State) (o e q : Nat) (r : PassRecord) (m : Move) (sum : Summary),
    s.clock.state = .following → s.clock.mode = some .follower → s.clock.lock = some .locked →
    s.clock.firstFrameBegun = some false → s.clock.lastEdge = some e → s.clock.lastPeriod = some q →
    s.pass.record = some r → s.pass.state = .rolling → r.first < r.last → s.move r.slot = some m →
    m.summary = some sum → e + 109226 ≤ s.refClock + o → s.refClock + o ≤ e + 2 * q →
    s.refClock + o - e ≤ 4294967295 →
    let p := s.refClock + o - e
    min (32768000000 / p) 300002 ≤ sum.ceiling →
    exec (.cameraFrameEdge o) s = .next
      { s with
        clock := { s.clock with
          lastEdge := some (s.refClock + o), previousPeriod := some q, lastPeriod := some p,
          increment := min (1073741824 / p) 9830, measuredRate := min (32768000000 / p) 300002,
          firstFrameBegun := some true, currentFrame := r.startFrame, cameraSync := true }
        pass := { s.pass with
          state := .running
          report := { s.pass.report with frames := s.pass.report.frames + 1 } } }) ∧
  (∀ (s : State) (e q : Nat), s.clock.state = .following → s.clock.lock = some .locked →
    s.clock.lastEdge = some e → s.clock.lastPeriod = some q → e + 2 * q ≤ s.refClock + 16384 →
    (s.clock.firstFrameBegun = some true → s.pass.report.outcome = .running →
      exec .syncLossTimeout s = .next
        (({ s with
          clock := { s.clock with lock := some .syncLost }
          pass := { s.pass with report := { s.pass.report with
            conditions := { s.pass.report.conditions with syncLost := true } } } } : State).raise
              .syncLost)) ∧
    (s.clock.firstFrameBegun = some false → exec .lockTimeout s = .next
      { s with clock := { s.clock with lock := some .acquiring, stableCount := 0 } })) ∧
  (∀ (s : State) (o e : Nat) (r : PassRecord), s.clock.state = .following → s.pass.record = some r →
    s.clock.lastEdge = some e → e + 109226 ≤ s.refClock + o →
    let t := s.refClock + o
    let p := min (t - e) 4294967295
    let rate := min (32768000000 / p) 300002
    let used : Clock := { s.clock with
      lastEdge := some t, previousPeriod := s.clock.lastPeriod, lastPeriod := some p,
      increment := min (1073741824 / p) 9830, measuredRate := rate }
    let tooFast := s.pass.endReached ≠ some true ∧
      ∃ m sum, s.move r.slot = some m ∧ m.summary = some sum ∧ sum.ceiling < rate
    let inTime := s.clock.lock = some .locked ∧ ∃ q, s.clock.lastPeriod = some q ∧ t ≤ e + 2 * q
    let stopping : Pass := { s.pass with state := .stopping, stopCause := some .overspeed }
    (s.clock.lock = some .acquiring → ¬tooFast →
      let stable := ∃ q, s.clock.lastPeriod = some q ∧ p ≤ q + q / 64 ∧ q ≤ p + q / 64
      let count := min (s.clock.stableCount + 1) 255
      (stable → max r.lead 2 ≤ count → exec (.cameraFrameEdge o) s = .next { s with clock := { used with
        stableCount := count, lock := some .locked, firstFrameBegun := some false } }) ∧
      (stable → count < max r.lead 2 → exec (.cameraFrameEdge o) s = .next
        { s with clock := { used with stableCount := count } }) ∧
      (¬stable → exec (.cameraFrameEdge o) s = .next { s with clock := { used with stableCount := 0 } })) ∧
    (s.clock.lock = some .acquiring ∨ inTime → tooFast → 0 < r.stopRamp →
      (s.clock.firstFrameBegun = some true → exec (.cameraFrameEdge o) s = .next { s with
        pass := stopping
        clock := { used with
          state := .clocking, remainder := 0, baseRate := rate, ramp := .stop r.stopRamp 0, lock := none,
          firstFrameBegun := none } }) ∧
      (s.clock.firstFrameBegun = some false → exec (.cameraFrameEdge o) s = .next (({ s with
        pass := { s.pass with
          state := .ended, stopCause := none, endReached := none, cameraRun := false, stepping := .reset
          report := { s.pass.report with outcome := .aborted, cause := some .overspeed } }
        clock := { used with
          state := .stopped, ramp := .none, appliedRate := 0, baseRate := 0, cameraSync := false,
          travelLimit := none, lock := none, firstFrameBegun := none, lastEdge := none,
          lastPeriod := none, previousPeriod := none } } : State).raise .passEnded))) ∧
    (∀ (d : Direction) (lim : Int), s.clock.mode = some .follower → s.clock.direction = some d →
      s.clock.travelLimit = some lim → s.pass.state = .running →
      let n : Int := match d with
        | .forward => s.clock.phase / 65536 + 1
        | .reverse => (s.clock.phase + 65535) / 65536 - 1
      let within : Prop := match d with
        | .forward => n * 65536 ≤ lim
        | .reverse => lim ≤ n * 65536
      let half : Prop := match d with
        | .forward => s.clock.currentFrame * 65536 + 32768 ≤ lim
        | .reverse => lim ≤ s.clock.currentFrame * 65536 - 32768
      let snapped (c : Clock) : Clock :=
        { c with phase := n * 65536, currentFrame := n, cameraSync := true }
      let counted : Report := { s.pass.report with frames := s.pass.report.frames + 1 }
      (s.clock.firstFrameBegun = some true → inTime → ¬tooFast →
        (within → (r.first : Int) ≤ n → n ≤ r.last →
          (n ≠ r.endFrame → exec (.cameraFrameEdge o) s = .next
            { s with clock := snapped used, pass := { s.pass with report := counted } }) ∧
          (n = r.endFrame → 0 < r.trail → exec (.cameraFrameEdge o) s = .next
            { s with clock := snapped used, pass := { s.pass with
                report := counted, endReached := some true, state := .trailing } })) ∧
        (¬within → ∀ b : Bool, (b = true ↔ s.clock.cameraSync = true ∧ ¬half) →
          exec (.cameraFrameEdge o) s = .next
            { s with clock := { used with phase := lim, cameraSync := b } })) ∧
      (s.clock.lock = some .syncLost → within → (r.first : Int) ≤ n → n ≤ r.last → n ≠ r.endFrame →
        s.pass.report.outcome = .running → exec (.cameraFrameEdge o) s = .next
          (({ s with
            clock := { snapped s.clock with lastEdge := some t, lock := some .locked }
            pass := { s.pass with report := { counted with
              conditions := { s.pass.report.conditions with relocked := true } } } } : State).raise
                .syncRelock)))) ∧
  (∀ (s : State) (o e : Nat), s.clock.state = .following → s.clock.lastEdge = some e →
    s.refClock + o < e + 109226 → (∀ q, s.clock.lastPeriod = some q → 109226 ≤ q) →
    exec (.cameraFrameEdge o) s = .next
      { s with clock := { s.clock with glitchCount := min (s.clock.glitchCount + 1) 255 } }) ∧
  (∀ (s : State) (o e q : Nat), s.clock.state = .following → s.clock.lock = some .locked →
    s.clock.lastEdge = some e → s.clock.lastPeriod = some q → e + 2 * q < s.refClock + o →
    (s.clock.firstFrameBegun = some true → s.pass.report.outcome = .running →
      exec (.cameraFrameEdge o) s = exec (.cameraFrameEdge o) (({ s with
        clock := { s.clock with lock := some .syncLost }
        pass := { s.pass with report := { s.pass.report with
          conditions := { s.pass.report.conditions with syncLost := true } } } } : State).raise
            .syncLost)) ∧
    (s.clock.firstFrameBegun = some false → exec (.cameraFrameEdge o) s = exec (.cameraFrameEdge o)
      { s with clock := { s.clock with lock := some .acquiring, stableCount := 0 } })) ∧
  (∀ (s : State) (o e : Nat) (r : PassRecord) (d : Direction) (lim : Int),
    s.clock.state = .following → s.clock.mode = some .follower → s.clock.direction = some d →
    s.clock.travelLimit = some lim → s.clock.lastEdge = some e → e + 109226 ≤ s.refClock + o →
    s.pass.record = some r → s.pass.state = .running ∨ s.pass.state = .trailing →
    let t := s.refClock + o
    let p := min (t - e) 4294967295
    let rate := min (32768000000 / p) 300002
    let used : Clock := { s.clock with
      lastEdge := some t, previousPeriod := s.clock.lastPeriod, lastPeriod := some p,
      increment := min (1073741824 / p) 9830, measuredRate := rate }
    let tooFast := s.pass.endReached ≠ some true ∧
      ∃ m sum, s.move r.slot = some m ∧ m.summary = some sum ∧ sum.ceiling < rate
    let n : Int := match d with
      | .forward => s.clock.phase / 65536 + 1
      | .reverse => (s.clock.phase + 65535) / 65536 - 1
    let within : Prop := match d with
      | .forward => n * 65536 ≤ lim
      | .reverse => lim ≤ n * 65536
    let half : Prop := match d with
      | .forward => s.clock.currentFrame * 65536 + 32768 ≤ lim
      | .reverse => lim ≤ s.clock.currentFrame * 65536 - 32768
    let trailEnd : Int := match r.direction with
      | .forward => (r.last : Int) + r.trail
      | .reverse => (r.first : Int) - r.trail
    let snapped (c : Clock) : Clock := { c with phase := n * 65536, currentFrame := n, cameraSync := true }
    let relocked : Conditions := { s.pass.report.conditions with relocked := true }
    let passed (c : Conditions) : Pass := { s.pass with
      report := { s.pass.report with
        conditions := c
        frames := if (r.first : Int) ≤ n ∧ n ≤ r.last then s.pass.report.frames + 1
          else s.pass.report.frames }
      endReached := if n = r.endFrame then some true else s.pass.endReached
      state := if n = r.endFrame then .trailing else s.pass.state }
    let complete (p : Pass) : Pass := { p with
      report := { p.report with outcome := .complete, cause := none }
      state := .ended, stopCause := none, endReached := none, cameraRun := false, stepping := .reset }
    let stopped (c : Clock) : Clock := { c with
      state := .stopped, ramp := .none, appliedRate := 0, baseRate := 0, cameraSync := false,
      travelLimit := none, lock := none, firstFrameBegun := none, lastEdge := none,
      lastPeriod := none, previousPeriod := none }
    let atEnd (u : State) : Prop :=
      (∀ m, s.move r.slot = some m → r.first < r.last → (r.axes.map (·.axis)).Nodup → ∀ pa ∈ r.axes,
        u.axis pa.axis = if (s.axis pa.axis).drive = .on
          then { s.axis pa.axis with
            setpoint := trackValue (m.axisTrack pa.axis) (r.endFrame * 65536) pa.offset }
          else s.axis pa.axis) ∧
      (∀ b, b ∉ r.axes.map (·.axis) → u.axis b = s.axis b)
    (s.clock.lock = some .locked → s.clock.firstFrameBegun = some true →
      (∃ q, s.clock.lastPeriod = some q ∧ t ≤ e + 2 * q) → ¬tooFast → within →
      (n ≠ trailEnd → exec (.cameraFrameEdge o) s = .next
        { s with clock := snapped used, pass := passed s.pass.report.conditions }) ∧
      (n = trailEnd → ∃ u, exec (.cameraFrameEdge o) s = .next u ∧ atEnd u ∧
        { u with axes := s.axes } = ({ s with
          clock := stopped (snapped used)
          pass := complete (passed s.pass.report.conditions) } : State).raise .passEnded)) ∧
    (s.clock.lock = some .syncLost → s.pass.report.outcome = .running →
      (within → n ≠ trailEnd → exec (.cameraFrameEdge o) s = .next (({ s with
        clock := { snapped s.clock with lastEdge := some t, lock := some .locked }
        pass := passed relocked } : State).raise .syncRelock)) ∧
      (within → n = trailEnd → ∃ u, exec (.cameraFrameEdge o) s = .next u ∧ atEnd u ∧
        { u with axes := s.axes } = (({ s with
          clock := stopped (snapped s.clock)
          pass := complete (passed relocked) } : State).raise .syncRelock).raise .passEnded) ∧
      (¬within → ∀ b : Bool, (b = true ↔ s.clock.cameraSync = true ∧ ¬half) →
        exec (.cameraFrameEdge o) s = .next (({ s with
          clock := { s.clock with
            phase := lim, cameraSync := b, lastEdge := some t, lock := some .locked }
          pass := { s.pass with report := { s.pass.report with conditions := relocked } } } : State).raise
            .syncRelock)))) ∧
  (∀ s : State,
    (∀ e q, s.clock.state = .following → s.clock.lock = some .locked → s.clock.lastEdge = some e →
      s.clock.lastPeriod = some q →
      (s.refClock < e + 2 * q → s.tickLoss = s) ∧
      (e + 2 * q ≤ s.refClock →
        (s.clock.firstFrameBegun = some true → exec .syncLossTimeout s = .next s.tickLoss) ∧
        (s.clock.firstFrameBegun = some false → exec .lockTimeout s = .next s.tickLoss))) ∧
    (s.clock.state ≠ .following ∨ s.clock.lock ≠ some .locked → s.tickLoss = s))

/-- O41 (tier 2). The tick of a run's clock: accumulator, phase and travel limit, ramp and applied rate,
frame start, half point, base load, and the ends of a ramp and a run. From R110, R111, R112, R113, R114,
R115, R121, R136, R138, R139, R140, R125. -/
def Obligations.AClockingTickAccumulatesExactly : Prop :=
  (∀ s : State, s.clock.remainder < 2000000 →
    ∃ d : Nat,
      let rate := match s.clock.ramp with
        | .none => s.clock.baseRate
        | .hold h k => s.clock.baseRate * (h - (k + 1)) / h
        | .held => 0
        | .resume h k => s.clock.baseRate * (k + 1) / h
        | .stop h k => s.clock.baseRate * (h - (k + 1)) / h
      d * 2000000 + s.tickClocking.1.clock.remainder = s.clock.remainder + rate * 65536 ∧
      s.tickClocking.1.clock.remainder < 2000000 ∧
      s.tickClocking.1.clock.phase =
        (match s.clock.travelLimit, s.clock.direction.getD .forward with
          | none, .forward => s.clock.phase + d
          | none, .reverse => s.clock.phase - d
          | some lim, .forward => min (s.clock.phase + d) lim
          | some lim, .reverse => max (s.clock.phase - d) lim) ∧
      s.tickClocking.1.clock.travelLimit = s.clock.travelLimit ∧
      s.tickClocking.1.clock.direction = s.clock.direction ∧ s.tickClocking.1.axes = s.axes) ∧
  (∀ (s : State) (r : PassRecord) (m : Move) (d : Direction) (lim : Int), s.pass.record = some r →
    s.pass.state.inRun = true → s.move r.slot = some m → s.clock.direction = some d →
    s.clock.travelLimit = some lim →
    let t := s.tickPass
    let n : Int := match d with
      | .forward => s.clock.phase / 65536 + 1
      | .reverse => (s.clock.phase + 65535) / 65536 - 1
    let past (x y : Int) : Prop := match d with
      | .forward => x ≤ y
      | .reverse => y ≤ x
    let half : Int := match d with
      | .forward => s.clock.currentFrame * 65536 + 32768
      | .reverse => s.clock.currentFrame * 65536 - 32768
    let trailEnd : Int := match r.direction with
      | .forward => (r.last : Int) + r.trail
      | .reverse => (r.first : Int) - r.trail
    let load : Nat := if s.clock.mode ≠ some .master then s.clock.baseRate
      else if m.speedTrack ≠ [] then speedRate m.speedTrack n else r.rate.getD s.clock.baseRate
    let entered : PassState :=
      if s.pass.state = .rolling ∧ n = r.startFrame then .running else s.pass.state
    let counted : Pass := { s.pass with
      report := { s.pass.report with
        frames := if (r.first : Int) ≤ n ∧ n ≤ r.last then s.pass.report.frames + 1
          else s.pass.report.frames }
      endReached := if n = r.endFrame then some true else s.pass.endReached
      state := if n = r.endFrame ∧ entered = .running then .trailing else entered }
    let stands (c : Clock) (p : Pass) : Prop := { t with axes := s.axes } = { s with clock := c, pass := p }
    let ended (c : Clock) (p : Pass) (o : RunOutcome) (cause : Option ReportCause) : Prop :=
      { t with axes := s.axes } = ({ s with
        clock := { c with
          state := .stopped, ramp := .none, appliedRate := 0, baseRate := 0, cameraSync := false,
          travelLimit := none, lock := none, firstFrameBegun := none, lastEdge := none,
          lastPeriod := none, previousPeriod := none }
        pass := { p with
          report := { p.report with outcome := o, cause := cause }
          state := .ended, stopCause := none, endReached := none, cameraRun := false
          stepping := .reset } } : State).raise .passEnded
    let rampEnds (c : Clock) (p : Pass) : Ramp → Prop
      | .none | .held => stands c p
      | .hold h k => (k < h → stands c p) ∧ (h ≤ k → { t with axes := s.axes } = ({ s with
          clock := { c with ramp := .held, appliedRate := 0 }
          pass := { p with state := .held } } : State).raise .passHeld)
      | .resume h k => (k < h → stands c p) ∧ (h ≤ k → stands { c with ramp := .none }
          { p with state := if p.endReached = some true then .trailing else .running })
      | .stop h k => (k < h → ¬past lim c.phase → stands c p) ∧
          (h ≤ k ∨ past lim c.phase → ended c p .aborted (match p.stopCause with
            | none => none
            | some .command => some .command
            | some .overspeed => some .overspeed))
    let goes (c : Clock) (ramp : Ramp) : Prop :=
      (¬past (n * 65536) c.phase → ∀ b : Bool, (b = true ↔ s.clock.cameraSync = true ∧ ¬past half c.phase) →
        rampEnds { c with cameraSync := b } s.pass ramp) ∧
      (past (n * 65536) c.phase → s.pass.state ≠ .held →
        let e : Clock := { c with currentFrame := n, cameraSync := true, baseRate := load }
        let completes := n = trailEnd ∧ (counted.state = .running ∨ counted.state = .holding ∨
          counted.state = .resuming ∨ counted.state = .trailing)
        (completes → ended e counted .complete none) ∧ (¬completes → rampEnds e counted ramp))
    (∀ b, b ∉ r.axes.map (·.axis) → t.axis b = s.axis b) ∧
    (∀ b, { t.axis b with setpoint := (s.axis b).setpoint } = s.axis b) ∧
    (s.clock.state = .clocking →
      let ramp : Ramp := match s.clock.ramp with
        | .none => .none
        | .held => .held
        | .hold h k => .hold h (k + 1)
        | .resume h k => .resume h (k + 1)
        | .stop h k => .stop h (k + 1)
      let rate : Nat := match ramp with
        | .none => s.clock.baseRate
        | .held => 0
        | .hold h k | .stop h k => s.clock.baseRate * (h - k) / h
        | .resume h k => s.clock.baseRate * k / h
      let total : Nat := s.clock.remainder + rate * 65536
      goes { s.clock with
        ramp := ramp, appliedRate := rate, remainder := total % 2000000
        phase := match d with
          | .forward => min (s.clock.phase + ((total / 2000000 : Nat) : Int)) lim
          | .reverse => max (s.clock.phase - ((total / 2000000 : Nat) : Int)) lim } ramp) ∧
    (s.clock.state = .following → s.clock.lock = some .syncLost →
      goes { s.clock with
        phase := match d with
          | .forward => min (s.clock.phase + s.clock.increment) lim
          | .reverse => max (s.clock.phase - s.clock.increment) lim } .none))

/-- O42 (tier 2). PASS_STEP is refused by the first test of R152 that holds, or taken with its response;
STEP_ADVANCE_EDGE acts as a PASS_STEP of one. From R152, R153, R154, R151, R150, R192. -/
def Obligations.StepsAreAskedForAndBegin : Prop :=
  (∀ (s : State) (l : LinkId) (n code : Nat), s.phase = .serving →
    (s.pass.record = none ∨ s.pass.state = .idle →
      exec (.passStep l n code) s = .next ((s.deselect l).refuse l .state)) ∧
    (∀ r, s.pass.record = some r → s.pass.state ≠ .idle →
      (n = 0 ∨ 255 < n ∨ 1 < code →
        exec (.passStep l n code) s = .next ((s.deselect l).refuse l .range)) ∧
      (1 ≤ n → n ≤ 255 → code ≤ 1 → r.mode ≠ .step →
        exec (.passStep l n code) s = .next ((s.deselect l).refuse l .mode)))) ∧
  (∀ s : State, s.pass.record = none → exec .stepAdvanceEdge s = .next s) ∧
  (∀ (s : State) (r : PassRecord), s.pass.record = some r → r.mode ≠ .step →
    exec .stepAdvanceEdge s = .next s) ∧
  (∀ (s : State) (r : PassRecord) (f : StepFields), s.pass.record = some r → r.mode = .step →
    r.step = some f →
    let q := s.pass.stepping
    let busy := s.pass.state = .stepMoving ∨ s.pass.state = .stepSettling ∨ s.pass.state = .exposing
    let standing := s.pass.state = .atStart ∨ s.pass.state = .stepReady
    let base : Int := q.destination.getD r.startFrame
    let committed : Int := match q.direction with
      | some .forward => base + q.pending
      | some .reverse => base - q.pending
      | none => base
    let goal (n : Nat) (d : Direction) : Int := if d = .forward then committed + n else committed - n
    let t4 := ¬busy ∧ ¬standing
    let t5 := q.abortRequested = true
    let t6 (d : Direction) : Prop := (busy ∨ 0 < q.pending) ∧ ∃ e, q.direction = some e ∧ e ≠ d
    let t7 (n : Nat) : Prop := 255 < q.pending + n
    let t8 (n : Nat) (d : Direction) : Prop := goal n d < r.first ∨ (r.last : Int) < goal n d
    let after (t : State) (n : Nat) (d : Direction) : Prop :=
      (busy → t.pass = { s.pass with stepping := { q with
        pending := q.pending + n, direction := some d } } ∧ t.clock = s.clock) ∧
      (s.pass.state = .stepReady → t.clock = s.clock ∧ t.pass = { s.pass with
        state := .stepMoving
        stepping := { q with
          pending := q.pending + n - 1, direction := some d
          destination := q.destination.map (fun x => if d = .forward then x + 1 else x - 1)
          ease := (some
            { start := s.clock.phase, dist := (if d = .forward then 65536 else -65536),
              duration := f.stepTime, elapsed := 0 }) } }) ∧
      (s.pass.state = .atStart → t.pass.state = .stepMoving ∧ t.pass.cameraRun = true ∧
        t.pass.report.outcome = .running ∧ t.pass.report.frames = 0 ∧
        t.pass.report.conditions = Conditions.empty ∧ t.clock.state = .stepping ∧
        t.clock.phase = r.startFrame * 65536 ∧ t.clock.currentFrame = r.startFrame ∧
        t.clock.cameraSync = false ∧ t.pass.stepping.pending = q.pending + n - 1 ∧
        t.pass.stepping.direction = some d ∧
        t.pass.stepping.destination =
          some (if d = .forward then r.startFrame + 1 else r.startFrame - 1) ∧
        t.pass.stepping.ease = some
          { start := r.startFrame * 65536, dist := (if d = .forward then 65536 else -65536),
            duration := f.stepTime, elapsed := 0 })
    let kept (t u : State) : Prop :=
      { t with pass := u.pass, clock := u.clock, axes := u.axes, linkA := u.linkA,
               linkB := u.linkB } = u ∧
      (s.pass.state = .atStart →
        (∀ a, t.axis a = { s.axis a with softClamp := false, pulseClamp := false }) ∧
        { t.pass with state := s.pass.state, report := s.pass.report, cameraRun := s.pass.cameraRun,
                      stepping := q } = s.pass) ∧
      (s.pass.state ≠ .atStart → t.axes = s.axes)
    (∀ l n d, s.phase = .serving → 1 ≤ n → n ≤ 255 →
      let code : Nat := if d = Direction.forward then 0 else 1
      let refused (why : Reason) : Prop :=
        exec (.passStep l n code) s = .next ((s.deselect l).refuse l why)
      (s.pass.state ≠ .idle → t4 → refused .state) ∧
      (¬t4 → t5 ∨ t6 d → refused .state) ∧
      (¬t4 → ¬t5 → ¬t6 d → t7 n ∨ t8 n d → refused .range) ∧
      (¬t4 → ¬t5 → ¬t6 d → ¬t7 n → ¬t8 n d → ∃ t, exec (.passStep l n code) s = .next t ∧
        after t n d ∧ kept t (s.deselect l) ∧ t.link l.other = s.link l.other ∧
        { t.link l with answer := none } = (s.deselect l).link l ∧
        let dest := t.pass.stepping.destination.getD r.startFrame
        let c : Int := if d = .forward then dest + t.pass.stepping.pending
          else dest - t.pass.stepping.pending
        (t.link l).answer = some (.response
          { illegal := false, frame := false, refused := false, rangeReset := false } .none
          (.stepping t.pass.stepping.pending d c)) ∧
        ((q.direction = none → q.pending = 0) → (s.pass.state = .atStart → q.destination = none) →
          (s.pass.state ≠ .atStart → q.destination.isSome = true) → c = goal n d))) ∧
    let d := r.direction
    let taken := f.inputEnable = true ∧ ¬t4 ∧ ¬t5 ∧ ¬t6 d ∧ ¬t7 1 ∧ ¬t8 1 d
    (taken → ∃ t, exec .stepAdvanceEdge s = .next t ∧ after t 1 d ∧ kept t s ∧
      ∀ l, t.link l = s.link l) ∧
    (¬taken → exec .stepAdvanceEdge s = .next s))

/-- O43 (tier 2). The step's tick, its ease and settle end, and the exposure begins, ends and times out.
From R156, R157, R158, R160, R154, R155, R159, R81, R80. Rests on the model's own choice of log entry 5. -/
def Obligations.StepsSettleAndExpose : Prop :=
  ((∀ (s : State) (l : LinkId) (r : PassRecord), s.phase = .serving → s.pass.record = some r →
    s.pass.state ≠ .idle →
    (r.mode ≠ .step → exec (.passExpose l) s = .next ((s.deselect l).refuse l .mode)) ∧
    (∀ f, r.mode = .step → r.step = some f →
      (s.pass.state ≠ .atStart → s.pass.state ≠ .stepReady →
        exec (.passExpose l) s = .next ((s.deselect l).refuse l .state)) ∧
      (s.pass.state = .stepReady → exec (.passExpose l) s = .next
        (({ s.deselect l with pass := { s.pass with
          state := .exposing
          stepping := { s.pass.stepping with
            trigger := true, settleRemaining := none
            exposureRemaining := some (match f.exposure with
              | .timed n => n
              | .handshake n => n) } } } : State).ok l .none)) ∧
      (s.pass.state = .atStart → ∃ t, exec (.passExpose l) s = .next t ∧
        t.pass.state = .exposing ∧ t.pass.cameraRun = true ∧ t.pass.report.outcome = .running ∧
        t.pass.stepping.trigger = true ∧ t.pass.stepping.destination = some r.startFrame ∧
        t.pass.stepping.exposureRemaining = some f.exposure.ticks ∧ t.clock.state = .stepping ∧
        t.clock.phase = r.startFrame * 65536 ∧
        (∀ a, t.axis a = { s.axis a with softClamp := false, pulseClamp := false }) ∧
        (let d := s.deselect l
         t.link l.other = s.link l.other ∧ { t.link l with answer := none } = d.link l ∧
         { t with pass := s.pass, clock := s.clock, axes := s.axes, linkA := d.linkA,
                  linkB := d.linkB } = d)))) ∧
  (∀ (s : State) (r : PassRecord) (f : StepFields) (n : Nat), s.pass.record = some r →
    r.step = some f → s.pass.state = .exposing → s.pass.stepping.exposureRemaining = some n →
    let kept (t : State) : Prop :=
      { t with pass := s.pass, clock := s.clock, axes := s.axes, linkA := s.linkA,
               linkB := s.linkB } = s ∧
      t.pass.record = s.pass.record ∧ (t.pass.state ≠ .ended → t.clock = s.clock)
    let written (t : State) : Prop :=
      (∀ m, s.move r.slot = some m → (r.axes.map (·.axis)).Nodup → ∀ pa ∈ r.axes,
        t.axis pa.axis = if (s.axis pa.axis).drive = .on
          then { s.axis pa.axis with
            setpoint := trackValue (m.axisTrack pa.axis) (s.clock.phase)
              pa.offset }
          else s.axis pa.axis) ∧
      (∀ b, b ∉ r.axes.map (·.axis) → t.axis b = s.axis b) ∧
      (∀ b, { t.axis b with setpoint := (s.axis b).setpoint } = s.axis b)
    let completed (t : State) : Prop :=
      kept t ∧ t.pass.report.frames = min (s.pass.report.frames + 1) 65536 ∧ t.pass.stepping.trigger = false ∧
      t.pass.stepping.exposureRemaining = none ∧
      (s.pass.stepping.destination = some r.endFrame →
        t.pass.state = .ended ∧ t.pass.report.outcome = .complete ∧ t.pass.report.cause = none ∧
        t.pass.cameraRun = false ∧ t.clock.state = .stopped ∧ t.clock.phase = s.clock.phase ∧
        ∀ l, t.link l = { s.link l with flags := (s.link l).flags ||| 0x8#17 }) ∧
      (s.pass.stepping.destination ≠ some r.endFrame →
        (0 < s.pass.stepping.pending → t.pass.state = .stepMoving ∧
          t.pass.stepping.pending = s.pass.stepping.pending - 1 ∧ ∀ l, t.link l = s.link l) ∧
        (s.pass.stepping.pending = 0 → t.pass.state = .stepReady ∧
          t.pass.stepping.direction = none ∧
          ∀ l, t.link l = { s.link l with flags := (s.link l).flags ||| 0x20#17 }))
    (∀ c, f.exposure = .handshake c →
      (∃ t, exec .exposureDoneEdge s = .next t ∧ completed t ∧ t.axes = s.axes) ∧
      (n ≤ 1 → ∃ t, exec .exposureTimeout s = .next t ∧ kept t ∧ written t ∧
        t.pass.state = .stepReady ∧
        t.pass.report.frames = s.pass.report.frames ∧ t.pass.stepping.pending = 0 ∧
        t.pass.stepping.trigger = false ∧ t.pass.stepping.direction = none ∧
        (s.pass.report.outcome = .running → t.pass.report.conditions =
          { s.pass.report.conditions with exposeTimeout := true }) ∧
        ∀ l, t.link l = { s.link l with flags := (s.link l).flags ||| 0x20#17 })) ∧
    (∀ c, f.exposure = .timed c → exec .exposureDoneEdge s = .next s ∧
      (n ≤ 1 → ∃ t, exec .exposureTimeEnd s = .next t ∧ completed t ∧ written t) ∧
      (1 < n → exec .exposureTimeEnd s = .next s))) ∧
  (∀ s : State, s.pass.state ≠ .exposing → exec .exposureDoneEdge s = .next s)) ∧
  (∀ (s : State) (r : PassRecord) (f : StepFields), s.pass.record = some r → r.step = some f →
    (∀ e, s.pass.state = .stepMoving → s.pass.stepping.ease = some e → e.elapsed + 1 = e.duration →
      ∃ t, exec .stepEaseEnd s = .next t ∧ t.clock.phase = e.start + e.dist ∧
        t.clock.currentFrame = (e.start + e.dist) / 65536 ∧ t.pass.stepping.ease = none ∧
        (∀ m, s.move r.slot = some m → (r.axes.map (·.axis)).Nodup → ∀ pa ∈ r.axes,
          t.axis pa.axis = if (s.axis pa.axis).drive = .on
            then { s.axis pa.axis with
              setpoint := trackValue (m.axisTrack pa.axis) (e.start + e.dist)
                pa.offset }
            else s.axis pa.axis) ∧
        (∀ b, b ∉ r.axes.map (·.axis) → t.axis b = s.axis b) ∧
        (∀ b, { t.axis b with setpoint := (s.axis b).setpoint } = s.axis b) ∧
        { t with pass := s.pass, clock := s.clock, axes := s.axes, linkA := s.linkA,
                 linkB := s.linkB } = s ∧ t.pass.record = s.pass.record ∧
        (s.pass.stepping.abortRequested = true → t.pass.state = .ended ∧
          t.pass.report.outcome = .aborted ∧ t.pass.report.cause = some .command ∧
          t.clock.state = .stopped ∧ t.pass.cameraRun = false ∧
          ∀ l, t.link l = { s.link l with flags := (s.link l).flags ||| 0x8#17 }) ∧
        (s.pass.stepping.abortRequested = false →
          (∀ l, t.link l = s.link l) ∧
          (f.settle = 0 → t.pass.state = .exposing ∧ t.pass.stepping.trigger = true ∧
            t.pass.stepping.exposureRemaining = some f.exposure.ticks) ∧
          (f.settle ≠ 0 → t.pass.state = .stepSettling ∧
            t.pass.stepping.settleRemaining = some f.settle ∧
            t.pass.stepping.trigger = s.pass.stepping.trigger))) ∧
    (∀ n, s.pass.state = .stepSettling → s.pass.stepping.settleRemaining = some n →
      (n ≤ 1 → ∃ t, exec .stepSettleEnd s = .next t ∧
        { t with pass := s.pass, axes := s.axes } = s ∧
        (∀ m, s.move r.slot = some m → (r.axes.map (·.axis)).Nodup → ∀ pa ∈ r.axes,
          t.axis pa.axis = if (s.axis pa.axis).drive = .on
            then { s.axis pa.axis with
              setpoint := trackValue (m.axisTrack pa.axis) (s.clock.phase)
                pa.offset }
            else s.axis pa.axis) ∧
        (∀ b, b ∉ r.axes.map (·.axis) → t.axis b = s.axis b) ∧
        (∀ b, { t.axis b with setpoint := (s.axis b).setpoint } = s.axis b) ∧
        t.pass = { s.pass with
          state := .exposing
          stepping := { s.pass.stepping with
            trigger := true, settleRemaining := none,
            exposureRemaining := some f.exposure.ticks } }) ∧
      (1 < n → exec .stepSettleEnd s = .next s))) ∧
  (∀ (s : State) (l : LinkId), s.phase = .serving → s.pass.record = none ∨ s.pass.state = .idle →
    exec (.passExpose l) s = .next ((s.deselect l).refuse l .state)) ∧
  (∀ (s : State) (r : PassRecord) (f : StepFields), s.pass.record = some r → r.step = some f →
    let t := s.tickPass
    let written (phase : Int) : Prop :=
      (∀ m, s.move r.slot = some m → (r.axes.map (·.axis)).Nodup → ∀ pa ∈ r.axes,
        t.axis pa.axis = if (s.axis pa.axis).drive = .on
          then { s.axis pa.axis with setpoint := trackValue (m.axisTrack pa.axis) phase pa.offset }
          else s.axis pa.axis) ∧
      (∀ b, b ∉ r.axes.map (·.axis) → t.axis b = s.axis b) ∧
      { t with pass := s.pass, clock := s.clock, axes := s.axes } = s
    (∀ e, s.pass.state = .stepMoving → s.pass.stepping.ease = some e →
      (e.elapsed + 1 < e.duration →
        let p : Int := e.start + easeOffset e.dist e.duration (e.elapsed + 1)
        t.clock = { s.clock with phase := p } ∧ written p ∧
        t.pass = { s.pass with stepping := { s.pass.stepping with
          ease := some { e with elapsed := e.elapsed + 1 } } }) ∧
      (e.duration ≤ e.elapsed + 1 → exec .stepEaseEnd s = .next t)) ∧
    (∀ n, s.pass.state = .stepSettling → s.pass.stepping.settleRemaining = some n →
      (1 < n → t.clock = s.clock ∧ written s.clock.phase ∧
        t.pass = { s.pass with stepping := { s.pass.stepping with settleRemaining := some (n - 1) } }) ∧
      (n ≤ 1 → exec .stepSettleEnd s = .next t)) ∧
    (∀ n, s.pass.state = .exposing → s.pass.stepping.exposureRemaining = some n →
      (1 < n → t.clock = s.clock ∧ written s.clock.phase ∧
        t.pass = { s.pass with stepping := { s.pass.stepping with exposureRemaining := some (n - 1) } }) ∧
      (n ≤ 1 → (∀ c, f.exposure = .timed c → exec .exposureTimeEnd s = .next t) ∧
        (∀ c, f.exposure = .handshake c → exec .exposureTimeout s = .next t))) ∧
    (s.pass.state = .stepReady → t.clock = s.clock ∧ t.pass = s.pass ∧ written s.clock.phase))

/-- O44 (tier 2). SERVO_TICK: its blocks in order, the stages of an ON axis, nothing in motion, what a
pass's axes hand to its report, and the FOLLOWING clock. From R163, R164, R165, R166, R167, R90, R92, R119,
R121, R131, R145, R111. Rests on the model's own choice of log entries 6, 43. -/
def Obligations.AQuietServoTickByItsStages : Prop :=
  (∀ x : Axis, x.conf.softLow ≤ x.conf.softHigh →
    let sp := if x.owner = .pass
      then max x.conf.softLow (min x.conf.softHigh x.setpoint) else x.setpoint
    let n := max (-(x.conf.pmax : Int)) (min (x.conf.pmax : Int) (sp - x.stepPosition))
    x.outputTick = { x with
      setpoint := sp
      softClamp := x.softClamp || decide (sp ≠ x.setpoint)
      stepPosition := x.stepPosition + n
      pulseClamp := x.pulseClamp || decide (n ≠ sp - x.stepPosition)
      dirPositive := if n = 0 then x.dirPositive else decide (0 < n)
      pulses := n.natAbs
      followingError := max (-2147483648) (min 2147483647 (sp - x.encoder)) } ∧
    x.outputTick.pulses ≤ x.conf.pmax) ∧
  (∀ s : State, s.phase = .serving → s.edit = none → s.check = none → s.linkA.transfer = none →
    s.linkB.transfer = none → s.park = none → s.pass.state.inRun = false →
    s.pass.state.inStep = false → s.pass.state ≠ .approaching → s.clock.state = .stopped →
    s.pass.report.outcome ≠ .running → s.compareSupply = s → (∀ a, (s.axis a).owner ≠ .home) →
    (∀ a, (s.axis a).drive = .on → (s.axis a).outputTick.followingError.natAbs ≤ (s.axis a).conf.feMax) →
    ∃ t, exec .servoTick s = .next t ∧
      { t with axes := s.axes, refClock := s.refClock } = s ∧
      t.refClock = (s.refClock / 16384 + 1) * 16384 ∧
      ∀ a : AxisId,
        let x := s.axis a
        let idle := { x with
          setpoint := saturateCount x.encoder, stepPosition := saturateCount x.encoder,
          followingError := 0, pulses := 0 }
        (x.drive = .on → t.axis a = x.outputTick) ∧
        (x.drive = .off ∨ x.drive = .tripped → t.axis a = idle) ∧
        (∀ n, x.drive = .settling n →
          (n ≤ 1 → t.axis a = { idle with drive := .on }) ∧
          (1 < n → t.axis a = { idle with drive := .settling (n - 1) }))) ∧
  (∀ s : State, s.phase = .serving → s.edit = none → s.check = none → s.linkA.transfer = none →
    s.linkB.transfer = none → s.compareSupply = s →
    (∀ e q, s.clock.state = .following → s.clock.lock = some .locked → s.clock.lastEdge = some e →
      s.clock.lastPeriod = some q → (s.refClock / 16384 + 1) * 16384 < e + 2 * q) →
    let u := ({ s with refClock := (s.refClock / 16384 + 1) * 16384 } : State).tickPass
    s.beforeOutput = u.tickPark.tickHomes ∧
    (s.park = none → (∀ a, (s.axis a).owner ≠ .home) → s.beforeOutput = u)) ∧
  (∀ s : State,
    let w := (s.nextTick.tickLink .a).tickLink .b
    s.beforeOutput = w.tickInit.tickEdit.tickCheck.compareSupply.tickLoss.tickPass.tickPark.tickHomes ∧
    s.nextTick = { s with refClock := (s.refClock / 16384 + 1) * 16384 } ∧
    exec (.supplyMonitorLow s.supplyTenths) s = .next s.compareSupply) ∧
  (∀ s : State,
    let u := s.beforeOutput
    let output (x : Axis) : Axis := match x.drive with
      | .on => x.outputTick
      | .settling n => { x with
          setpoint := saturateCount x.encoder, stepPosition := saturateCount x.encoder,
          followingError := 0, pulses := 0, drive := if n ≤ 1 then .on else .settling (n - 1) }
      | .off | .tripped => { x with
          setpoint := saturateCount x.encoder, stepPosition := saturateCount x.encoder,
          followingError := 0, pulses := 0 }
    let onPass (a : AxisId) : Prop := (u.axis a).drive = .on ∧ (u.axis a).owner = .pass
    let err (a : AxisId) : Nat := (u.axis a).outputTick.followingError.natAbs
    let handed (p : Pass) : Prop :=
      { p with report := u.pass.report } = u.pass ∧
      (u.pass.report.outcome ≠ .running → p = u.pass) ∧
      (u.pass.report.outcome = .running →
        { p.report with conditions := u.pass.report.conditions, peaks := u.pass.report.peaks } =
          u.pass.report ∧
        { p.report.conditions with
          feWarn := u.pass.report.conditions.feWarn
          setpointClamped := u.pass.report.conditions.setpointClamped
          pulseClamped := u.pass.report.conditions.pulseClamped } = u.pass.report.conditions ∧
        (p.report.conditions.feWarn = true ↔ u.pass.report.conditions.feWarn = true ∨
          ∃ a, onPass a ∧ (u.axis a).conf.feWarn < err a) ∧
        (p.report.conditions.setpointClamped = true ↔ u.pass.report.conditions.setpointClamped = true ∨
          ∃ a, onPass a ∧ (u.axis a).outputTick.setpoint ≠ (u.axis a).setpoint) ∧
        (p.report.conditions.pulseClamped = true ↔ u.pass.report.conditions.pulseClamped = true ∨
          ∃ a, onPass a ∧ (u.axis a).outputTick.stepPosition ≠ (u.axis a).outputTick.setpoint) ∧
        p.report.peaks = u.pass.report.peaks.map (List.map (fun k =>
          if (u.axis k.axis).drive = .on ∧ (u.axis k.axis).owner = .pass
          then { k with magnitude := max k.magnitude (err k.axis) } else k)))
    (∀ a, (u.axis a).drive = .on → err a ≤ (u.axis a).conf.feMax) →
    (∀ a, (u.axis a).drive = .on → (u.axis a).owner = .home → ((u.axis a).home.map (·.leg) = some .pressing) →
      err a ≤ (u.axis a).conf.feMax / 2) →
    ∃ t, exec .servoTick s = .next t ∧ { t with axes := u.axes, pass := u.pass } = u ∧
      (∀ a, t.axis a = output (u.axis a)) ∧ handed t.pass) ∧
  (∀ (s : State) (r : PassRecord) (m : Move), s.pass.record = some r → s.pass.state.inRun = true →
    s.move r.slot = some m → r.first < r.last → (r.axes.map (·.axis)).Nodup → ∀ pa ∈ r.axes,
      let u := s.tickPass
      let x := s.axis pa.axis
      let at_ : Int := max ((r.first : Int) * 65536) (min ((r.last : Int) * 65536) u.clock.phase)
      (x.drive = .on → u.axis pa.axis =
        { x with setpoint := trackValue (m.axisTrack pa.axis) at_ pa.offset }) ∧
      (x.drive ≠ .on → u.axis pa.axis = x)) ∧
  (∀ (s : State) (r : PassRecord) (d : Direction) (lim : Int), s.pass.record = some r →
    s.pass.state.inRun = true → s.clock.state = .following → s.clock.direction = some d →
    s.clock.travelLimit = some lim →
    let c := s.clock
    let u := s.tickPass
    let n : Int := match d with
      | .forward => c.phase / 65536 + 1
      | .reverse => (c.phase + 65535) / 65536 - 1
    let held : Int := match d with
      | .forward => min (min (c.phase + c.increment) (n * 65536 - 1)) lim
      | .reverse => max (max (c.phase - c.increment) (n * 65536 + 1)) lim
    let free : Int := match d with
      | .forward => min (c.phase + c.increment) lim
      | .reverse => max (c.phase - c.increment) lim
    let reached (p : Int) : Prop := match d with
      | .forward => n * 65536 ≤ p
      | .reverse => p ≤ n * 65536
    let half (p : Int) : Prop := match d with
      | .forward => c.currentFrame * 65536 + 32768 ≤ p
      | .reverse => p ≤ c.currentFrame * 65536 - 32768
    let moved (p : Int) : Prop := ∀ b : Bool, (b = true ↔ c.cameraSync = true ∧ ¬half p) →
      u.clock = { c with phase := p, cameraSync := b } ∧ u.pass = s.pass
    (c.lock = some .locked → c.firstFrameBegun = some true → moved held) ∧
    (c.lock = some .syncLost → u.clock.phase = free ∧ (¬reached free → moved free) ∧
      (reached free → u.clock.currentFrame = n)) ∧
    (c.lock = some .acquiring ∨ (c.lock = some .locked ∧ c.firstFrameBegun = some false) →
      u.clock = c ∧ u.pass = s.pass))

/-- O45 (tier 2). SERVO_TICK trips every ON axis whose error exceeds FEmax; a trip: the drive TRIPPED, the
record written, AXIS_TRIP, the owner told. From R168, R142, R143, R101, R105, R163, R166. Rests on the
model's own choice of log entry 13. -/
def Obligations.ATripTurnsTheDriveAndTellsTheOwner : Prop :=
  (∀ (s : State) (a : AxisId),
    let t := s.tripAxis a
    (t.axis a).drive = .tripped ∧ (t.axis a).pulses = 0 ∧
    (t.axis a).trip = some { error := (s.axis a).followingError, owner := (s.axis a).owner } ∧
    (∀ l, (t.link l).flags &&& 0x200#17 = 0x200#17) ∧
    (∀ b, (t.axis b).encoder = (s.axis b).encoder ∧ (t.axis b).setpoint = (s.axis b).setpoint ∧
      (t.axis b).stepPosition = (s.axis b).stepPosition) ∧
    { t with axes := s.axes, pass := s.pass, clock := s.clock, park := s.park, slots := s.slots,
             check := s.check, linkA := s.linkA, linkB := s.linkB } = s ∧
    ((s.axis a).owner = .none →
      t.axis a = { s.axis a with
        drive := .tripped, pulses := 0,
        trip := some { error := (s.axis a).followingError, owner := .none } } ∧
      (∀ b, b ≠ a → t.axis b = s.axis b) ∧
      (∀ l, t.link l = { s.link l with flags := (s.link l).flags ||| 0x200#17 }) ∧
      { t with axes := s.axes, linkA := s.linkA, linkB := s.linkB } = s) ∧
    ((s.axis a).owner = .park → ∀ g, s.park = some g →
      t.park = none ∧ t.pass = s.pass ∧ t.clock = s.clock ∧
      (∀ b ∈ g.ids, (t.axis b).owner = .none ∧ (t.axis b).creep = none ∧ (t.axis b).staged = none ∧
        (t.axis b).lastResult =
          { outcome := .parkDone, cause := if g.stopping then .stopped else .trip }) ∧
      (∀ b, b ∉ g.ids → b ≠ a → t.axis b = s.axis b) ∧
      ∀ l, (t.link l).flags &&& 0x100#17 = 0x100#17) ∧
    ((s.axis a).owner = .pass →
      (∀ b, b ≠ a → { t.axis b with creep := (s.axis b).creep } = s.axis b) ∧
      { t with axes := s.axes, pass := s.pass, clock := s.clock, linkA := s.linkA,
               linkB := s.linkB } = s ∧
      (s.pass.state.inRun = true ∨ s.pass.state.inStep = true →
        t.pass.state = .ended ∧ t.pass.cameraRun = false ∧ t.pass.record = s.pass.record ∧
        t.pass.report = { s.pass.report with outcome := .faulted, cause := some (.trip a) } ∧
        t.clock.state = .stopped ∧ t.clock.phase = s.clock.phase ∧
        ∀ l, (t.link l).flags &&& 0x8#17 = 0x8#17) ∧
      (s.pass.state = .atStart → t.pass = { s.pass with state := .armed } ∧ t.clock = s.clock) ∧
      (s.pass.state = .ended ∨ s.pass.state = .armed → t.pass = s.pass ∧ t.clock = s.clock)) ∧
    ((s.axis a).owner = .home →
      (t.axis a).owner = .none ∧ (t.axis a).datum = .unknown ∧ (t.axis a).home = none ∧
      (∀ h, (s.axis a).home = some h → (t.axis a).lastResult =
        { outcome := .homeFailed, cause := if h.leg = .abandoning then h.cause else .trip }) ∧
      (∀ l, (t.link l).flags &&& 0x80#17 = 0x80#17) ∧ t.pass = s.pass ∧ t.clock = s.clock ∧
      t.park = s.park ∧ ∀ b, b ≠ a → t.axis b = s.axis b)) ∧
  (∀ s : State, s.phase = .serving → s.edit = none → s.check = none → s.linkA.transfer = none →
    s.linkB.transfer = none → s.park = none → (∀ a, (s.axis a).owner ≠ .home) → s.compareSupply = s →
    (∀ e q, s.clock.state = .following → s.clock.lock = some .locked → s.clock.lastEdge = some e →
      s.clock.lastPeriod = some q → (s.refClock / 16384 + 1) * 16384 < e + 2 * q) →
    let u := ({ s with refClock := (s.refClock / 16384 + 1) * 16384 } : State).tickPass
    let exceeds (a : AxisId) : Prop := (u.axis a).drive = .on ∧
      (u.axis a).conf.feMax < (u.axis a).outputTick.followingError.natAbs
    let passRuns := s.pass.state.inRun = true ∧ u.pass.state.inRun = true ∨
      s.pass.state.inStep = true ∧ u.pass.state.inStep = true
    (∃ a, exceeds a) → ∃ t, exec .servoTick s = .next t ∧
      (∀ a, exceeds a → (t.axis a).drive = .tripped ∧ (t.axis a).pulses = 0 ∧
        (t.axis a).trip = some
          { error := (u.axis a).outputTick.followingError, owner := (u.axis a).owner }) ∧
      (∀ a, ¬exceeds a → (t.axis a).drive = .tripped → (u.axis a).drive = .tripped) ∧
      (∀ l, (t.link l).flags &&& 0x200#17 = 0x200#17) ∧
      (passRuns → (∃ a, exceeds a ∧ (u.axis a).owner = .pass) →
        t.pass.state = .ended ∧ t.pass.cameraRun = false ∧ t.pass.report.outcome = .faulted ∧
        t.clock.state = .stopped ∧ t.clock.phase = u.clock.phase ∧
        (∃ a, exceeds a ∧ (u.axis a).owner = .pass ∧ t.pass.report.cause = some (.trip a)) ∧
        ∀ l, (t.link l).flags &&& 0x8#17 = 0x8#17) ∧
      ((∀ a, exceeds a → (u.axis a).owner ≠ .pass) → t.pass.state = u.pass.state ∧ t.clock = u.clock))

/-- O46 (tier 2). ESTOP_ASSERT turns every drive OFF, raises ESTOP and ends what was in motion; datums and
trips are kept. From R170, R142, R143, R105, R101. Rests on the model's own choice of log entry 24. -/
def Obligations.AnEstopTurnsEveryDriveOff : Prop :=
  ∀ s : State,
    (s.estop = true → exec .estopAssert s = .next s) ∧
    (s.estop = false → ∃ t, exec .estopAssert s = .next t ∧ t.estop = true ∧
      { t with estop := s.estop, axes := s.axes, pass := s.pass, clock := s.clock, park := s.park,
               slots := s.slots, check := s.check, linkA := s.linkA, linkB := s.linkB } = s ∧
      (∀ l, (t.link l).flags &&& 0x400#17 = 0x400#17) ∧ t.park = none ∧
      (∀ a : AxisId, (t.axis a).drive = .off ∧ (t.axis a).pulses = 0 ∧
        (t.axis a).enableOutput = false ∧ (t.axis a).encoder = (s.axis a).encoder ∧
        (t.axis a).setpoint = (s.axis a).setpoint ∧
        (t.axis a).stepPosition = (s.axis a).stepPosition ∧
        (t.axis a).trip = (s.axis a).trip ∧
        (s.ownersAgree = true → (s.axis a).owner = .none ∨ (s.axis a).owner = .pass →
          { t.axis a with drive := (s.axis a).drive, pulses := (s.axis a).pulses,
                          creep := (s.axis a).creep } = s.axis a) ∧
        ((s.axis a).owner = .home → s.ownersAgree = true →
          (t.axis a).datum = .unknown ∧ (t.axis a).owner = .none) ∧
        ((s.axis a).owner ≠ .home → (t.axis a).datum = (s.axis a).datum)) ∧
      (s.pass.state.inRun = true ∨ s.pass.state.inStep = true →
        t.pass.state = .ended ∧ t.pass.cameraRun = false ∧
        t.pass.report = { s.pass.report with outcome := .faulted, cause := some .estop } ∧
        t.clock.state = .stopped ∧ t.clock.phase = s.clock.phase) ∧
      (s.pass.state = .approaching ∨ s.pass.state = .atStart →
        t.pass = { s.pass with approach := if s.pass.state = .approaching then none
          else s.pass.approach, state := .armed }) ∧
      (s.pass.state = .idle ∨ s.pass.state = .armed ∨ s.pass.state = .ended → t.pass = s.pass))

/-- O47 (tier 1). ESTOP_RELEASE: CLEAR and ESTOP_CLEAR on both links, nothing else; while ASSERTED an enable
is refused ESTOP. From R171, R91, R170. Rests on the model's own choice of log entry 24. -/
def Obligations.AnEstopReleaseEnablesNothing : Prop :=
  (∀ (s : State) (l : LinkId) (a : AxisId), s.phase = .serving → s.estop = true →
    (s.axis a).conf.unset = false →
    exec (.axisEnable l a.val) s = .next ((s.deselect l).refuse l .estop)) ∧
  (∀ s : State, s.estop = true → exec .estopRelease s = .next
    { s with estop := false,
             linkA := { s.linkA with flags := s.linkA.flags ||| 0x800#17 },
             linkB := { s.linkB with flags := s.linkB.flags ||| 0x800#17 } }) ∧
  (∀ (s t : State) (l : LinkId) (a : AxisId), s.phase = .serving → s.estop = true →
    exec .estopRelease s = .next t →
    let d := t.deselect l
    let low := s.supplyLow = true ∧ s.supplyAction = .stop
    ((s.axis a).conf.unset = true →
      exec (.axisEnable l a.val) t = .next (d.refuse l .notConfigured)) ∧
    ((s.axis a).conf.unset = false →
      (low → exec (.axisEnable l a.val) t = .next (d.refuse l .estop)) ∧
      (¬low → (s.axis a).drive = .off ∨ (s.axis a).drive = .tripped →
        ((s.axis a).conf.settleTime ≠ 0 → exec (.axisEnable l a.val) t =
          .next ((d.setAxis a { s.axis a with
            drive := .settling (s.axis a).conf.settleTime }).ok l .none)) ∧
        ((s.axis a).conf.settleTime = 0 → exec (.axisEnable l a.val) t =
          .next ((d.setAxis a (s.axis a).driveOn).ok l .none))))) ∧
  (∀ s : State, s.estop = false → exec .estopRelease s = .next s ∧
    ∃ t u, exec .estopAssert s = .next t ∧ exec .estopRelease t = .next u ∧ u.estop = false ∧
      ∀ l, (u.link l).flags &&& 0xC00#17 = 0xC00#17)

/-- O48 (tier 1). SUPPLY_MONITOR_LOW, SUPPLY_MONITOR_OK and SUPPLY_SET: threshold, hysteresis, events, and
the STOP action with cause SUPPLY. From R172, R173, R174, R142, R143, R105, R101, R170, R192. Rests on the
model's own choice of log entry 25. -/
def Obligations.TheSupplyMonitorComparesWithItsThreshold : Prop :=
  (∀ (s : State) (v : Nat) (i : Instr), i = .supplyMonitorLow v ∨ i = .supplyMonitorOk v →
    let th := match s.supplyLevel with
      | 0 => 180
      | 1 => 240
      | 2 => 360
      | _ => 480
    let low : State := ({ s with supplyTenths := v, supplyLow := true } : State).raise .supplyLow
    (s.supplyLow = false → v < th → s.supplyAction = .flag → exec i s = .next low) ∧
    (s.supplyLow = false → v < th → s.supplyAction = .stop →
      exec i s = .next (low.allDrivesOff .supply .supply)) ∧
    (s.supplyLow = true → th + 10 ≤ v → exec i s = .next
      (({ s with supplyTenths := v, supplyLow := false } : State).raise .supplyOk)) ∧
    ((s.supplyLow = false ∧ th ≤ v) ∨ (s.supplyLow = true ∧ v < th + 10) →
      exec i s = .next { s with supplyTenths := v })) ∧
  (∀ (s : State) (l : LinkId), s.phase = .serving →
    (∀ level act, 3 < level ∨ 1 < act →
      exec (.supplySet l level act) s = .next ((s.deselect l).refuse l .range)) ∧
    (∀ level (act : SupplyAction), level ≤ 3 →
      let code : Nat := if act = SupplyAction.flag then 0 else 1
      let th := 180 + (if level = 0 then 0 else if level = 1 then 60 else if level = 2 then 180 else 300)
      let v := s.supplyTenths
      let becomes (t : State) (low : Bool) : Prop :=
        exec (.supplySet l level code) s = .next (t.ok l (.supply level act low))
      let set (low : Bool) : State :=
        { s.deselect l with supplyLevel := level, supplyAction := act, supplyLow := low }
      (s.supplyLow = false → th ≤ v → becomes (set false) false) ∧
      (s.supplyLow = false → v < th → act = .flag → becomes ((set true).raise .supplyLow) true) ∧
      (s.supplyLow = false → v < th → act = .stop →
        becomes (((set true).raise .supplyLow).allDrivesOff .supply .supply) true) ∧
      (s.supplyLow = true → th + 10 ≤ v → becomes ((set false).raise .supplyOk) false) ∧
      (s.supplyLow = true → v < th + 10 → act = .flag ∨ s.supplyAction = .stop →
        becomes (set true) true) ∧
      (s.supplyLow = true → v < th + 10 → act = .stop → s.supplyAction = .flag →
        becomes ((set true).allDrivesOff .supply .supply) true))) ∧
  (∀ (s : State) (l : LinkId), (s.raise .supplyLow).link l =
      { s.link l with flags := (s.link l).flags ||| 0x1000#17 } ∧
    (s.raise .supplyOk).link l = { s.link l with flags := (s.link l).flags ||| 0x2000#17 }) ∧
  (∀ s : State,
    let t := s.allDrivesOff .supply .supply
    { t with axes := s.axes, pass := s.pass, clock := s.clock, park := s.park, slots := s.slots,
             check := s.check, linkA := s.linkA, linkB := s.linkB } = s ∧ t.park = none ∧
    (∀ l, (t.link l).flags &&& 0x3400#17 = (s.link l).flags &&& 0x3400#17) ∧
    (∀ a : AxisId, (t.axis a).drive = .off ∧ (t.axis a).pulses = 0 ∧
      (t.axis a).enableOutput = false ∧ (t.axis a).encoder = (s.axis a).encoder ∧
      (t.axis a).setpoint = (s.axis a).setpoint ∧
      (t.axis a).stepPosition = (s.axis a).stepPosition ∧ (t.axis a).trip = (s.axis a).trip) ∧
    (s.pass.state.inRun = true ∨ s.pass.state.inStep = true →
      t.pass.state = .ended ∧ t.pass.cameraRun = false ∧ t.pass.record = s.pass.record ∧
      t.pass.report = { s.pass.report with outcome := .faulted, cause := some .supply } ∧
      t.clock.state = .stopped ∧ t.clock.phase = s.clock.phase ∧
      ∀ l, (t.link l).flags &&& 0x8#17 = 0x8#17) ∧
    (s.pass.state = .approaching ∨ s.pass.state = .atStart →
      t.clock = s.clock ∧ t.pass = { s.pass with
        approach := if s.pass.state = .approaching then none else s.pass.approach, state := .armed }) ∧
    (s.pass.state = .idle ∨ s.pass.state = .armed ∨ s.pass.state = .ended →
      t.clock = s.clock ∧ t.pass = s.pass) ∧
    (s.ownersAgree = true →
      (∀ g, s.park = some g → ∀ a ∈ g.ids, (t.axis a).owner = .none ∧ (t.axis a).lastResult =
        { outcome := .parkDone, cause := if g.stopping then .stopped else .supply }) ∧
      (∀ a h, (s.axis a).home = some h → (t.axis a).owner = .none ∧ (t.axis a).datum = .unknown ∧
        (t.axis a).lastResult =
          { outcome := .homeFailed, cause := if h.leg = .abandoning then h.cause else .supply })))

/-- O49 (tier 1). The state right after a hard reset meets every invariant stated here. From R20, R11, R7,
R34. -/
def Obligations.ResetMeetsEveryInvariant : Prop :=
  State.reset.transfersApart = true ∧ State.reset.directoryAgrees = true ∧
  State.reset.poolBalanced = true ∧ State.reset.tracksSound = true ∧
  State.reset.opSparesHeld = true ∧ State.reset.ownersAgree = true ∧
  State.reset.recordAgrees = true ∧ State.reset.outputsAgree = true ∧
  State.reset.estopHolds = true ∧ State.reset.waitingNeedsWork = true ∧
  State.reset.initQuiet = true ∧ State.reset.checkSound = true

/-- O50 (tier 2). Transfers stay apart, nothing waits at an IDLE edit unit, an initializing store is empty,
peaks stand in the model's order (entry 23): every step keeps it. From R34, R33, R18, R24, R23, R20, R187,
R49, R51, R52, R61, R28. Rests on the model's own choice of log entries 11, 23. -/
def Obligations.TransfersAndWaitingItemsStaySound : Prop :=
  (∀ s t : State, s.transfersApart = true → step s = .next t → t.transfersApart = true) ∧
  ((∀ s t : State, s.waitingNeedsWork = true → step s = .next t → t.waitingNeedsWork = true) ∧
  (∀ s t : State, s.initQuiet = true → step s = .next t → t.initQuiet = true)) ∧
  (∀ s t : State, s.checkSound = true → s.directoryAgrees = true → s.recordAgrees = true →
    step s = .next t → t.checkSound = true)

/-- O51 (tier 3). A move is BOUND exactly when the pass record names it and CHECKING exactly when the engine
works on it: every step keeps it. From R11, R49, R127, R12. -/
def Obligations.BoundAndCheckingAgreeWithTheirHolders : Prop :=
  ∀ s t : State, s.directoryAgrees = true → s.recordAgrees = true → step s = .next t →
    t.directoryAgrees = true ∧ t.recordAgrees = true

/-- O52 (tier 3). Free blocks plus the blocks held by all tracks stay 512: every step keeps it. From R7, R8,
R25. -/
def Obligations.ThePoolStaysBalanced : Prop :=
  ∀ s t : State, s.poolBalanced = true → step s = .next t → t.poolBalanced = true

/-- O53 (tier 2). Every track stays in strictly increasing frame order inside its span with at most 2,048
keys: every step keeps it. From R3, R6, R35, R36. -/
def Obligations.TracksStaySound : Prop :=
  ∀ s t : State, s.tracksSound = true → step s = .next t → t.tracksSound = true

/-- O54 (tier 3). An axis is owned by PASS, PARK or HOME exactly when that owner holds it: every step keeps
it. From R94, R130, R147, R102. -/
def Obligations.OwnersStayInAgreement : Prop :=
  ∀ s t : State, s.ownersAgree = true → s.recordAgrees = true → step s = .next t →
    t.ownersAgree = true ∧ t.recordAgrees = true

/-- O55 (tier 2). Clock, camera run, exposure trigger, camera sync and report agree with the pass state:
every step keeps it. From R149, R150, R113, R144, R127. -/
def Obligations.OutputsStayInAgreement : Prop :=
  ∀ s t : State, s.outputsAgree = true → s.recordAgrees = true → step s = .next t →
    t.outputsAgree = true ∧ t.recordAgrees = true

/-- O56 (tier 2). While the E-stop is asserted every drive is OFF: every step keeps it. From R170, R171,
R91. -/
def Obligations.TheEstopHoldsEveryDriveOff : Prop :=
  ∀ s t : State, s.estopHolds = true → step s = .next t → t.estopHolds = true

/-- O57 (tier 3). The span, label and keys of a BOUND or protected move do not change, but for a hard reset
or an unprotect that waits. From R13, R11, R26, R47, R24. -/
def Obligations.HeldMovesKeepTheirContent : Prop :=
  ∀ s t : State, s.opSparesHeld = true → step s = .next t →
    t.opSparesHeld = true ∧
    (s.pending.head? ≠ some .hardReset → ∀ n m, s.move n = some m →
      m.state = .bound ∨
        (m.isProtected = true ∧ ∀ l e, (s.link l).held ≠ some (.command (.moveUnprotect n e))) →
      ∃ k, t.move n = some k ∧ m.sameContent k = true)

/-- O58 (tier 2). A check's result: the first failure of R52 with its track and frame, or the ceiling, the
greatest rate within every limit, with its axis, cause and extents. From R52, R54, R55, R56, R57, R58, R59,
R60, R61, R62, R63. -/
def Obligations.TheCeilingIsTheLargestSafeRate : Prop :=
  (∀ (m : Move) (limits : List AxisLimits) (sum : Summary), checkResult m limits = .certified sum →
    1000 ≤ sum.ceiling ∧ sum.ceiling ≤ 300000 ∧
    (∀ a lim, a ∈ m.presentAxes → limits.find? (fun x => decide (x.axis = a)) = some lim →
      let p := axisPeaks a (m.axisTrack a)
      sum.ceiling * p.velocity.value ≤ 1000 * lim.vmax ∧
      sum.ceiling * sum.ceiling * p.acceleration.value ≤ 1000000 * lim.amax ∧
      sum.ceiling * p.corner.value ≤ 1000 * lim.jmax) ∧
    (∀ a, sum.limitingAxis = .axis a →
      ∃ lim, limits.find? (fun x => decide (x.axis = a)) = some lim ∧
        let p := axisPeaks a (m.axisTrack a)
        match sum.cause with
        | .velocity => 1000 * lim.vmax < (sum.ceiling + 1) * p.velocity.value
        | .acceleration =>
          1000000 * lim.amax < (sum.ceiling + 1) * (sum.ceiling + 1) * p.acceleration.value
        | .corner => 1000 * lim.jmax < (sum.ceiling + 1) * p.corner.value
        | .deviceMax => False)) ∧
  (∀ (m : Move) (limits : List AxisLimits),
    let num (t : TrackId) : Nat := match t with
      | .axis a => a.val
      | .speed => 16
    let short (t : TrackId) (f : Nat) : Prop := m.frames t = [f]
    let off (t : TrackId) (f : Nat) : Prop := ∃ x y, (m.frames t).head? = some x ∧
      (m.frames t).getLast? = some y ∧ ((x ≠ m.first ∧ f = x) ∨ (x = m.first ∧ y ≠ m.last ∧ f = y))
    let unset (a : AxisId) : Prop := m.axisTrack a ≠ [] ∧ ∃ x ∈ limits, x.axis = a ∧ x.unset = true
    let within (a : AxisId) (q : Nat) : Prop :=
      ∀ lim, limits.find? (fun x => decide (x.axis = a)) = some lim →
        let p := axisPeaks a (m.axisTrack a)
        q * p.velocity.value ≤ 1000 * lim.vmax ∧ q * q * p.acceleration.value ≤ 1000000 * lim.amax ∧
        q * p.corner.value ≤ 1000 * lim.jmax
    let ceiling (a : AxisId) (q : Nat) (cause : LimitingCause) (f : Nat) : Prop :=
      within a q ∧ ∃ lim, limits.find? (fun x => decide (x.axis = a)) = some lim ∧
        let p := axisPeaks a (m.axisTrack a)
        if 1000 * lim.vmax < (q + 1) * p.velocity.value then cause = .velocity ∧ f = p.velocity.frame
        else if 1000000 * lim.amax < (q + 1) * (q + 1) * p.acceleration.value
          then cause = .acceleration ∧ f = p.acceleration.frame
        else 1000 * lim.jmax < (q + 1) * p.corner.value ∧ cause = .corner ∧ f = p.corner.frame
    let lowest (a : AxisId) (q : Nat) : Prop := m.axisTrack a ≠ [] ∧
      ∀ b, m.axisTrack b ≠ [] → within b q ∧ (b < a → within b (q + 1))
    let extents : List Extent :=
      (allAxes.filter (fun a => !(m.axisTrack a).isEmpty)).map (fun a => extentOf a (m.axisTrack a))
    let failed (why : FailReason) (t : Option TrackId) (f : Nat) : Prop :=
      checkResult m limits = .failed { reason := why, track := t, frame := f }
    ((∃ sum, checkResult m limits = .certified sum) ↔ (∃ a, m.axisTrack a ≠ []) ∧ (∀ t f, ¬short t f) ∧
      (∀ t f, ¬off t f) ∧ (∀ a, ¬unset a) ∧ ∀ a, m.axisTrack a ≠ [] → within a 1000) ∧
    ((∀ a, m.axisTrack a = []) → failed .emptyMove none 0) ∧
    ((∃ a, m.axisTrack a ≠ []) →
      (∀ t f, short t f → (∀ u g, short u g → num t ≤ num u) → failed .shortTrack (some t) f) ∧
      ((∀ t f, ¬short t f) →
        (∀ t f, off t f → (∀ u g, off u g → num t ≤ num u) → failed .span (some t) f) ∧
        ((∀ t f, ¬off t f) →
          (∀ a, unset a → (∀ b, unset b → a ≤ b) → failed .axisUnset (some (.axis a)) m.first) ∧
          ((∀ a, ¬unset a) →
            (∀ a q cause f, lowest a q → ceiling a q cause f →
              (q < 1000 → failed .tooSlow (some (.axis a)) f) ∧
              (1000 ≤ q → q ≤ 300000 → checkResult m limits = .certified
                { ceiling := q, limitingAxis := .axis a, cause := cause, frame := f,
                  extents := extents })) ∧
            ((∀ a, m.axisTrack a ≠ [] → within a 300001) → checkResult m limits = .certified
              { ceiling := 300000, limitingAxis := .device, cause := .deviceMax, frame := m.first,
                extents := extents })))))) ∧
  (∀ (a : AxisId) (keys : List AxisKey) (k : AxisKey), keys.getLast? = some k →
    let counts (v : Int) : Int := max (-1073741824) (min 1073741823 v)
    let vs : List Int := (segments (resolve keys)).flatMap
      (fun g => (List.range 64).map (fun i => counts (g.value (1024 * i)))) ++ [counts k.value]
    (extentOf a keys).axis = a ∧ (extentOf a keys).low ∈ vs ∧ (extentOf a keys).high ∈ vs ∧
    ∀ v ∈ vs, (extentOf a keys).low ≤ v ∧ v ≤ (extentOf a keys).high) ∧
  (∀ g : Segment, 0 < g.length →
    let len : Int := g.length
    let qa : Int := -6 * g.dv + 3 * len * g.m0 + 3 * len * g.m1
    let qb : Int := 6 * g.dv - 4 * len * g.m0 - 2 * len * g.m1
    let qc : Int := len * g.m0
    (∀ x, g.velocityPeak ≤ x ↔ g.m0.natAbs ≤ x ∧ g.m1.natAbs ≤ x ∧
      (qa ≠ 0 → 0 < -(qb * qa) → -(qb * qa) < 2 * (qa * qa) →
        (4 * qa * qc - qb * qb).natAbs ≤ x * (4 * qa.natAbs * g.length))) ∧
    (∀ x, g.accelerationPeak ≤ x ↔ qb.natAbs ≤ x * (g.length * g.length) ∧
      (-6 * g.dv + 2 * len * g.m0 + 4 * len * g.m1).natAbs ≤ x * (g.length * g.length))) ∧
  (∀ (a : AxisId) (keys : List AxisKey) (k : AxisKey), keys.head? = some k →
    let rs := resolve keys
    let top (p : Peak) (vs : List (Nat × Nat)) : Prop :=
      (p.value = 0 ∧ p.frame = k.frame ∧ ∀ v ∈ vs, v.1 = 0) ∨
      (0 < p.value ∧ ∃ before rest, vs = before ++ (p.value, p.frame) :: rest ∧
        (∀ v ∈ before, v.1 < p.value) ∧ ∀ v ∈ rest, v.1 ≤ p.value)
    (axisPeaks a keys).axis = a ∧
    top (axisPeaks a keys).velocity ((segments rs).map (fun g => (g.velocityPeak, g.start))) ∧
    top (axisPeaks a keys).acceleration ((segments rs).map (fun g => (g.accelerationPeak, g.start))) ∧
    top (axisPeaks a keys).corner (rs.mapIdx (fun i x =>
      (if i = 0 then x.outSlope.natAbs else if i + 1 = rs.length then x.inSlope.natAbs
        else (x.inSlope - x.outSlope).natAbs, x.frame))))

/-- O59 (tier 2). A track stands at each key's value at that key's frame, and at its end values outside its
span. From R70, R71, R72, R73, R74, R75. -/
def Obligations.TheCurveMeetsItsKeys : Prop :=
  ∀ keys : List AxisKey, increasing (keys.map (·.frame)) = true →
    (∀ k ∈ keys, trackRaw keys ((k.frame : Int) * 65536) = k.value) ∧
    (∀ k p, keys.head? = some k → p < (k.frame : Int) * 65536 → trackRaw keys p = k.value) ∧
    (∀ k p, keys.getLast? = some k → (k.frame : Int) * 65536 ≤ p → trackRaw keys p = k.value) ∧
    (∀ p o, trackValue keys p o = max (-1073741824) (min 1073741823 (trackRaw keys p + o)))

/-- O60 (tier 2). The ease meets its ends and is monotone; the searches find the integers their inequalities
name. From R77, R58, R78, R115. -/
def Obligations.EasesAndSearchesAreExact : Prop :=
  (∀ (d : Int) (n : Nat), 1 ≤ n →
    easeOffset d n 0 = 0 ∧ easeOffset d n n = d ∧
    (∀ k, k < n → (easeOffset d n k).natAbs ≤ (easeOffset d n (k + 1)).natAbs) ∧
    (∀ k, k ≤ n → (easeOffset d n k).natAbs ≤ d.natAbs) ∧
    (∀ k, easeOffset (-d) n k = -easeOffset d n k)) ∧
  ((∀ n : Nat, isqrt n * isqrt n ≤ n ∧ n < (isqrt n + 1) * (isqrt n + 1)) ∧
  (∀ hs q hp : Nat, 1 ≤ hp → q ≤ hp →
    stopTick hs q hp ≤ hs ∧ (hs - stopTick hs q hp) * hp ≤ q * hs ∧
    ∀ j, j < stopTick hs q hp → q * hs < (hs - j) * hp) ∧
  (∀ (d : Int) (vc ac : Nat), d ≠ 0 → 0 < vc → 0 < ac →
    let n := EaseTerm.duration { dist := d, vc := vc, ac := ac }
    (3000 * d.natAbs ≤ n * vc ∧ 24000000 * d.natAbs ≤ n * n * ac) ∧
    ∀ k, k < n → k * vc < 3000 * d.natAbs ∨ k * k * ac < 24000000 * d.natAbs))

end
end

