-- ==== Sys2Proof/Laws/Checks.lean ====
section
/-! SUPPORT. The work of a check, said once: what a piece of it can do, that it keeps a check sound, and that a
sound check ends in the result of checking its move (R49, R52, R61, R62). -/

namespace Sys2Proof.Machine

variable (m : Move) (c : CheckRun)

/-! ### What a piece of the work leaves alone -/

theorem CheckRun.work_eq :
    c.work m = { c with peaks := (c.work m).peaks, extents := (c.work m).extents } := by
  unfold CheckRun.work
  split
  · rfl
  · split
    · rfl
    · split
      · rfl
      · split <;> rfl

theorem CheckRun.works_eq (n : Nat) :
    c.works m n = { c with peaks := (c.works m n).peaks, extents := (c.works m n).extents } := by
  induction n generalizing c with
  | zero => rfl
  | succ n ih =>
    rw [CheckRun.works, ih, c.work_eq m]

@[simp] theorem CheckRun.works_slot (n : Nat) : (c.works m n).slot = c.slot := by rw [c.works_eq m n]
@[simp] theorem CheckRun.works_limits (n : Nat) : (c.works m n).limits = c.limits := by rw [c.works_eq m n]
@[simp] theorem CheckRun.works_elapsed (n : Nat) : (c.works m n).elapsed = c.elapsed := by
  rw [c.works_eq m n]

/-- A move that fails one of the reasons 1 to 4 of R52 has no peak formed. -/
theorem CheckRun.works_of_formFailure (h : (formFailure m c.limits).isSome) (n : Nat) :
    c.works m n = c := by
  induction n with
  | zero => rfl
  | succ n ih => rw [CheckRun.works, CheckRun.work, if_pos h, ih]

/-! ### What the work does to a sound check -/

theorem Move.presentAxes_length : m.presentAxes.length ≤ 16 := List.length_filter_le _ _

variable {m c}

theorem CheckRun.sound_iff : c.sound m = true ↔
    (c.peaks = peaksOf m (m.presentAxes.take c.peaks.length) ∧
      c.extents = extentsOf m (m.presentAxes.take c.extents.length)) ∧
    (c.peaks = [] ∨ formFailure m c.limits = none) ∧
    (c.extents = [] ∨ (c.peaks.length = m.presentAxes.length ∧ tooSlow c.limits c.peaks = none)) := by
  simp [CheckRun.sound, and_assoc]

/-- One piece of the work, said once: the next track's peaks, then the next track's extent. -/
theorem CheckRun.work_cases (hf : formFailure m c.limits = none) :
    (∃ a rest, m.presentAxes.drop c.peaks.length = a :: rest ∧
      c.work m = { c with peaks := c.peaks ++ [axisPeaks a (m.axisTrack a)] }) ∨
    (m.presentAxes.length ≤ c.peaks.length ∧ (tooSlow c.limits c.peaks).isSome ∧ c.work m = c) ∨
    (m.presentAxes.length ≤ c.peaks.length ∧ tooSlow c.limits c.peaks = none ∧
      ∃ a rest, m.presentAxes.drop c.extents.length = a :: rest ∧
        c.work m = { c with extents := c.extents ++ [extentOf a (m.axisTrack a)] }) ∨
    (m.presentAxes.length ≤ c.peaks.length ∧ tooSlow c.limits c.peaks = none ∧
      m.presentAxes.length ≤ c.extents.length ∧ c.work m = c) := by
  unfold CheckRun.work
  rw [hf]
  simp only [Option.isSome_none, Bool.false_eq_true, if_false]
  split
  · next a rest h => exact .inl ⟨a, rest, h, rfl⟩
  · next h =>
    have hp := List.drop_eq_nil_iff.1 h
    right
    cases ht : tooSlow c.limits c.peaks with
    | some f => exact .inl ⟨hp, rfl, by simp⟩
    | none =>
      right
      simp only [Option.isSome_none, Bool.false_eq_true, if_false]
      split
      · next a rest h => exact .inl ⟨hp, trivial, a, rest, h, rfl⟩
      · next h => exact .inr ⟨hp, trivial, List.drop_eq_nil_iff.1 h, rfl⟩

/-- The next track of a list joins those taken. -/
theorem take_succ_of_drop {α : Type} {l : List α} {n : Nat} {a : α} {rest : List α}
    (h : l.drop n = a :: rest) : l.take (n + 1) = l.take n ++ [a] ∧ n < l.length := by
  have hn : n < l.length := by
    by_contra hn
    simp [List.drop_eq_nil_iff.2 (by omega : l.length ≤ n)] at h
  refine ⟨?_, hn⟩
  have : l[n] = a := by
    have := congrArg List.head? h
    simpa [List.head?_drop, hn] using this
  simp [List.take_add_one, hn, this]

theorem CheckRun.work_sound (h : c.sound m = true) : (c.work m).sound m = true := by
  have h0 := h
  rw [CheckRun.sound_iff] at h
  obtain ⟨⟨hp, he⟩, hf, hx⟩ := h
  by_cases hff : formFailure m c.limits = none
  · rcases CheckRun.work_cases (c := c) hff with ⟨a, rest, hd, hw⟩ | ⟨-, -, hw⟩ | ⟨hl, ht, a, rest, hd, hw⟩ |
      ⟨-, -, -, hw⟩
    · obtain ⟨ht, hn⟩ := take_succ_of_drop hd
      have hx' : c.extents = [] := by
        rcases hx with hx | ⟨hx, -⟩
        · exact hx
        · omega
      rw [hw, CheckRun.sound_iff]
      refine ⟨⟨?_, by simp [hx', extentsOf]⟩, .inr hff, .inl hx'⟩
      simp only [List.length_append, List.length_singleton, ht]
      conv_lhs => rw [hp]
      simp [peaksOf]
    · rw [hw]; exact h0
    · obtain ⟨ht', hn⟩ := take_succ_of_drop hd
      have hpl : c.peaks.length = m.presentAxes.length := by
        have := congrArg List.length hp
        simp [peaksOf] at this
        omega
      rw [hw, CheckRun.sound_iff]
      refine ⟨⟨hp, ?_⟩, hf, .inr ⟨hpl, ht⟩⟩
      simp only [List.length_append, List.length_singleton, ht']
      conv_lhs => rw [he]
      simp [extentsOf]
    · rw [hw]; exact h0
  · have : c.work m = c := by
      have := CheckRun.works_of_formFailure m c (Option.isSome_iff_ne_none.2 hff) 1
      exact this
    rw [this]; exact h0

theorem CheckRun.works_sound (h : c.sound m = true) (n : Nat) : (c.works m n).sound m = true := by
  induction n generalizing c with
  | zero => exact h
  | succ n ih => exact ih (CheckRun.work_sound h)

/-- A check that has just begun is sound. -/
theorem CheckRun.begun_sound (slot : Nat) (limits : List AxisLimits) (e : Nat) :
    ({ slot := slot, limits := limits, peaks := [], extents := [], elapsed := e } : CheckRun).sound m =
      true := by
  simp [CheckRun.sound, peaksOf, extentsOf]

/-- Enough pieces of the work leave every peak formed, and every extent where the ceiling is high enough. -/
theorem CheckRun.works_complete (h : c.sound m = true) (hff : formFailure m c.limits = none) (n : Nat)
    (hn : (m.presentAxes.length - c.peaks.length) + (m.presentAxes.length - c.extents.length) ≤ n) :
    (c.works m n).peaks = peaksOf m m.presentAxes ∧
    (tooSlow c.limits (peaksOf m m.presentAxes) = none →
      (c.works m n).extents = extentsOf m m.presentAxes) := by
  induction n generalizing c with
  | zero =>
    obtain ⟨⟨hp, he⟩, -, -⟩ := CheckRun.sound_iff.1 h
    rw [List.take_of_length_le (by omega)] at hp he
    exact ⟨hp, fun _ => he⟩
  | succ n ih =>
    have hs := CheckRun.work_sound h
    have hl : (c.work m).limits = c.limits := by rw [c.work_eq m]
    rcases CheckRun.work_cases (c := c) hff with ⟨a, rest, hd, hw⟩ | ⟨hp', ht, hw⟩ | ⟨hp', ht, a, rest, hd, hw⟩ |
      ⟨hp', ht, he', hw⟩
    · have hlt := (take_succ_of_drop hd).2
      have := ih hs (hl.symm ▸ hff) (by rw [hw]; simp; omega)
      rwa [hl] at this
    · obtain ⟨⟨hp, he⟩, -, -⟩ := CheckRun.sound_iff.1 h
      rw [List.take_of_length_le hp'] at hp
      have hall : ∀ k, c.works m k = c := by
        intro k
        induction k with
        | zero => rfl
        | succ k ihk => rw [CheckRun.works, hw, ihk]
      rw [hall]
      refine ⟨hp, fun hn => ?_⟩
      rw [hp, hn] at ht
      cases ht
    · have hlt := (take_succ_of_drop hd).2
      have := ih hs (hl.symm ▸ hff) (by rw [hw]; simp; omega)
      rwa [hl] at this
    · have := ih hs (hl.symm ▸ hff) (by rw [hw]; omega)
      rwa [hl] at this

/-- The running peaks of a sound check become, at its end, the result of checking its move (R49, R52, R62). -/
theorem CheckRun.finish_result (h : c.sound m = true) :
    (c.finish m).result m = checkResult m c.limits := by
  unfold CheckRun.result checkResult CheckRun.finish
  rw [CheckRun.works_limits]
  cases hff : formFailure m c.limits with
  | some f => rfl
  | none =>
    have := Move.presentAxes_length m
    obtain ⟨hp, he⟩ := CheckRun.works_complete h hff 32 (by omega)
    rw [hp]
    cases ht : tooSlow c.limits (peaksOf m m.presentAxes) with
    | some f => simp
    | none => simp [he ht]

/-! ### The end of a check on the state -/

/-- While a soft reset waits for the store operation no check ends (R66). -/
@[simp] theorem State.endCheck_waiting {s : State} (h : s.resetWaiting = true) : s.endCheck = s := by
  unfold State.endCheck
  split <;> simp [h]

/-- Otherwise the move under check takes its result, the engine is IDLE, and CHECK_DONE is raised (R62, R63, R67). -/
theorem State.endCheck_ends {s : State} (hw : s.resetWaiting = false) (hc : s.check = some c)
    (hm : s.move c.slot = some m) (h : c.sound m = true) :
    s.endCheck = (({ s with check := none } : State).setMove c.slot (some (
      match checkResult m c.limits with
      | .certified sum => { m with state := .ready, summary := some sum, failure := none }
      | .failed f => { m with state := .opened, summary := none, failure := some f }))).raise .checkDone := by
  unfold State.endCheck
  rw [hc]
  dsimp only
  rw [if_neg (by simp [hw])]
  unfold State.onMove
  rw [show ({ s with check := none } : State).move c.slot = some m from hm]
  cases hr : checkResult m c.limits <;> simp [CheckRun.finish_result h, hr]

end Sys2Proof.Machine
end

