-- ==== Sys2Proof/Laws/State.lean ====
section
/-! SUPPORT. What each update of the state leaves alone: one lemma per field per update, so that no later
proof unfolds a record update. -/

namespace Sys2Proof.Machine

variable (s : State) (l : LinkId) (a : AxisId)

/-! ### setLink -/

@[simp] theorem State.setLink_phase (k : Link) : (s.setLink l k).phase = s.phase := by cases l <;> rfl
@[simp] theorem State.setLink_initTicks (k : Link) : (s.setLink l k).initTicks = s.initTicks := by cases l <;> rfl
@[simp] theorem State.setLink_slots (k : Link) : (s.setLink l k).slots = s.slots := by cases l <;> rfl
@[simp] theorem State.setLink_free (k : Link) : (s.setLink l k).free = s.free := by cases l <;> rfl
@[simp] theorem State.setLink_edit (k : Link) : (s.setLink l k).edit = s.edit := by cases l <;> rfl
@[simp] theorem State.setLink_check (k : Link) : (s.setLink l k).check = s.check := by cases l <;> rfl
@[simp] theorem State.setLink_axes (k : Link) : (s.setLink l k).axes = s.axes := by cases l <;> rfl
@[simp] theorem State.setLink_park (k : Link) : (s.setLink l k).park = s.park := by cases l <;> rfl
@[simp] theorem State.setLink_clock (k : Link) : (s.setLink l k).clock = s.clock := by cases l <;> rfl
@[simp] theorem State.setLink_pass (k : Link) : (s.setLink l k).pass = s.pass := by cases l <;> rfl
@[simp] theorem State.setLink_estop (k : Link) : (s.setLink l k).estop = s.estop := by cases l <;> rfl
@[simp] theorem State.setLink_supplyLevel (k : Link) : (s.setLink l k).supplyLevel = s.supplyLevel := by cases l <;> rfl
@[simp] theorem State.setLink_supplyAction (k : Link) : (s.setLink l k).supplyAction = s.supplyAction := by cases l <;> rfl
@[simp] theorem State.setLink_supplyLow (k : Link) : (s.setLink l k).supplyLow = s.supplyLow := by cases l <;> rfl
@[simp] theorem State.setLink_supplyTenths (k : Link) : (s.setLink l k).supplyTenths = s.supplyTenths := by cases l <;> rfl
@[simp] theorem State.setLink_resetWaiting (k : Link) : (s.setLink l k).resetWaiting = s.resetWaiting := by cases l <;> rfl
@[simp] theorem State.setLink_refClock (k : Link) : (s.setLink l k).refClock = s.refClock := by cases l <;> rfl
@[simp] theorem State.setLink_freeIx (k : Link) : (s.setLink l k).freeIx = s.freeIx := by cases l <;> rfl
@[simp] theorem State.setLink_pending (k : Link) : (s.setLink l k).pending = s.pending := by cases l <;> rfl

/-! ### onLink -/

@[simp] theorem State.onLink_phase (f : Link → Link) : (s.onLink l f).phase = s.phase := by cases l <;> rfl
@[simp] theorem State.onLink_initTicks (f : Link → Link) : (s.onLink l f).initTicks = s.initTicks := by cases l <;> rfl
@[simp] theorem State.onLink_slots (f : Link → Link) : (s.onLink l f).slots = s.slots := by cases l <;> rfl
@[simp] theorem State.onLink_free (f : Link → Link) : (s.onLink l f).free = s.free := by cases l <;> rfl
@[simp] theorem State.onLink_edit (f : Link → Link) : (s.onLink l f).edit = s.edit := by cases l <;> rfl
@[simp] theorem State.onLink_check (f : Link → Link) : (s.onLink l f).check = s.check := by cases l <;> rfl
@[simp] theorem State.onLink_axes (f : Link → Link) : (s.onLink l f).axes = s.axes := by cases l <;> rfl
@[simp] theorem State.onLink_park (f : Link → Link) : (s.onLink l f).park = s.park := by cases l <;> rfl
@[simp] theorem State.onLink_clock (f : Link → Link) : (s.onLink l f).clock = s.clock := by cases l <;> rfl
@[simp] theorem State.onLink_pass (f : Link → Link) : (s.onLink l f).pass = s.pass := by cases l <;> rfl
@[simp] theorem State.onLink_estop (f : Link → Link) : (s.onLink l f).estop = s.estop := by cases l <;> rfl
@[simp] theorem State.onLink_supplyLevel (f : Link → Link) : (s.onLink l f).supplyLevel = s.supplyLevel := by cases l <;> rfl
@[simp] theorem State.onLink_supplyAction (f : Link → Link) : (s.onLink l f).supplyAction = s.supplyAction := by cases l <;> rfl
@[simp] theorem State.onLink_supplyLow (f : Link → Link) : (s.onLink l f).supplyLow = s.supplyLow := by cases l <;> rfl
@[simp] theorem State.onLink_supplyTenths (f : Link → Link) : (s.onLink l f).supplyTenths = s.supplyTenths := by cases l <;> rfl
@[simp] theorem State.onLink_resetWaiting (f : Link → Link) : (s.onLink l f).resetWaiting = s.resetWaiting := by cases l <;> rfl
@[simp] theorem State.onLink_refClock (f : Link → Link) : (s.onLink l f).refClock = s.refClock := by cases l <;> rfl
@[simp] theorem State.onLink_freeIx (f : Link → Link) : (s.onLink l f).freeIx = s.freeIx := by cases l <;> rfl
@[simp] theorem State.onLink_pending (f : Link → Link) : (s.onLink l f).pending = s.pending := by cases l <;> rfl

/-! ### onLinks -/

@[simp] theorem State.onLinks_phase (f : Link → Link) : (s.onLinks f).phase = s.phase := rfl
@[simp] theorem State.onLinks_initTicks (f : Link → Link) : (s.onLinks f).initTicks = s.initTicks := rfl
@[simp] theorem State.onLinks_slots (f : Link → Link) : (s.onLinks f).slots = s.slots := rfl
@[simp] theorem State.onLinks_free (f : Link → Link) : (s.onLinks f).free = s.free := rfl
@[simp] theorem State.onLinks_edit (f : Link → Link) : (s.onLinks f).edit = s.edit := rfl
@[simp] theorem State.onLinks_check (f : Link → Link) : (s.onLinks f).check = s.check := rfl
@[simp] theorem State.onLinks_axes (f : Link → Link) : (s.onLinks f).axes = s.axes := rfl
@[simp] theorem State.onLinks_park (f : Link → Link) : (s.onLinks f).park = s.park := rfl
@[simp] theorem State.onLinks_clock (f : Link → Link) : (s.onLinks f).clock = s.clock := rfl
@[simp] theorem State.onLinks_pass (f : Link → Link) : (s.onLinks f).pass = s.pass := rfl
@[simp] theorem State.onLinks_estop (f : Link → Link) : (s.onLinks f).estop = s.estop := rfl
@[simp] theorem State.onLinks_supplyLevel (f : Link → Link) : (s.onLinks f).supplyLevel = s.supplyLevel := rfl
@[simp] theorem State.onLinks_supplyAction (f : Link → Link) : (s.onLinks f).supplyAction = s.supplyAction := rfl
@[simp] theorem State.onLinks_supplyLow (f : Link → Link) : (s.onLinks f).supplyLow = s.supplyLow := rfl
@[simp] theorem State.onLinks_supplyTenths (f : Link → Link) : (s.onLinks f).supplyTenths = s.supplyTenths := rfl
@[simp] theorem State.onLinks_resetWaiting (f : Link → Link) : (s.onLinks f).resetWaiting = s.resetWaiting := rfl
@[simp] theorem State.onLinks_refClock (f : Link → Link) : (s.onLinks f).refClock = s.refClock := rfl
@[simp] theorem State.onLinks_freeIx (f : Link → Link) : (s.onLinks f).freeIx = s.freeIx := rfl
@[simp] theorem State.onLinks_pending (f : Link → Link) : (s.onLinks f).pending = s.pending := rfl

/-! ### setAxis -/

@[simp] theorem State.setAxis_phase (x : Axis) : (s.setAxis a x).phase = s.phase := rfl
@[simp] theorem State.setAxis_initTicks (x : Axis) : (s.setAxis a x).initTicks = s.initTicks := rfl
@[simp] theorem State.setAxis_slots (x : Axis) : (s.setAxis a x).slots = s.slots := rfl
@[simp] theorem State.setAxis_free (x : Axis) : (s.setAxis a x).free = s.free := rfl
@[simp] theorem State.setAxis_edit (x : Axis) : (s.setAxis a x).edit = s.edit := rfl
@[simp] theorem State.setAxis_check (x : Axis) : (s.setAxis a x).check = s.check := rfl
@[simp] theorem State.setAxis_park (x : Axis) : (s.setAxis a x).park = s.park := rfl
@[simp] theorem State.setAxis_clock (x : Axis) : (s.setAxis a x).clock = s.clock := rfl
@[simp] theorem State.setAxis_pass (x : Axis) : (s.setAxis a x).pass = s.pass := rfl
@[simp] theorem State.setAxis_estop (x : Axis) : (s.setAxis a x).estop = s.estop := rfl
@[simp] theorem State.setAxis_supplyLevel (x : Axis) : (s.setAxis a x).supplyLevel = s.supplyLevel := rfl
@[simp] theorem State.setAxis_supplyAction (x : Axis) : (s.setAxis a x).supplyAction = s.supplyAction := rfl
@[simp] theorem State.setAxis_supplyLow (x : Axis) : (s.setAxis a x).supplyLow = s.supplyLow := rfl
@[simp] theorem State.setAxis_supplyTenths (x : Axis) : (s.setAxis a x).supplyTenths = s.supplyTenths := rfl
@[simp] theorem State.setAxis_linkA (x : Axis) : (s.setAxis a x).linkA = s.linkA := rfl
@[simp] theorem State.setAxis_linkB (x : Axis) : (s.setAxis a x).linkB = s.linkB := rfl
@[simp] theorem State.setAxis_resetWaiting (x : Axis) : (s.setAxis a x).resetWaiting = s.resetWaiting := rfl
@[simp] theorem State.setAxis_refClock (x : Axis) : (s.setAxis a x).refClock = s.refClock := rfl
@[simp] theorem State.setAxis_freeIx (x : Axis) : (s.setAxis a x).freeIx = s.freeIx := rfl
@[simp] theorem State.setAxis_pending (x : Axis) : (s.setAxis a x).pending = s.pending := rfl

/-! ### onAxis -/

@[simp] theorem State.onAxis_phase (f : Axis → Axis) : (s.onAxis a f).phase = s.phase := rfl
@[simp] theorem State.onAxis_initTicks (f : Axis → Axis) : (s.onAxis a f).initTicks = s.initTicks := rfl
@[simp] theorem State.onAxis_slots (f : Axis → Axis) : (s.onAxis a f).slots = s.slots := rfl
@[simp] theorem State.onAxis_free (f : Axis → Axis) : (s.onAxis a f).free = s.free := rfl
@[simp] theorem State.onAxis_edit (f : Axis → Axis) : (s.onAxis a f).edit = s.edit := rfl
@[simp] theorem State.onAxis_check (f : Axis → Axis) : (s.onAxis a f).check = s.check := rfl
@[simp] theorem State.onAxis_park (f : Axis → Axis) : (s.onAxis a f).park = s.park := rfl
@[simp] theorem State.onAxis_clock (f : Axis → Axis) : (s.onAxis a f).clock = s.clock := rfl
@[simp] theorem State.onAxis_pass (f : Axis → Axis) : (s.onAxis a f).pass = s.pass := rfl
@[simp] theorem State.onAxis_estop (f : Axis → Axis) : (s.onAxis a f).estop = s.estop := rfl
@[simp] theorem State.onAxis_supplyLevel (f : Axis → Axis) : (s.onAxis a f).supplyLevel = s.supplyLevel := rfl
@[simp] theorem State.onAxis_supplyAction (f : Axis → Axis) : (s.onAxis a f).supplyAction = s.supplyAction := rfl
@[simp] theorem State.onAxis_supplyLow (f : Axis → Axis) : (s.onAxis a f).supplyLow = s.supplyLow := rfl
@[simp] theorem State.onAxis_supplyTenths (f : Axis → Axis) : (s.onAxis a f).supplyTenths = s.supplyTenths := rfl
@[simp] theorem State.onAxis_linkA (f : Axis → Axis) : (s.onAxis a f).linkA = s.linkA := rfl
@[simp] theorem State.onAxis_linkB (f : Axis → Axis) : (s.onAxis a f).linkB = s.linkB := rfl
@[simp] theorem State.onAxis_resetWaiting (f : Axis → Axis) : (s.onAxis a f).resetWaiting = s.resetWaiting := rfl
@[simp] theorem State.onAxis_refClock (f : Axis → Axis) : (s.onAxis a f).refClock = s.refClock := rfl
@[simp] theorem State.onAxis_freeIx (f : Axis → Axis) : (s.onAxis a f).freeIx = s.freeIx := rfl
@[simp] theorem State.onAxis_pending (f : Axis → Axis) : (s.onAxis a f).pending = s.pending := rfl

/-! ### onAxes -/

@[simp] theorem State.onAxes_phase (f : Axis → Axis) : (s.onAxes f).phase = s.phase := rfl
@[simp] theorem State.onAxes_initTicks (f : Axis → Axis) : (s.onAxes f).initTicks = s.initTicks := rfl
@[simp] theorem State.onAxes_slots (f : Axis → Axis) : (s.onAxes f).slots = s.slots := rfl
@[simp] theorem State.onAxes_free (f : Axis → Axis) : (s.onAxes f).free = s.free := rfl
@[simp] theorem State.onAxes_edit (f : Axis → Axis) : (s.onAxes f).edit = s.edit := rfl
@[simp] theorem State.onAxes_check (f : Axis → Axis) : (s.onAxes f).check = s.check := rfl
@[simp] theorem State.onAxes_park (f : Axis → Axis) : (s.onAxes f).park = s.park := rfl
@[simp] theorem State.onAxes_clock (f : Axis → Axis) : (s.onAxes f).clock = s.clock := rfl
@[simp] theorem State.onAxes_pass (f : Axis → Axis) : (s.onAxes f).pass = s.pass := rfl
@[simp] theorem State.onAxes_estop (f : Axis → Axis) : (s.onAxes f).estop = s.estop := rfl
@[simp] theorem State.onAxes_supplyLevel (f : Axis → Axis) : (s.onAxes f).supplyLevel = s.supplyLevel := rfl
@[simp] theorem State.onAxes_supplyAction (f : Axis → Axis) : (s.onAxes f).supplyAction = s.supplyAction := rfl
@[simp] theorem State.onAxes_supplyLow (f : Axis → Axis) : (s.onAxes f).supplyLow = s.supplyLow := rfl
@[simp] theorem State.onAxes_supplyTenths (f : Axis → Axis) : (s.onAxes f).supplyTenths = s.supplyTenths := rfl
@[simp] theorem State.onAxes_linkA (f : Axis → Axis) : (s.onAxes f).linkA = s.linkA := rfl
@[simp] theorem State.onAxes_linkB (f : Axis → Axis) : (s.onAxes f).linkB = s.linkB := rfl
@[simp] theorem State.onAxes_resetWaiting (f : Axis → Axis) : (s.onAxes f).resetWaiting = s.resetWaiting := rfl
@[simp] theorem State.onAxes_refClock (f : Axis → Axis) : (s.onAxes f).refClock = s.refClock := rfl
@[simp] theorem State.onAxes_freeIx (f : Axis → Axis) : (s.onAxes f).freeIx = s.freeIx := rfl
@[simp] theorem State.onAxes_pending (f : Axis → Axis) : (s.onAxes f).pending = s.pending := rfl

/-! ### withClock -/

@[simp] theorem State.withClock_phase (c : Clock) : (s.withClock c).phase = s.phase := rfl
@[simp] theorem State.withClock_initTicks (c : Clock) : (s.withClock c).initTicks = s.initTicks := rfl
@[simp] theorem State.withClock_slots (c : Clock) : (s.withClock c).slots = s.slots := rfl
@[simp] theorem State.withClock_free (c : Clock) : (s.withClock c).free = s.free := rfl
@[simp] theorem State.withClock_edit (c : Clock) : (s.withClock c).edit = s.edit := rfl
@[simp] theorem State.withClock_check (c : Clock) : (s.withClock c).check = s.check := rfl
@[simp] theorem State.withClock_axes (c : Clock) : (s.withClock c).axes = s.axes := rfl
@[simp] theorem State.withClock_park (c : Clock) : (s.withClock c).park = s.park := rfl
@[simp] theorem State.withClock_pass (c : Clock) : (s.withClock c).pass = s.pass := rfl
@[simp] theorem State.withClock_estop (c : Clock) : (s.withClock c).estop = s.estop := rfl
@[simp] theorem State.withClock_supplyLevel (c : Clock) : (s.withClock c).supplyLevel = s.supplyLevel := rfl
@[simp] theorem State.withClock_supplyAction (c : Clock) : (s.withClock c).supplyAction = s.supplyAction := rfl
@[simp] theorem State.withClock_supplyLow (c : Clock) : (s.withClock c).supplyLow = s.supplyLow := rfl
@[simp] theorem State.withClock_supplyTenths (c : Clock) : (s.withClock c).supplyTenths = s.supplyTenths := rfl
@[simp] theorem State.withClock_linkA (c : Clock) : (s.withClock c).linkA = s.linkA := rfl
@[simp] theorem State.withClock_linkB (c : Clock) : (s.withClock c).linkB = s.linkB := rfl
@[simp] theorem State.withClock_resetWaiting (c : Clock) : (s.withClock c).resetWaiting = s.resetWaiting := rfl
@[simp] theorem State.withClock_refClock (c : Clock) : (s.withClock c).refClock = s.refClock := rfl
@[simp] theorem State.withClock_freeIx (c : Clock) : (s.withClock c).freeIx = s.freeIx := rfl
@[simp] theorem State.withClock_pending (c : Clock) : (s.withClock c).pending = s.pending := rfl

/-! ### withPass -/

@[simp] theorem State.withPass_phase (p : Pass) : (s.withPass p).phase = s.phase := rfl
@[simp] theorem State.withPass_initTicks (p : Pass) : (s.withPass p).initTicks = s.initTicks := rfl
@[simp] theorem State.withPass_slots (p : Pass) : (s.withPass p).slots = s.slots := rfl
@[simp] theorem State.withPass_free (p : Pass) : (s.withPass p).free = s.free := rfl
@[simp] theorem State.withPass_edit (p : Pass) : (s.withPass p).edit = s.edit := rfl
@[simp] theorem State.withPass_check (p : Pass) : (s.withPass p).check = s.check := rfl
@[simp] theorem State.withPass_axes (p : Pass) : (s.withPass p).axes = s.axes := rfl
@[simp] theorem State.withPass_park (p : Pass) : (s.withPass p).park = s.park := rfl
@[simp] theorem State.withPass_clock (p : Pass) : (s.withPass p).clock = s.clock := rfl
@[simp] theorem State.withPass_estop (p : Pass) : (s.withPass p).estop = s.estop := rfl
@[simp] theorem State.withPass_supplyLevel (p : Pass) : (s.withPass p).supplyLevel = s.supplyLevel := rfl
@[simp] theorem State.withPass_supplyAction (p : Pass) : (s.withPass p).supplyAction = s.supplyAction := rfl
@[simp] theorem State.withPass_supplyLow (p : Pass) : (s.withPass p).supplyLow = s.supplyLow := rfl
@[simp] theorem State.withPass_supplyTenths (p : Pass) : (s.withPass p).supplyTenths = s.supplyTenths := rfl
@[simp] theorem State.withPass_linkA (p : Pass) : (s.withPass p).linkA = s.linkA := rfl
@[simp] theorem State.withPass_linkB (p : Pass) : (s.withPass p).linkB = s.linkB := rfl
@[simp] theorem State.withPass_resetWaiting (p : Pass) : (s.withPass p).resetWaiting = s.resetWaiting := rfl
@[simp] theorem State.withPass_refClock (p : Pass) : (s.withPass p).refClock = s.refClock := rfl
@[simp] theorem State.withPass_freeIx (p : Pass) : (s.withPass p).freeIx = s.freeIx := rfl
@[simp] theorem State.withPass_pending (p : Pass) : (s.withPass p).pending = s.pending := rfl

/-! ### withStepping -/

@[simp] theorem State.withStepping_phase (t : Stepping) : (s.withStepping t).phase = s.phase := rfl
@[simp] theorem State.withStepping_initTicks (t : Stepping) : (s.withStepping t).initTicks = s.initTicks := rfl
@[simp] theorem State.withStepping_slots (t : Stepping) : (s.withStepping t).slots = s.slots := rfl
@[simp] theorem State.withStepping_free (t : Stepping) : (s.withStepping t).free = s.free := rfl
@[simp] theorem State.withStepping_edit (t : Stepping) : (s.withStepping t).edit = s.edit := rfl
@[simp] theorem State.withStepping_check (t : Stepping) : (s.withStepping t).check = s.check := rfl
@[simp] theorem State.withStepping_axes (t : Stepping) : (s.withStepping t).axes = s.axes := rfl
@[simp] theorem State.withStepping_park (t : Stepping) : (s.withStepping t).park = s.park := rfl
@[simp] theorem State.withStepping_clock (t : Stepping) : (s.withStepping t).clock = s.clock := rfl
@[simp] theorem State.withStepping_estop (t : Stepping) : (s.withStepping t).estop = s.estop := rfl
@[simp] theorem State.withStepping_supplyLevel (t : Stepping) : (s.withStepping t).supplyLevel = s.supplyLevel := rfl
@[simp] theorem State.withStepping_supplyAction (t : Stepping) : (s.withStepping t).supplyAction = s.supplyAction := rfl
@[simp] theorem State.withStepping_supplyLow (t : Stepping) : (s.withStepping t).supplyLow = s.supplyLow := rfl
@[simp] theorem State.withStepping_supplyTenths (t : Stepping) : (s.withStepping t).supplyTenths = s.supplyTenths := rfl
@[simp] theorem State.withStepping_linkA (t : Stepping) : (s.withStepping t).linkA = s.linkA := rfl
@[simp] theorem State.withStepping_linkB (t : Stepping) : (s.withStepping t).linkB = s.linkB := rfl
@[simp] theorem State.withStepping_resetWaiting (t : Stepping) : (s.withStepping t).resetWaiting = s.resetWaiting := rfl
@[simp] theorem State.withStepping_refClock (t : Stepping) : (s.withStepping t).refClock = s.refClock := rfl
@[simp] theorem State.withStepping_freeIx (t : Stepping) : (s.withStepping t).freeIx = s.freeIx := rfl
@[simp] theorem State.withStepping_pending (t : Stepping) : (s.withStepping t).pending = s.pending := rfl

/-! ### setMove -/

@[simp] theorem State.setMove_phase (n : Nat) (m : Option Move) : (s.setMove n m).phase = s.phase := by unfold State.setMove; split <;> rfl
@[simp] theorem State.setMove_initTicks (n : Nat) (m : Option Move) : (s.setMove n m).initTicks = s.initTicks := by unfold State.setMove; split <;> rfl
@[simp] theorem State.setMove_free (n : Nat) (m : Option Move) : (s.setMove n m).free = s.free := by unfold State.setMove; split <;> rfl
@[simp] theorem State.setMove_edit (n : Nat) (m : Option Move) : (s.setMove n m).edit = s.edit := by unfold State.setMove; split <;> rfl
@[simp] theorem State.setMove_check (n : Nat) (m : Option Move) : (s.setMove n m).check = s.check := by unfold State.setMove; split <;> rfl
@[simp] theorem State.setMove_axes (n : Nat) (m : Option Move) : (s.setMove n m).axes = s.axes := by unfold State.setMove; split <;> rfl
@[simp] theorem State.setMove_park (n : Nat) (m : Option Move) : (s.setMove n m).park = s.park := by unfold State.setMove; split <;> rfl
@[simp] theorem State.setMove_clock (n : Nat) (m : Option Move) : (s.setMove n m).clock = s.clock := by unfold State.setMove; split <;> rfl
@[simp] theorem State.setMove_pass (n : Nat) (m : Option Move) : (s.setMove n m).pass = s.pass := by unfold State.setMove; split <;> rfl
@[simp] theorem State.setMove_estop (n : Nat) (m : Option Move) : (s.setMove n m).estop = s.estop := by unfold State.setMove; split <;> rfl
@[simp] theorem State.setMove_supplyLevel (n : Nat) (m : Option Move) : (s.setMove n m).supplyLevel = s.supplyLevel := by unfold State.setMove; split <;> rfl
@[simp] theorem State.setMove_supplyAction (n : Nat) (m : Option Move) : (s.setMove n m).supplyAction = s.supplyAction := by unfold State.setMove; split <;> rfl
@[simp] theorem State.setMove_supplyLow (n : Nat) (m : Option Move) : (s.setMove n m).supplyLow = s.supplyLow := by unfold State.setMove; split <;> rfl
@[simp] theorem State.setMove_supplyTenths (n : Nat) (m : Option Move) : (s.setMove n m).supplyTenths = s.supplyTenths := by unfold State.setMove; split <;> rfl
@[simp] theorem State.setMove_linkA (n : Nat) (m : Option Move) : (s.setMove n m).linkA = s.linkA := by unfold State.setMove; split <;> rfl
@[simp] theorem State.setMove_linkB (n : Nat) (m : Option Move) : (s.setMove n m).linkB = s.linkB := by unfold State.setMove; split <;> rfl
@[simp] theorem State.setMove_resetWaiting (n : Nat) (m : Option Move) : (s.setMove n m).resetWaiting = s.resetWaiting := by unfold State.setMove; split <;> rfl
@[simp] theorem State.setMove_refClock (n : Nat) (m : Option Move) : (s.setMove n m).refClock = s.refClock := by unfold State.setMove; split <;> rfl
@[simp] theorem State.setMove_freeIx (n : Nat) (m : Option Move) : (s.setMove n m).freeIx = s.freeIx := by unfold State.setMove; split <;> rfl
@[simp] theorem State.setMove_pending (n : Nat) (m : Option Move) : (s.setMove n m).pending = s.pending := by unfold State.setMove; split <;> rfl

/-! ### onMove -/

@[simp] theorem State.onMove_phase (n : Nat) (f : Move → Move) : (s.onMove n f).phase = s.phase := by unfold State.onMove State.setMove; split <;> rfl
@[simp] theorem State.onMove_initTicks (n : Nat) (f : Move → Move) : (s.onMove n f).initTicks = s.initTicks := by unfold State.onMove State.setMove; split <;> rfl
@[simp] theorem State.onMove_free (n : Nat) (f : Move → Move) : (s.onMove n f).free = s.free := by unfold State.onMove State.setMove; split <;> rfl
@[simp] theorem State.onMove_edit (n : Nat) (f : Move → Move) : (s.onMove n f).edit = s.edit := by unfold State.onMove State.setMove; split <;> rfl
@[simp] theorem State.onMove_check (n : Nat) (f : Move → Move) : (s.onMove n f).check = s.check := by unfold State.onMove State.setMove; split <;> rfl
@[simp] theorem State.onMove_axes (n : Nat) (f : Move → Move) : (s.onMove n f).axes = s.axes := by unfold State.onMove State.setMove; split <;> rfl
@[simp] theorem State.onMove_park (n : Nat) (f : Move → Move) : (s.onMove n f).park = s.park := by unfold State.onMove State.setMove; split <;> rfl
@[simp] theorem State.onMove_clock (n : Nat) (f : Move → Move) : (s.onMove n f).clock = s.clock := by unfold State.onMove State.setMove; split <;> rfl
@[simp] theorem State.onMove_pass (n : Nat) (f : Move → Move) : (s.onMove n f).pass = s.pass := by unfold State.onMove State.setMove; split <;> rfl
@[simp] theorem State.onMove_estop (n : Nat) (f : Move → Move) : (s.onMove n f).estop = s.estop := by unfold State.onMove State.setMove; split <;> rfl
@[simp] theorem State.onMove_supplyLevel (n : Nat) (f : Move → Move) : (s.onMove n f).supplyLevel = s.supplyLevel := by unfold State.onMove State.setMove; split <;> rfl
@[simp] theorem State.onMove_supplyAction (n : Nat) (f : Move → Move) : (s.onMove n f).supplyAction = s.supplyAction := by unfold State.onMove State.setMove; split <;> rfl
@[simp] theorem State.onMove_supplyLow (n : Nat) (f : Move → Move) : (s.onMove n f).supplyLow = s.supplyLow := by unfold State.onMove State.setMove; split <;> rfl
@[simp] theorem State.onMove_supplyTenths (n : Nat) (f : Move → Move) : (s.onMove n f).supplyTenths = s.supplyTenths := by unfold State.onMove State.setMove; split <;> rfl
@[simp] theorem State.onMove_linkA (n : Nat) (f : Move → Move) : (s.onMove n f).linkA = s.linkA := by unfold State.onMove State.setMove; split <;> rfl
@[simp] theorem State.onMove_linkB (n : Nat) (f : Move → Move) : (s.onMove n f).linkB = s.linkB := by unfold State.onMove State.setMove; split <;> rfl
@[simp] theorem State.onMove_resetWaiting (n : Nat) (f : Move → Move) : (s.onMove n f).resetWaiting = s.resetWaiting := by unfold State.onMove State.setMove; split <;> rfl
@[simp] theorem State.onMove_refClock (n : Nat) (f : Move → Move) : (s.onMove n f).refClock = s.refClock := by unfold State.onMove State.setMove; split <;> rfl
@[simp] theorem State.onMove_freeIx (n : Nat) (f : Move → Move) : (s.onMove n f).freeIx = s.freeIx := by unfold State.onMove State.setMove; split <;> rfl
@[simp] theorem State.onMove_pending (n : Nat) (f : Move → Move) : (s.onMove n f).pending = s.pending := by unfold State.onMove State.setMove; split <;> rfl

/-! ### onMoves -/

@[simp] theorem State.onMoves_phase (f : Move → Move) : (s.onMoves f).phase = s.phase := rfl
@[simp] theorem State.onMoves_initTicks (f : Move → Move) : (s.onMoves f).initTicks = s.initTicks := rfl
@[simp] theorem State.onMoves_free (f : Move → Move) : (s.onMoves f).free = s.free := rfl
@[simp] theorem State.onMoves_edit (f : Move → Move) : (s.onMoves f).edit = s.edit := rfl
@[simp] theorem State.onMoves_check (f : Move → Move) : (s.onMoves f).check = s.check := rfl
@[simp] theorem State.onMoves_axes (f : Move → Move) : (s.onMoves f).axes = s.axes := rfl
@[simp] theorem State.onMoves_park (f : Move → Move) : (s.onMoves f).park = s.park := rfl
@[simp] theorem State.onMoves_clock (f : Move → Move) : (s.onMoves f).clock = s.clock := rfl
@[simp] theorem State.onMoves_pass (f : Move → Move) : (s.onMoves f).pass = s.pass := rfl
@[simp] theorem State.onMoves_estop (f : Move → Move) : (s.onMoves f).estop = s.estop := rfl
@[simp] theorem State.onMoves_supplyLevel (f : Move → Move) : (s.onMoves f).supplyLevel = s.supplyLevel := rfl
@[simp] theorem State.onMoves_supplyAction (f : Move → Move) : (s.onMoves f).supplyAction = s.supplyAction := rfl
@[simp] theorem State.onMoves_supplyLow (f : Move → Move) : (s.onMoves f).supplyLow = s.supplyLow := rfl
@[simp] theorem State.onMoves_supplyTenths (f : Move → Move) : (s.onMoves f).supplyTenths = s.supplyTenths := rfl
@[simp] theorem State.onMoves_linkA (f : Move → Move) : (s.onMoves f).linkA = s.linkA := rfl
@[simp] theorem State.onMoves_linkB (f : Move → Move) : (s.onMoves f).linkB = s.linkB := rfl
@[simp] theorem State.onMoves_resetWaiting (f : Move → Move) : (s.onMoves f).resetWaiting = s.resetWaiting := rfl
@[simp] theorem State.onMoves_refClock (f : Move → Move) : (s.onMoves f).refClock = s.refClock := rfl
@[simp] theorem State.onMoves_freeIx (f : Move → Move) : (s.onMoves f).freeIx = s.freeIx := rfl
@[simp] theorem State.onMoves_pending (f : Move → Move) : (s.onMoves f).pending = s.pending := rfl

/-! ### answer -/

@[simp] theorem State.answer_phase (x : Answer) : (s.answer l x).phase = s.phase := by cases l <;> rfl
@[simp] theorem State.answer_initTicks (x : Answer) : (s.answer l x).initTicks = s.initTicks := by cases l <;> rfl
@[simp] theorem State.answer_slots (x : Answer) : (s.answer l x).slots = s.slots := by cases l <;> rfl
@[simp] theorem State.answer_free (x : Answer) : (s.answer l x).free = s.free := by cases l <;> rfl
@[simp] theorem State.answer_edit (x : Answer) : (s.answer l x).edit = s.edit := by cases l <;> rfl
@[simp] theorem State.answer_check (x : Answer) : (s.answer l x).check = s.check := by cases l <;> rfl
@[simp] theorem State.answer_axes (x : Answer) : (s.answer l x).axes = s.axes := by cases l <;> rfl
@[simp] theorem State.answer_park (x : Answer) : (s.answer l x).park = s.park := by cases l <;> rfl
@[simp] theorem State.answer_clock (x : Answer) : (s.answer l x).clock = s.clock := by cases l <;> rfl
@[simp] theorem State.answer_pass (x : Answer) : (s.answer l x).pass = s.pass := by cases l <;> rfl
@[simp] theorem State.answer_estop (x : Answer) : (s.answer l x).estop = s.estop := by cases l <;> rfl
@[simp] theorem State.answer_supplyLevel (x : Answer) : (s.answer l x).supplyLevel = s.supplyLevel := by cases l <;> rfl
@[simp] theorem State.answer_supplyAction (x : Answer) : (s.answer l x).supplyAction = s.supplyAction := by cases l <;> rfl
@[simp] theorem State.answer_supplyLow (x : Answer) : (s.answer l x).supplyLow = s.supplyLow := by cases l <;> rfl
@[simp] theorem State.answer_supplyTenths (x : Answer) : (s.answer l x).supplyTenths = s.supplyTenths := by cases l <;> rfl
@[simp] theorem State.answer_resetWaiting (x : Answer) : (s.answer l x).resetWaiting = s.resetWaiting := by cases l <;> rfl
@[simp] theorem State.answer_refClock (x : Answer) : (s.answer l x).refClock = s.refClock := by cases l <;> rfl
@[simp] theorem State.answer_freeIx (x : Answer) : (s.answer l x).freeIx = s.freeIx := by cases l <;> rfl
@[simp] theorem State.answer_pending (x : Answer) : (s.answer l x).pending = s.pending := by cases l <;> rfl

/-! ### withPending -/

@[simp] theorem State.withPending_phase (p : List Instr) : (s.withPending p).phase = s.phase := rfl
@[simp] theorem State.withPending_initTicks (p : List Instr) : (s.withPending p).initTicks = s.initTicks := rfl
@[simp] theorem State.withPending_slots (p : List Instr) : (s.withPending p).slots = s.slots := rfl
@[simp] theorem State.withPending_free (p : List Instr) : (s.withPending p).free = s.free := rfl
@[simp] theorem State.withPending_edit (p : List Instr) : (s.withPending p).edit = s.edit := rfl
@[simp] theorem State.withPending_check (p : List Instr) : (s.withPending p).check = s.check := rfl
@[simp] theorem State.withPending_axes (p : List Instr) : (s.withPending p).axes = s.axes := rfl
@[simp] theorem State.withPending_park (p : List Instr) : (s.withPending p).park = s.park := rfl
@[simp] theorem State.withPending_clock (p : List Instr) : (s.withPending p).clock = s.clock := rfl
@[simp] theorem State.withPending_pass (p : List Instr) : (s.withPending p).pass = s.pass := rfl
@[simp] theorem State.withPending_estop (p : List Instr) : (s.withPending p).estop = s.estop := rfl
@[simp] theorem State.withPending_supplyLevel (p : List Instr) : (s.withPending p).supplyLevel = s.supplyLevel := rfl
@[simp] theorem State.withPending_supplyAction (p : List Instr) : (s.withPending p).supplyAction = s.supplyAction := rfl
@[simp] theorem State.withPending_supplyLow (p : List Instr) : (s.withPending p).supplyLow = s.supplyLow := rfl
@[simp] theorem State.withPending_supplyTenths (p : List Instr) : (s.withPending p).supplyTenths = s.supplyTenths := rfl
@[simp] theorem State.withPending_linkA (p : List Instr) : (s.withPending p).linkA = s.linkA := rfl
@[simp] theorem State.withPending_linkB (p : List Instr) : (s.withPending p).linkB = s.linkB := rfl
@[simp] theorem State.withPending_resetWaiting (p : List Instr) : (s.withPending p).resetWaiting = s.resetWaiting := rfl
@[simp] theorem State.withPending_refClock (p : List Instr) : (s.withPending p).refClock = s.refClock := rfl
@[simp] theorem State.withPending_freeIx (p : List Instr) : (s.withPending p).freeIx = s.freeIx := rfl

/-! ### raise -/

@[simp] theorem State.raise_phase (k : EventKind) : (State.raise k s).phase = s.phase := rfl
@[simp] theorem State.raise_initTicks (k : EventKind) : (State.raise k s).initTicks = s.initTicks := rfl
@[simp] theorem State.raise_slots (k : EventKind) : (State.raise k s).slots = s.slots := rfl
@[simp] theorem State.raise_free (k : EventKind) : (State.raise k s).free = s.free := rfl
@[simp] theorem State.raise_edit (k : EventKind) : (State.raise k s).edit = s.edit := rfl
@[simp] theorem State.raise_check (k : EventKind) : (State.raise k s).check = s.check := rfl
@[simp] theorem State.raise_axes (k : EventKind) : (State.raise k s).axes = s.axes := rfl
@[simp] theorem State.raise_park (k : EventKind) : (State.raise k s).park = s.park := rfl
@[simp] theorem State.raise_clock (k : EventKind) : (State.raise k s).clock = s.clock := rfl
@[simp] theorem State.raise_pass (k : EventKind) : (State.raise k s).pass = s.pass := rfl
@[simp] theorem State.raise_estop (k : EventKind) : (State.raise k s).estop = s.estop := rfl
@[simp] theorem State.raise_supplyLevel (k : EventKind) : (State.raise k s).supplyLevel = s.supplyLevel := rfl
@[simp] theorem State.raise_supplyAction (k : EventKind) : (State.raise k s).supplyAction = s.supplyAction := rfl
@[simp] theorem State.raise_supplyLow (k : EventKind) : (State.raise k s).supplyLow = s.supplyLow := rfl
@[simp] theorem State.raise_supplyTenths (k : EventKind) : (State.raise k s).supplyTenths = s.supplyTenths := rfl
@[simp] theorem State.raise_resetWaiting (k : EventKind) : (State.raise k s).resetWaiting = s.resetWaiting := rfl
@[simp] theorem State.raise_refClock (k : EventKind) : (State.raise k s).refClock = s.refClock := rfl
@[simp] theorem State.raise_freeIx (k : EventKind) : (State.raise k s).freeIx = s.freeIx := rfl
@[simp] theorem State.raise_pending (k : EventKind) : (State.raise k s).pending = s.pending := rfl

/-! ### raiseOn -/

@[simp] theorem State.raiseOn_phase (k : EventKind) : (State.raiseOn l k s).phase = s.phase := by cases l <;> rfl
@[simp] theorem State.raiseOn_initTicks (k : EventKind) : (State.raiseOn l k s).initTicks = s.initTicks := by cases l <;> rfl
@[simp] theorem State.raiseOn_slots (k : EventKind) : (State.raiseOn l k s).slots = s.slots := by cases l <;> rfl
@[simp] theorem State.raiseOn_free (k : EventKind) : (State.raiseOn l k s).free = s.free := by cases l <;> rfl
@[simp] theorem State.raiseOn_edit (k : EventKind) : (State.raiseOn l k s).edit = s.edit := by cases l <;> rfl
@[simp] theorem State.raiseOn_check (k : EventKind) : (State.raiseOn l k s).check = s.check := by cases l <;> rfl
@[simp] theorem State.raiseOn_axes (k : EventKind) : (State.raiseOn l k s).axes = s.axes := by cases l <;> rfl
@[simp] theorem State.raiseOn_park (k : EventKind) : (State.raiseOn l k s).park = s.park := by cases l <;> rfl
@[simp] theorem State.raiseOn_clock (k : EventKind) : (State.raiseOn l k s).clock = s.clock := by cases l <;> rfl
@[simp] theorem State.raiseOn_pass (k : EventKind) : (State.raiseOn l k s).pass = s.pass := by cases l <;> rfl
@[simp] theorem State.raiseOn_estop (k : EventKind) : (State.raiseOn l k s).estop = s.estop := by cases l <;> rfl
@[simp] theorem State.raiseOn_supplyLevel (k : EventKind) : (State.raiseOn l k s).supplyLevel = s.supplyLevel := by cases l <;> rfl
@[simp] theorem State.raiseOn_supplyAction (k : EventKind) : (State.raiseOn l k s).supplyAction = s.supplyAction := by cases l <;> rfl
@[simp] theorem State.raiseOn_supplyLow (k : EventKind) : (State.raiseOn l k s).supplyLow = s.supplyLow := by cases l <;> rfl
@[simp] theorem State.raiseOn_supplyTenths (k : EventKind) : (State.raiseOn l k s).supplyTenths = s.supplyTenths := by cases l <;> rfl
@[simp] theorem State.raiseOn_resetWaiting (k : EventKind) : (State.raiseOn l k s).resetWaiting = s.resetWaiting := by cases l <;> rfl
@[simp] theorem State.raiseOn_refClock (k : EventKind) : (State.raiseOn l k s).refClock = s.refClock := by cases l <;> rfl
@[simp] theorem State.raiseOn_freeIx (k : EventKind) : (State.raiseOn l k s).freeIx = s.freeIx := by cases l <;> rfl
@[simp] theorem State.raiseOn_pending (k : EventKind) : (State.raiseOn l k s).pending = s.pending := by cases l <;> rfl

end Sys2Proof.Machine
end

