-- ==== Sys2Proof/Laws/Ops.lean ====
section
/-! SUPPORT. What each shared operation does, said once: reads after updates of links, axes and moves, the
deselection, the answers, and the two ways a command frame is taken. -/

namespace Sys2Proof.Machine

variable (s : State) (l : LinkId) (a : AxisId)

/-! ### Links: a read after an update -/

@[simp] theorem LinkId.other_ne : l.other ≠ l := by cases l <;> decide
@[simp] theorem LinkId.ne_other : l ≠ l.other := by cases l <;> decide
@[simp] theorem LinkId.other_other : l.other.other = l := by cases l <;> rfl

@[simp] theorem State.setLink_link (k : Link) : (s.setLink l k).link l = k := by cases l <;> rfl
@[simp] theorem State.setLink_link_other (k : Link) : (s.setLink l k).link l.other = s.link l.other := by
  cases l <;> rfl
theorem State.setLink_link_ne {m : LinkId} (h : m ≠ l) (k : Link) : (s.setLink l k).link m = s.link m := by
  cases l <;> cases m <;> first | rfl | exact absurd rfl h
@[simp] theorem State.onLink_link (f : Link → Link) : (s.onLink l f).link l = f (s.link l) := by
  cases l <;> rfl
@[simp] theorem State.onLink_link_other (f : Link → Link) : (s.onLink l f).link l.other = s.link l.other := by
  cases l <;> rfl
theorem State.onLink_link_ne {m : LinkId} (h : m ≠ l) (f : Link → Link) :
    (s.onLink l f).link m = s.link m := s.setLink_link_ne l h _
@[simp] theorem State.onLinks_link (f : Link → Link) : (s.onLinks f).link l = f (s.link l) := by
  cases l <;> rfl
@[simp] theorem State.onLink_onLink (f g : Link → Link) :
    (s.onLink l f).onLink l g = s.onLink l (fun k => g (f k)) := by cases l <;> rfl
theorem State.onLink_eq_setLink (f : Link → Link) : s.onLink l f = s.setLink l (f (s.link l)) := rfl
@[simp] theorem State.raise_link (e : EventKind) : (s.raise e).link l = (s.link l).raise e := by
  cases l <;> rfl

@[simp] theorem State.setAxis_link (x : Axis) : (s.setAxis a x).link l = s.link l := by cases l <;> simp [State.link]
@[simp] theorem State.onAxis_link (f : Axis → Axis) : (s.onAxis a f).link l = s.link l := by cases l <;> simp [State.link]
@[simp] theorem State.onAxes_link (f : Axis → Axis) : (s.onAxes f).link l = s.link l := by cases l <;> simp [State.link]
@[simp] theorem State.withClock_link (c : Clock) : (s.withClock c).link l = s.link l := by cases l <;> simp [State.link]
@[simp] theorem State.withPass_link (p : Pass) : (s.withPass p).link l = s.link l := by cases l <;> simp [State.link]
@[simp] theorem State.setMove_link (n : Nat) (m : Option Move) : (s.setMove n m).link l = s.link l := by cases l <;> simp [State.link]
@[simp] theorem State.onMove_link (n : Nat) (f : Move → Move) : (s.onMove n f).link l = s.link l := by cases l <;> simp [State.link]
@[simp] theorem State.onMoves_link (f : Move → Move) : (s.onMoves f).link l = s.link l := by cases l <;> simp [State.link]

/-! ### Axes: a read after an update -/

@[simp] theorem State.setAxis_axis (x : Axis) : (s.setAxis a x).axis a = x := by
  simp [State.setAxis, State.axis]
theorem State.setAxis_axis_ne {b : AxisId} (h : b ≠ a) (x : Axis) : (s.setAxis a x).axis b = s.axis b := by
  have h' : a.val ≠ b.val := fun e => h (Fin.ext e.symm)
  simp [State.setAxis, State.axis, h']
@[simp] theorem State.onAxis_axis (f : Axis → Axis) : (s.onAxis a f).axis a = f (s.axis a) :=
  s.setAxis_axis a _
theorem State.onAxis_axis_ne {b : AxisId} (h : b ≠ a) (f : Axis → Axis) :
    (s.onAxis a f).axis b = s.axis b := s.setAxis_axis_ne a h _
@[simp] theorem State.onAxes_axis (f : Axis → Axis) : (s.onAxes f).axis a = f (s.axis a) := by
  simp [State.onAxes, State.axis]

@[simp] theorem State.setLink_axis (k : Link) : (s.setLink l k).axis a = s.axis a := by simp [State.axis]
@[simp] theorem State.onLink_axis (f : Link → Link) : (s.onLink l f).axis a = s.axis a := by simp [State.axis]
@[simp] theorem State.onLinks_axis (f : Link → Link) : (s.onLinks f).axis a = s.axis a := by simp [State.axis]
@[simp] theorem State.withClock_axis (c : Clock) : (s.withClock c).axis a = s.axis a := by simp [State.axis]
@[simp] theorem State.withPass_axis (p : Pass) : (s.withPass p).axis a = s.axis a := by simp [State.axis]
@[simp] theorem State.setMove_axis (n : Nat) (m : Option Move) : (s.setMove n m).axis a = s.axis a := by simp [State.axis]
@[simp] theorem State.onMove_axis (n : Nat) (f : Move → Move) : (s.onMove n f).axis a = s.axis a := by simp [State.axis]
@[simp] theorem State.onMoves_axis (f : Move → Move) : (s.onMoves f).axis a = s.axis a := by simp [State.axis]
@[simp] theorem State.raise_axis (e : EventKind) : (s.raise e).axis a = s.axis a := rfl

/-! ### Moves: a read after an update -/

theorem State.setMove_move {n : Nat} (h1 : 1 ≤ n) (h2 : n ≤ 64) (m : Option Move) :
    (s.setMove n m).move n = m := by
  have : n - 1 < 64 := by omega
  simp [State.setMove, State.move, h1, this]
theorem State.setMove_move_ne {n k : Nat} (h : k ≠ n) (m : Option Move) :
    (s.setMove n m).move k = s.move k := by
  unfold State.setMove State.move
  by_cases h1 : 1 ≤ n <;> by_cases h2 : 1 ≤ k <;> simp [h1, h2]
  rw [Vector.getElem?_setIfInBounds_ne (by omega)]
theorem State.move_bounds {n : Nat} {m : Move} (h : s.move n = some m) : 1 ≤ n ∧ n ≤ 64 := by
  unfold State.move at h
  split at h
  · refine ⟨‹_›, ?_⟩
    by_contra hn
    have : 64 ≤ n - 1 := by omega
    simp [Vector.getElem?_eq_none this] at h
  · cases h

@[simp] theorem State.setLink_move (k : Link) (n : Nat) : (s.setLink l k).move n = s.move n := by simp [State.move]
@[simp] theorem State.onLink_move (f : Link → Link) (n : Nat) : (s.onLink l f).move n = s.move n := by simp [State.move]
@[simp] theorem State.onLinks_move (f : Link → Link) (n : Nat) : (s.onLinks f).move n = s.move n := by simp [State.move]
@[simp] theorem State.withClock_move (c : Clock) (n : Nat) : (s.withClock c).move n = s.move n := by simp [State.move]
@[simp] theorem State.withPass_move (p : Pass) (n : Nat) : (s.withPass p).move n = s.move n := by simp [State.move]
@[simp] theorem State.setAxis_move (x : Axis) (n : Nat) : (s.setAxis a x).move n = s.move n := by simp [State.move]
@[simp] theorem State.onAxis_move (f : Axis → Axis) (n : Nat) : (s.onAxis a f).move n = s.move n := by simp [State.move]
@[simp] theorem State.onAxes_move (f : Axis → Axis) (n : Nat) : (s.onAxes f).move n = s.move n := by simp [State.move]
@[simp] theorem State.raise_move (e : EventKind) (n : Nat) : (s.raise e).move n = s.move n := rfl

/-! ### The deselection (R177) -/

@[simp] theorem State.deselect_phase : (s.deselect l).phase = s.phase := by cases l <;> rfl
@[simp] theorem State.deselect_initTicks : (s.deselect l).initTicks = s.initTicks := by cases l <;> rfl
@[simp] theorem State.deselect_slots : (s.deselect l).slots = s.slots := by cases l <;> rfl
@[simp] theorem State.deselect_free : (s.deselect l).free = s.free := by cases l <;> rfl
@[simp] theorem State.deselect_check : (s.deselect l).check = s.check := by cases l <;> rfl
@[simp] theorem State.deselect_axes : (s.deselect l).axes = s.axes := by cases l <;> rfl
@[simp] theorem State.deselect_park : (s.deselect l).park = s.park := by cases l <;> rfl
@[simp] theorem State.deselect_clock : (s.deselect l).clock = s.clock := by cases l <;> rfl
@[simp] theorem State.deselect_pass : (s.deselect l).pass = s.pass := by cases l <;> rfl
@[simp] theorem State.deselect_estop : (s.deselect l).estop = s.estop := by cases l <;> rfl
@[simp] theorem State.deselect_supplyLevel : (s.deselect l).supplyLevel = s.supplyLevel := by cases l <;> rfl
@[simp] theorem State.deselect_supplyAction : (s.deselect l).supplyAction = s.supplyAction := by cases l <;> rfl
@[simp] theorem State.deselect_supplyLow : (s.deselect l).supplyLow = s.supplyLow := by cases l <;> rfl
@[simp] theorem State.deselect_supplyTenths : (s.deselect l).supplyTenths = s.supplyTenths := by cases l <;> rfl
@[simp] theorem State.deselect_resetWaiting : (s.deselect l).resetWaiting = s.resetWaiting := by cases l <;> rfl
@[simp] theorem State.deselect_refClock : (s.deselect l).refClock = s.refClock := by cases l <;> rfl
@[simp] theorem State.deselect_freeIx : (s.deselect l).freeIx = s.freeIx := by cases l <;> rfl
@[simp] theorem State.deselect_pending : (s.deselect l).pending = s.pending := by cases l <;> rfl
@[simp] theorem State.deselect_axis : (s.deselect l).axis a = s.axis a := by simp [State.axis]
@[simp] theorem State.deselect_move (n : Nat) : (s.deselect l).move n = s.move n := by simp [State.move]
theorem State.deselect_link : (s.deselect l).link l =
    { s.link l with
      item := none, held := none, answer := none, collection := .none, resetDue := false,
      buffer := (s.link l).buffer.map (fun b => { b with ackDue := false }) } := by cases l <;> rfl
theorem State.deselect_link_other : (s.deselect l).link l.other = s.link l.other := by cases l <;> rfl
theorem State.deselect_edit : (s.deselect l).edit =
    s.edit.map (fun r => if r.link = l then { r with answerDue := false } else r) := by cases l <;> rfl
theorem State.deselect_edit_none (h : s.edit = none) : (s.deselect l).edit = none := by
  simp [State.deselect_edit, h]
@[simp] theorem State.deselect_isTarget (n : Nat) : (s.deselect l).isTarget n = s.isTarget n := by
  cases h : s.edit with
  | none => simp [State.isTarget, State.deselect_edit, h]
  | some r => by_cases e : r.link = l <;> simp [State.isTarget, State.deselect_edit, h, e]

/-! ### How a command frame is taken (R20, R177) -/

theorem State.taken_serving (h : s.phase = .serving) (body : State → State) :
    s.taken l body = body (s.deselect l) := by simp [State.taken, h]
theorem State.taken_initializing (h : s.phase = .initializing) (body : State → State) :
    s.taken l body = (s.deselect l).answerInit l := by simp [State.taken, h]

/-! ### Answers: only the answer of the link changes -/

theorem State.answer_link (x : Answer) : (s.answer l x).link l = { s.link l with answer := some x } := by
  cases l <;> rfl
theorem State.answer_link_other (x : Answer) : (s.answer l x).link l.other = s.link l.other := by
  cases l <;> rfl

@[simp] theorem State.accept_phase (r : Results) (b : Bool) : (s.accept l r b).phase = s.phase := by cases l <;> rfl
@[simp] theorem State.accept_initTicks (r : Results) (b : Bool) : (s.accept l r b).initTicks = s.initTicks := by cases l <;> rfl
@[simp] theorem State.accept_slots (r : Results) (b : Bool) : (s.accept l r b).slots = s.slots := by cases l <;> rfl
@[simp] theorem State.accept_free (r : Results) (b : Bool) : (s.accept l r b).free = s.free := by cases l <;> rfl
@[simp] theorem State.accept_edit (r : Results) (b : Bool) : (s.accept l r b).edit = s.edit := by cases l <;> rfl
@[simp] theorem State.accept_check (r : Results) (b : Bool) : (s.accept l r b).check = s.check := by cases l <;> rfl
@[simp] theorem State.accept_axes (r : Results) (b : Bool) : (s.accept l r b).axes = s.axes := by cases l <;> rfl
@[simp] theorem State.accept_park (r : Results) (b : Bool) : (s.accept l r b).park = s.park := by cases l <;> rfl
@[simp] theorem State.accept_clock (r : Results) (b : Bool) : (s.accept l r b).clock = s.clock := by cases l <;> rfl
@[simp] theorem State.accept_pass (r : Results) (b : Bool) : (s.accept l r b).pass = s.pass := by cases l <;> rfl
@[simp] theorem State.accept_estop (r : Results) (b : Bool) : (s.accept l r b).estop = s.estop := by cases l <;> rfl
@[simp] theorem State.accept_supplyLevel (r : Results) (b : Bool) : (s.accept l r b).supplyLevel = s.supplyLevel := by cases l <;> rfl
@[simp] theorem State.accept_supplyAction (r : Results) (b : Bool) : (s.accept l r b).supplyAction = s.supplyAction := by cases l <;> rfl
@[simp] theorem State.accept_supplyLow (r : Results) (b : Bool) : (s.accept l r b).supplyLow = s.supplyLow := by cases l <;> rfl
@[simp] theorem State.accept_supplyTenths (r : Results) (b : Bool) : (s.accept l r b).supplyTenths = s.supplyTenths := by cases l <;> rfl
@[simp] theorem State.accept_resetWaiting (r : Results) (b : Bool) : (s.accept l r b).resetWaiting = s.resetWaiting := by cases l <;> rfl
@[simp] theorem State.accept_refClock (r : Results) (b : Bool) : (s.accept l r b).refClock = s.refClock := by cases l <;> rfl
@[simp] theorem State.accept_freeIx (r : Results) (b : Bool) : (s.accept l r b).freeIx = s.freeIx := by cases l <;> rfl
@[simp] theorem State.accept_pending (r : Results) (b : Bool) : (s.accept l r b).pending = s.pending := by cases l <;> rfl
@[simp] theorem State.accept_axis (r : Results) (b : Bool) : (s.accept l r b).axis a = s.axis a := by simp [State.axis]
@[simp] theorem State.accept_move (r : Results) (b : Bool) (n : Nat) : (s.accept l r b).move n = s.move n := by simp [State.move]
@[simp] theorem State.refuseWith_phase (w : Reason) (r : Results) (b : Bool) : (s.refuseWith l w r b).phase = s.phase := by cases l <;> rfl
@[simp] theorem State.refuseWith_initTicks (w : Reason) (r : Results) (b : Bool) : (s.refuseWith l w r b).initTicks = s.initTicks := by cases l <;> rfl
@[simp] theorem State.refuseWith_slots (w : Reason) (r : Results) (b : Bool) : (s.refuseWith l w r b).slots = s.slots := by cases l <;> rfl
@[simp] theorem State.refuseWith_free (w : Reason) (r : Results) (b : Bool) : (s.refuseWith l w r b).free = s.free := by cases l <;> rfl
@[simp] theorem State.refuseWith_edit (w : Reason) (r : Results) (b : Bool) : (s.refuseWith l w r b).edit = s.edit := by cases l <;> rfl
@[simp] theorem State.refuseWith_check (w : Reason) (r : Results) (b : Bool) : (s.refuseWith l w r b).check = s.check := by cases l <;> rfl
@[simp] theorem State.refuseWith_axes (w : Reason) (r : Results) (b : Bool) : (s.refuseWith l w r b).axes = s.axes := by cases l <;> rfl
@[simp] theorem State.refuseWith_park (w : Reason) (r : Results) (b : Bool) : (s.refuseWith l w r b).park = s.park := by cases l <;> rfl
@[simp] theorem State.refuseWith_clock (w : Reason) (r : Results) (b : Bool) : (s.refuseWith l w r b).clock = s.clock := by cases l <;> rfl
@[simp] theorem State.refuseWith_pass (w : Reason) (r : Results) (b : Bool) : (s.refuseWith l w r b).pass = s.pass := by cases l <;> rfl
@[simp] theorem State.refuseWith_estop (w : Reason) (r : Results) (b : Bool) : (s.refuseWith l w r b).estop = s.estop := by cases l <;> rfl
@[simp] theorem State.refuseWith_supplyLevel (w : Reason) (r : Results) (b : Bool) : (s.refuseWith l w r b).supplyLevel = s.supplyLevel := by cases l <;> rfl
@[simp] theorem State.refuseWith_supplyAction (w : Reason) (r : Results) (b : Bool) : (s.refuseWith l w r b).supplyAction = s.supplyAction := by cases l <;> rfl
@[simp] theorem State.refuseWith_supplyLow (w : Reason) (r : Results) (b : Bool) : (s.refuseWith l w r b).supplyLow = s.supplyLow := by cases l <;> rfl
@[simp] theorem State.refuseWith_supplyTenths (w : Reason) (r : Results) (b : Bool) : (s.refuseWith l w r b).supplyTenths = s.supplyTenths := by cases l <;> rfl
@[simp] theorem State.refuseWith_resetWaiting (w : Reason) (r : Results) (b : Bool) : (s.refuseWith l w r b).resetWaiting = s.resetWaiting := by cases l <;> rfl
@[simp] theorem State.refuseWith_refClock (w : Reason) (r : Results) (b : Bool) : (s.refuseWith l w r b).refClock = s.refClock := by cases l <;> rfl
@[simp] theorem State.refuseWith_freeIx (w : Reason) (r : Results) (b : Bool) : (s.refuseWith l w r b).freeIx = s.freeIx := by cases l <;> rfl
@[simp] theorem State.refuseWith_pending (w : Reason) (r : Results) (b : Bool) : (s.refuseWith l w r b).pending = s.pending := by cases l <;> rfl
@[simp] theorem State.refuseWith_axis (w : Reason) (r : Results) (b : Bool) : (s.refuseWith l w r b).axis a = s.axis a := by simp [State.axis]
@[simp] theorem State.refuseWith_move (w : Reason) (r : Results) (b : Bool) (n : Nat) : (s.refuseWith l w r b).move n = s.move n := by simp [State.move]
@[simp] theorem State.refuse_phase (w : Reason) : (s.refuse l w).phase = s.phase := by cases l <;> rfl
@[simp] theorem State.refuse_initTicks (w : Reason) : (s.refuse l w).initTicks = s.initTicks := by cases l <;> rfl
@[simp] theorem State.refuse_slots (w : Reason) : (s.refuse l w).slots = s.slots := by cases l <;> rfl
@[simp] theorem State.refuse_free (w : Reason) : (s.refuse l w).free = s.free := by cases l <;> rfl
@[simp] theorem State.refuse_edit (w : Reason) : (s.refuse l w).edit = s.edit := by cases l <;> rfl
@[simp] theorem State.refuse_check (w : Reason) : (s.refuse l w).check = s.check := by cases l <;> rfl
@[simp] theorem State.refuse_axes (w : Reason) : (s.refuse l w).axes = s.axes := by cases l <;> rfl
@[simp] theorem State.refuse_park (w : Reason) : (s.refuse l w).park = s.park := by cases l <;> rfl
@[simp] theorem State.refuse_clock (w : Reason) : (s.refuse l w).clock = s.clock := by cases l <;> rfl
@[simp] theorem State.refuse_pass (w : Reason) : (s.refuse l w).pass = s.pass := by cases l <;> rfl
@[simp] theorem State.refuse_estop (w : Reason) : (s.refuse l w).estop = s.estop := by cases l <;> rfl
@[simp] theorem State.refuse_supplyLevel (w : Reason) : (s.refuse l w).supplyLevel = s.supplyLevel := by cases l <;> rfl
@[simp] theorem State.refuse_supplyAction (w : Reason) : (s.refuse l w).supplyAction = s.supplyAction := by cases l <;> rfl
@[simp] theorem State.refuse_supplyLow (w : Reason) : (s.refuse l w).supplyLow = s.supplyLow := by cases l <;> rfl
@[simp] theorem State.refuse_supplyTenths (w : Reason) : (s.refuse l w).supplyTenths = s.supplyTenths := by cases l <;> rfl
@[simp] theorem State.refuse_resetWaiting (w : Reason) : (s.refuse l w).resetWaiting = s.resetWaiting := by cases l <;> rfl
@[simp] theorem State.refuse_refClock (w : Reason) : (s.refuse l w).refClock = s.refClock := by cases l <;> rfl
@[simp] theorem State.refuse_freeIx (w : Reason) : (s.refuse l w).freeIx = s.freeIx := by cases l <;> rfl
@[simp] theorem State.refuse_pending (w : Reason) : (s.refuse l w).pending = s.pending := by cases l <;> rfl
@[simp] theorem State.refuse_axis (w : Reason) : (s.refuse l w).axis a = s.axis a := by simp [State.axis]
@[simp] theorem State.refuse_move (w : Reason) (n : Nat) : (s.refuse l w).move n = s.move n := by simp [State.move]
@[simp] theorem State.ok_phase (r : Results) : (s.ok l r).phase = s.phase := by cases l <;> rfl
@[simp] theorem State.ok_initTicks (r : Results) : (s.ok l r).initTicks = s.initTicks := by cases l <;> rfl
@[simp] theorem State.ok_slots (r : Results) : (s.ok l r).slots = s.slots := by cases l <;> rfl
@[simp] theorem State.ok_free (r : Results) : (s.ok l r).free = s.free := by cases l <;> rfl
@[simp] theorem State.ok_edit (r : Results) : (s.ok l r).edit = s.edit := by cases l <;> rfl
@[simp] theorem State.ok_check (r : Results) : (s.ok l r).check = s.check := by cases l <;> rfl
@[simp] theorem State.ok_axes (r : Results) : (s.ok l r).axes = s.axes := by cases l <;> rfl
@[simp] theorem State.ok_park (r : Results) : (s.ok l r).park = s.park := by cases l <;> rfl
@[simp] theorem State.ok_clock (r : Results) : (s.ok l r).clock = s.clock := by cases l <;> rfl
@[simp] theorem State.ok_pass (r : Results) : (s.ok l r).pass = s.pass := by cases l <;> rfl
@[simp] theorem State.ok_estop (r : Results) : (s.ok l r).estop = s.estop := by cases l <;> rfl
@[simp] theorem State.ok_supplyLevel (r : Results) : (s.ok l r).supplyLevel = s.supplyLevel := by cases l <;> rfl
@[simp] theorem State.ok_supplyAction (r : Results) : (s.ok l r).supplyAction = s.supplyAction := by cases l <;> rfl
@[simp] theorem State.ok_supplyLow (r : Results) : (s.ok l r).supplyLow = s.supplyLow := by cases l <;> rfl
@[simp] theorem State.ok_supplyTenths (r : Results) : (s.ok l r).supplyTenths = s.supplyTenths := by cases l <;> rfl
@[simp] theorem State.ok_resetWaiting (r : Results) : (s.ok l r).resetWaiting = s.resetWaiting := by cases l <;> rfl
@[simp] theorem State.ok_refClock (r : Results) : (s.ok l r).refClock = s.refClock := by cases l <;> rfl
@[simp] theorem State.ok_freeIx (r : Results) : (s.ok l r).freeIx = s.freeIx := by cases l <;> rfl
@[simp] theorem State.ok_pending (r : Results) : (s.ok l r).pending = s.pending := by cases l <;> rfl
@[simp] theorem State.ok_axis (r : Results) : (s.ok l r).axis a = s.axis a := by simp [State.axis]
@[simp] theorem State.ok_move (r : Results) (n : Nat) : (s.ok l r).move n = s.move n := by simp [State.move]

/-! ### Axes taken in a list -/

theorem forAxes_nil (f : AxisId → State → State) : forAxes [] f s = s := rfl
theorem forAxes_cons (b : AxisId) (as : List AxisId) (f : AxisId → State → State) :
    forAxes (b :: as) f s = forAxes as f (f b s) := rfl

/-- An operation that keeps a quantity for each axis keeps it for a list. -/
theorem forAxes_keeps {α : Type} (q : State → α) (f : AxisId → State → State)
    (h : ∀ b t, q (f b t) = q t) (as : List AxisId) : q (forAxes as f s) = q s := by
  induction as generalizing s with
  | nil => rfl
  | cons b as ih => rw [forAxes_cons, ih, h]

/-- A property each axis's operation keeps is kept for a list. -/
theorem forAxes_inv (p : State → Prop) (f : AxisId → State → State)
    (h : ∀ b t, p t → p (f b t)) (as : List AxisId) (h0 : p s) : p (forAxes as f s) := by
  induction as generalizing s with
  | nil => exact h0
  | cons b as ih => exact ih _ (h b s h0)

end Sys2Proof.Machine
end

