-- ==== Sys2Proof/Laws/Frames.lean ====
section
/-! SUPPORT. What the operations over several axes, the ends of parks, homes and runs, and the faults can do:
one lemma each for the axes they write and one for the state they leave alone. -/

namespace Sys2Proof.Machine

variable {α : Type} (s : State) (a : AxisId)

/-! ### Axes written one after another -/

section
variable (l : List α) (id : α → AxisId) (g : α → Axis → Axis)

/-- Nothing but the axes is written. -/
theorem foldAxes_frame :
    { l.foldl (fun t x => t.onAxis (id x) (g x)) s with axes := s.axes } = s := by
  induction l generalizing s with
  | nil => rfl
  | cons x xs ih =>
    have h := ih (s.onAxis (id x) (g x))
    rw [State.mk.injEq] at h ⊢
    simpa using h

/-- An axis outside the list is left alone. -/
theorem foldAxes_axis_notMem {b : AxisId} (h : b ∉ l.map id) :
    (l.foldl (fun t x => t.onAxis (id x) (g x)) s).axis b = s.axis b := by
  induction l generalizing s with
  | nil => rfl
  | cons x xs ih =>
    simp only [List.map_cons, List.mem_cons, not_or] at h
    rw [List.foldl_cons, ih _ h.2, State.onAxis_axis_ne _ _ h.1]

/-- An axis listed once is written once. -/
theorem foldAxes_axis_mem (hn : (l.map id).Nodup) {x : α} (h : x ∈ l) :
    (l.foldl (fun t x => t.onAxis (id x) (g x)) s).axis (id x) = g x (s.axis (id x)) := by
  induction l generalizing s with
  | nil => cases h
  | cons y ys ih =>
    rw [List.map_cons, List.nodup_cons] at hn
    rw [List.foldl_cons]
    rcases List.mem_cons.1 h with rfl | h
    · rw [foldAxes_axis_notMem _ _ _ _ hn.1, State.onAxis_axis]
    · rw [ih _ hn.2 h, State.onAxis_axis_ne]
      intro e
      exact hn.1 (e ▸ List.mem_map_of_mem h)

/-- A part of the axes that every write keeps is kept. -/
theorem foldAxes_axis_keeps {β : Type} (q : Axis → β) (hq : ∀ x y, q (g x y) = q y) (b : AxisId) :
    q ((l.foldl (fun t x => t.onAxis (id x) (g x)) s).axis b) = q (s.axis b) := by
  induction l generalizing s with
  | nil => rfl
  | cons x xs ih =>
    rw [List.foldl_cons, ih]
    by_cases h : b = id x
    · subst h; rw [State.onAxis_axis, hq]
    · rw [State.onAxis_axis_ne _ _ h]

end

section
variable (as : List AxisId) (f : Axis → Axis)

theorem forAxes_onAxis_frame : { forAxes as (fun a t => t.onAxis a f) s with axes := s.axes } = s :=
  foldAxes_frame s as (fun a => a) (fun _ => f)

theorem forAxes_onAxis_notMem {b : AxisId} (h : b ∉ as) :
    (forAxes as (fun a t => t.onAxis a f) s).axis b = s.axis b :=
  foldAxes_axis_notMem s as (fun a => a) (fun _ => f) (by simpa using h)

/-- An operation that does nothing twice over acts once on every listed axis, listed once or more. -/
theorem forAxes_onAxis_mem (hf : ∀ x, f (f x) = f x) {b : AxisId} (h : b ∈ as) :
    (forAxes as (fun a t => t.onAxis a f) s).axis b = f (s.axis b) := by
  induction as generalizing s with
  | nil => cases h
  | cons c cs ih =>
    rw [forAxes_cons]
    by_cases hm : b ∈ cs
    · rw [ih _ hm]
      by_cases hc : b = c
      · subst hc; rw [State.onAxis_axis, hf]
      · rw [State.onAxis_axis_ne _ _ hc]
    · rcases List.mem_cons.1 h with rfl | h
      · rw [forAxes_onAxis_notMem _ _ _ hm, State.onAxis_axis]
      · exact absurd h hm

/-- Any operation acts once on an axis listed once. -/
theorem forAxes_onAxis_nodup (hn : as.Nodup) {b : AxisId} (h : b ∈ as) :
    (forAxes as (fun a t => t.onAxis a f) s).axis b = f (s.axis b) :=
  foldAxes_axis_mem s as (fun a => a) (fun _ => f) (by simpa using hn) h

end

/-! ### Setpoints -/

/-- The setpoint an axis takes from a track: only while its drive is ON. -/
theorem State.writeSetpoints_frame (r : PassRecord) (p : Int) :
    { s.writeSetpoints r p with axes := s.axes } = s := by
  unfold State.writeSetpoints
  split
  · rfl
  · exact foldAxes_frame s r.axes (·.axis) _

theorem State.writeSetpoints_notMem (r : PassRecord) (p : Int) {b : AxisId} (h : b ∉ r.axes.map (·.axis)) :
    (s.writeSetpoints r p).axis b = s.axis b := by
  unfold State.writeSetpoints
  split
  · rfl
  · exact foldAxes_axis_notMem s r.axes (·.axis) _ h

theorem State.writeSetpoints_mem (r : PassRecord) (p : Int) {m : Move} (hm : s.move r.slot = some m)
    (hn : (r.axes.map (·.axis)).Nodup) {pa : PassAxis} (h : pa ∈ r.axes) :
    (s.writeSetpoints r p).axis pa.axis =
      if (s.axis pa.axis).drive = .on
        then { s.axis pa.axis with setpoint := trackValue (m.axisTrack pa.axis) p pa.offset }
        else s.axis pa.axis := by
  unfold State.writeSetpoints
  rw [hm]
  dsimp only
  rw [foldAxes_axis_mem s r.axes (·.axis) _ hn h]
  split <;> simp_all

/-- Nothing of an axis but its setpoint is written. -/
theorem State.writeSetpoints_axis (r : PassRecord) (p : Int) (b : AxisId) :
    { (s.writeSetpoints r p).axis b with setpoint := (s.axis b).setpoint } = s.axis b := by
  unfold State.writeSetpoints
  split
  · rfl
  · next m hm =>
    have h := foldAxes_axis_keeps s r.axes (·.axis)
      (fun pa x =>
        match x.drive with
        | .on => { x with setpoint := trackValue (m.axisTrack pa.axis) p pa.offset }
        | .off => x
        | .settling _ => x
        | .tripped => x) (fun x => { x with setpoint := (s.axis b).setpoint })
      (fun x y => by split <;> rfl) b
    exact h

theorem State.easeSetpoints_frame (g : GroupEase) (k : Nat) :
    { s.easeSetpoints g k with axes := s.axes } = s := foldAxes_frame s g.axes (·.axis) _

theorem State.easeSetpoints_notMem (g : GroupEase) (k : Nat) {b : AxisId} (h : b ∉ g.ids) :
    (s.easeSetpoints g k).axis b = s.axis b := foldAxes_axis_notMem s g.axes (·.axis) _ h

theorem State.easeSetpoints_mem (g : GroupEase) (k : Nat) (hn : g.ids.Nodup) {e : EaseAxis} (h : e ∈ g.axes) :
    (s.easeSetpoints g k).axis e.axis =
      { s.axis e.axis with setpoint := e.start + easeOffset e.dist g.duration k } :=
  foldAxes_axis_mem s g.axes (·.axis)
    (fun e x => { x with setpoint := e.start + easeOffset e.dist g.duration k }) hn h

theorem State.groupCreepTick_frame (g : GroupEase) : { s.groupCreepTick g with axes := s.axes } = s :=
  forAxes_onAxis_frame s g.ids _

theorem State.groupCreepTick_notMem (g : GroupEase) {b : AxisId} (h : b ∉ g.ids) :
    (s.groupCreepTick g).axis b = s.axis b := forAxes_onAxis_notMem s g.ids _ h

theorem State.groupCreepTick_mem (g : GroupEase) (hn : g.ids.Nodup) {b : AxisId} (h : b ∈ g.ids) :
    (s.groupCreepTick g).axis b = (s.axis b).creepTick := forAxes_onAxis_nodup s g.ids _ hn h

theorem Axis.creepTick_frame (x : Axis) :
    { x.creepTick with creep := x.creep, setpoint := x.setpoint } = x := by
  obtain ⟨_, _, _, _, _, _, c, _⟩ := x
  cases c <;> rfl

/-! ### Records -/

/-- What applying a record does to its axis. -/
theorem Axis.applyRecord_eq (r : AxisRecord) (x : Axis) :
    x.applyRecord r = { x with
      conf := r
      drive := if x.enableOutput && r.unset then .off else x.drive
      pulses := if x.enableOutput && r.unset then 0 else x.pulses } := by
  unfold Axis.applyRecord Axis.enableOutput
  cases h : x.drive <;> cases r.unset <;> simp

/-- Beside axes, moves and the check, only the event flags are written. -/
theorem State.limitsChanged_frame :
    { s.limitsChanged a with slots := s.slots, check := s.check, linkA := s.linkA, linkB := s.linkB } = s := by
  unfold State.limitsChanged
  dsimp only
  split <;> rfl

theorem State.limitsChanged_axes : (s.limitsChanged a).axes = s.axes := by
  unfold State.limitsChanged; dsimp only; split <;> rfl

theorem State.applyRecord_frame (r : AxisRecord) :
    { s.applyRecord a r with axes := s.axes, slots := s.slots, check := s.check, linkA := s.linkA,
                             linkB := s.linkB } = s := by
  unfold State.applyRecord
  split
  · have h := State.limitsChanged_frame (s.onAxis a (Axis.applyRecord r)) a
    rw [State.mk.injEq] at h ⊢
    simp_all
  · rfl

theorem State.applyRecord_axis (r : AxisRecord) (b : AxisId) :
    (s.applyRecord a r).axis b = (s.onAxis a (Axis.applyRecord r)).axis b := by
  unfold State.applyRecord
  split
  · unfold State.axis; simp only [State.limitsChanged_axes]
  · rfl

/-- A released axis with its staged record applied. -/
def Axis.appliedStaged (x : Axis) : Axis :=
  let off := x.enableOutput && x.staged.any AxisRecord.unset
  { x with staged := none, conf := x.staged.getD x.conf, drive := if off then .off else x.drive,
           pulses := if off then 0 else x.pulses }

theorem Axis.appliedStaged_none (x : Axis) (h : x.staged = none) : x.appliedStaged = x := by
  cases x; simp_all [Axis.appliedStaged]

theorem State.applyStaged_frame :
    { s.applyStaged a with axes := s.axes, slots := s.slots, check := s.check, linkA := s.linkA,
                           linkB := s.linkB } = s := by
  unfold State.applyStaged
  split
  · rfl
  · next r hr =>
    have h := State.applyRecord_frame (s.onAxis a (fun x => { x with staged := none })) a r
    rw [State.mk.injEq] at h ⊢
    simpa using h

theorem State.applyStaged_axis : (s.applyStaged a).axis a = (s.axis a).appliedStaged := by
  unfold State.applyStaged
  split
  · next h => rw [Axis.appliedStaged_none _ h]
  · next r h =>
    rw [State.applyRecord_axis, State.onAxis_axis, State.onAxis_axis, Axis.applyRecord_eq]
    simp [Axis.appliedStaged, h, Axis.enableOutput]

theorem State.applyStaged_axis_ne {b : AxisId} (h : b ≠ a) : (s.applyStaged a).axis b = s.axis b := by
  unfold State.applyStaged
  split
  · rfl
  · rw [State.applyRecord_axis, State.onAxis_axis_ne _ _ h, State.onAxis_axis_ne _ _ h]

theorem State.applyStaged_none (h : (s.axis a).staged = none) : s.applyStaged a = s := by
  unfold State.applyStaged; rw [h]

theorem forAxes_applyStaged_frame (as : List AxisId) :
    { forAxes as (fun a t => t.applyStaged a) s with
        axes := s.axes, slots := s.slots, check := s.check, linkA := s.linkA, linkB := s.linkB } = s := by
  induction as generalizing s with
  | nil => rfl
  | cons b bs ih =>
    have h := ih (s.applyStaged b)
    have h2 := State.applyStaged_frame s b
    rw [forAxes_cons]
    rw [State.mk.injEq] at h h2 ⊢
    simp_all

theorem forAxes_applyStaged_axis (as : List AxisId) (b : AxisId) :
    (forAxes as (fun a t => t.applyStaged a) s).axis b =
      if b ∈ as then (s.axis b).appliedStaged else s.axis b := by
  induction as generalizing s with
  | nil => rfl
  | cons c cs ih =>
    rw [forAxes_cons, ih]
    by_cases hc : b = c
    · subst hc
      rw [State.applyStaged_axis]
      have h : (s.axis b).appliedStaged.appliedStaged = (s.axis b).appliedStaged :=
        Axis.appliedStaged_none _ rfl
      simp [h]
    · simp [State.applyStaged_axis_ne _ _ hc, hc]

theorem forAxes_applyStaged_none (as : List AxisId) (h : ∀ a ∈ as, (s.axis a).staged = none) :
    forAxes as (fun a t => t.applyStaged a) s = s := by
  induction as with
  | nil => rfl
  | cons b bs ih =>
    rw [forAxes_cons, State.applyStaged_none _ _ (h b (by simp))]
    exact ih (fun a ha => h a (by simp [ha]))

theorem State.applyStagedAll_frame (as : List AxisId) :
    { s.applyStagedAll as with axes := s.axes, slots := s.slots, check := s.check, linkA := s.linkA,
                               linkB := s.linkB } = s := forAxes_applyStaged_frame s _

theorem allAxes_mem : a ∈ allAxes := by revert a; decide

theorem State.applyStagedAll_axis (as : List AxisId) (b : AxisId) :
    (s.applyStagedAll as).axis b = if b ∈ as then (s.axis b).appliedStaged else s.axis b := by
  unfold State.applyStagedAll
  rw [forAxes_applyStaged_axis]
  simp [allAxes_mem]

theorem State.applyStagedAll_none (as : List AxisId) (h : ∀ a ∈ as, (s.axis a).staged = none) :
    s.applyStagedAll as = s :=
  forAxes_applyStaged_none s _ (fun a ha => h a (by simpa [allAxes_mem] using ha))

/-! ### The ends of parks, homes and runs -/

theorem State.endPark_frame (c : MotionCause) :
    { s.endPark c with park := s.park, axes := s.axes, slots := s.slots, check := s.check,
                       linkA := s.linkA, linkB := s.linkB } = s := by
  unfold State.endPark
  split
  · rfl
  · next g hg =>
    have h1 := forAxes_onAxis_frame { s with park := none } g.ids (Axis.parkEnded c)
    have h2 := State.applyStagedAll_frame
      ((forAxes g.ids (fun a t => t.onAxis a (Axis.parkEnded c)) { s with park := none }).raise .parkDone) g.ids
    rw [State.mk.injEq] at h1 h2 ⊢
    simp_all

theorem State.endPark_axis (c : MotionCause) {g : GroupEase} (hg : s.park = some g) (b : AxisId) :
    (s.endPark c).axis b =
      if b ∈ g.ids then ((s.axis b).parkEnded c).appliedStaged else s.axis b := by
  unfold State.endPark
  rw [hg]
  dsimp only
  rw [State.applyStagedAll_axis]
  split
  · next h =>
    rw [State.raise_axis, forAxes_onAxis_mem _ _ (Axis.parkEnded c) (fun _ => rfl) h]; rfl
  · next h => rw [State.raise_axis, forAxes_onAxis_notMem _ _ _ h]; rfl

theorem State.homeFails_frame (c : MotionCause) :
    { s.homeFails a c with axes := s.axes, slots := s.slots, check := s.check, linkA := s.linkA,
                           linkB := s.linkB } = s := by
  unfold State.homeFails
  generalize hf : (fun x : Axis => { x with
    datum := .unknown, owner := .none, home := none, creep := none,
    lastResult := { outcome := .homeFailed, cause := c } }) = f
  have h := State.applyStaged_frame ((s.onAxis a f).raise .homeFailed) a
  rw [State.mk.injEq] at h ⊢
  simp_all

theorem State.homeFails_axis (c : MotionCause) (b : AxisId) :
    (s.homeFails a c).axis b =
      if b = a then
        ({ s.axis a with datum := .unknown, owner := .none, home := none, creep := none,
                         lastResult := { outcome := .homeFailed, cause := c } } : Axis).appliedStaged
      else s.axis b := by
  unfold State.homeFails
  split
  · next h => subst h; rw [State.applyStaged_axis, State.raise_axis, State.onAxis_axis]
  · next h => rw [State.applyStaged_axis_ne _ _ h, State.raise_axis, State.onAxis_axis_ne _ _ h]

theorem State.endRun_frame (o : RunOutcome) (c : Option ReportCause) :
    { s.endRun o c with pass := s.pass, clock := s.clock, linkA := s.linkA, linkB := s.linkB } = s := rfl

/-- The end of a run leaves every axis as it stands. -/
theorem State.finish_axis (e : Option RunEnd) (b : AxisId) : (s.finish e).axis b = s.axis b := by
  cases e with
  | none => rfl
  | some e => cases e <;> rfl

/-- Writing the setpoints before a run's end changes what the end leaves in nothing but the axes. -/
theorem State.writeSetpoints_finish (r : PassRecord) (p : Int) (e : Option RunEnd) :
    { (s.writeSetpoints r p).finish e with axes := s.axes } = s.finish e := by
  have h := s.writeSetpoints_frame r p
  generalize s.writeSetpoints r p = u at h
  conv_rhs => rw [← h]
  cases e with
  | none => rfl
  | some e => cases e <;> rfl

/-- What an edge that may end the run can do: nothing more without an end, and with one the setpoints at the
evaluation phase and then that end. -/
theorem State.writeAndFinish_cases (r : PassRecord) (e : Option RunEnd) :
    (e = none ∧ s.writeAndFinish r e = s) ∨
    (e ≠ none ∧ { s.writeAndFinish r e with axes := s.axes } = s.finish e ∧
      ∀ b, (s.writeAndFinish r e).axis b =
        (s.writeSetpoints r (r.evaluationPhase s.clock.phase)).axis b) := by
  cases e with
  | none => exact .inl ⟨rfl, rfl⟩
  | some e =>
    exact .inr ⟨by simp, s.writeSetpoints_finish r _ (some e), fun b => State.finish_axis _ _ b⟩

theorem State.approachGivenUp_frame :
    { s.approachGivenUp with pass := s.pass, axes := s.axes } = s := by
  unfold State.approachGivenUp
  split
  · rfl
  · next g hg =>
    have h := forAxes_onAxis_frame (s.withPass { s.pass with approach := none, state := .armed }) g.ids
      (fun x => { x with creep := none })
    rw [State.mk.injEq] at h ⊢
    simp_all

theorem State.approachGivenUp_axis (b : AxisId) :
    { s.approachGivenUp.axis b with creep := (s.axis b).creep } = s.axis b := by
  unfold State.approachGivenUp
  split
  · rfl
  · next g hg =>
    by_cases h : b ∈ g.ids
    · rw [forAxes_onAxis_mem _ _ (fun x => { x with creep := none }) (fun _ => rfl) h]; rfl
    · rw [forAxes_onAxis_notMem _ _ _ h]; rfl

theorem State.faultPass_frame (c : ReportCause) :
    { s.faultPass c with pass := s.pass, clock := s.clock, axes := s.axes, linkA := s.linkA,
                         linkB := s.linkB } = s := by
  unfold State.faultPass
  split
  · rfl
  · split
    · have h := s.approachGivenUp_frame
      rw [State.mk.injEq] at h ⊢
      simp_all
    · rfl
    · rfl

theorem State.faultPass_axis (c : ReportCause) (b : AxisId) :
    { (s.faultPass c).axis b with creep := (s.axis b).creep } = s.axis b := by
  unfold State.faultPass
  split
  · rfl
  · split
    · exact s.approachGivenUp_axis b
    · rfl
    · rfl

theorem State.faultPark_frame (c : MotionCause) :
    { s.faultPark c with park := s.park, axes := s.axes, slots := s.slots, check := s.check,
                         linkA := s.linkA, linkB := s.linkB } = s := by
  unfold State.faultPark
  split
  · rfl
  · split <;> exact s.endPark_frame _

theorem State.faultHome_frame (c : MotionCause) :
    { s.faultHome a c with axes := s.axes, slots := s.slots, check := s.check, linkA := s.linkA,
                           linkB := s.linkB } = s := by
  unfold State.faultHome
  split
  · split <;> exact s.homeFails_frame a _
  · rfl

theorem State.faultHome_axis_ne (c : MotionCause) {b : AxisId} (h : b ≠ a) :
    (s.faultHome a c).axis b = s.axis b := by
  unfold State.faultHome
  split
  · split <;> rw [State.homeFails_axis, if_neg h]
  · rfl

/-- What a fault of one axis can reach. -/
theorem State.tripAxis_frame :
    { s.tripAxis a with axes := s.axes, pass := s.pass, clock := s.clock, park := s.park, slots := s.slots,
                        check := s.check, linkA := s.linkA, linkB := s.linkB } = s := by
  unfold State.tripAxis
  dsimp only
  generalize hu : ((s.setAxis a _).raise .axisTrip) = u
  have h0 : { u with axes := s.axes, linkA := s.linkA, linkB := s.linkB } = s := by rw [← hu]; rfl
  clear hu
  cases (s.axis a).owner with
  | none =>
    rw [State.mk.injEq] at h0 ⊢
    simp_all
  | pass =>
    have h := u.faultPass_frame (.trip a)
    rw [State.mk.injEq] at h h0 ⊢
    simp_all
  | park =>
    have h := u.faultPark_frame .trip
    rw [State.mk.injEq] at h h0 ⊢
    simp_all
  | home =>
    have h := u.faultHome_frame a .trip
    rw [State.mk.injEq] at h h0 ⊢
    simp_all

theorem forAxes_faultHome_frame (c : MotionCause) (as : List AxisId) :
    { forAxes as (fun a t => t.faultHome a c) s with
        axes := s.axes, slots := s.slots, check := s.check, linkA := s.linkA, linkB := s.linkB } = s := by
  induction as generalizing s with
  | nil => rfl
  | cons b bs ih =>
    have h := ih (s.faultHome b c)
    have h2 := State.faultHome_frame s b c
    rw [forAxes_cons]
    rw [State.mk.injEq] at h h2 ⊢
    simp_all

theorem State.allDrivesOff_frame (c : ReportCause) (m : MotionCause) :
    { s.allDrivesOff c m with
        axes := s.axes, pass := s.pass, clock := s.clock, park := s.park, slots := s.slots,
        check := s.check, linkA := s.linkA, linkB := s.linkB } = s := by
  have h1 := State.faultPass_frame (s.onAxes Axis.driveOff) c
  have h2 := State.faultPark_frame ((s.onAxes Axis.driveOff).faultPass c) m
  have h3 := forAxes_faultHome_frame (((s.onAxes Axis.driveOff).faultPass c).faultPark m) m allAxes
  unfold State.allDrivesOff
  rw [State.mk.injEq] at h1 h2 h3 ⊢
  simp_all

theorem State.compareSupply_frame :
    { s.compareSupply with
        supplyLow := s.supplyLow, axes := s.axes, pass := s.pass, clock := s.clock, park := s.park,
        slots := s.slots, check := s.check, linkA := s.linkA, linkB := s.linkB } = s := by
  unfold State.compareSupply
  split
  · split <;> rfl
  · split
    · unfold State.supplyStop
      split
      · rfl
      · have h := State.allDrivesOff_frame ({ s with supplyLow := true }.raise .supplyLow) .supply .supply
        rw [State.mk.injEq] at h ⊢
        simp_all
    · rfl

/-! ### The clock's ticks -/

theorem State.passFrameStart_frame (n : Int) : { (s.passFrameStart n).1 with pass := s.pass } = s := by
  unfold State.passFrameStart
  split
  · rfl
  · split <;> rfl

theorem State.frameStart_frame (n : Int) :
    { (s.frameStart n).1 with pass := s.pass, clock := s.clock } = s := by
  unfold State.frameStart
  dsimp only
  generalize (if s.clock.mode = some .master then _ else _ : Clock) = c
  have h := State.passFrameStart_frame (s.withClock c) n
  rw [State.mk.injEq] at h ⊢
  simp_all

theorem State.phaseMoves_frame (p : Int) :
    { (s.phaseMoves p).1 with pass := s.pass, clock := s.clock } = s := by
  unfold State.phaseMoves
  dsimp only
  split
  · have h := State.frameStart_frame (s.withClock { s.clock with phase := p })
      (s.clock.nextFrameStart / puPerFrame)
    rw [State.mk.injEq] at h ⊢
    simp_all
  · split <;> rfl

theorem State.rampEnd_frame :
    { s.rampEnd.1 with pass := s.pass, clock := s.clock, linkA := s.linkA, linkB := s.linkB } = s := by
  unfold State.rampEnd
  split <;> (try split) <;> rfl

/-- A clocking tick writes the clock and the pass, and raises PASS_HELD at most. -/
theorem State.tickClocking_frame :
    { s.tickClocking.1 with pass := s.pass, clock := s.clock, linkA := s.linkA, linkB := s.linkB } = s := by
  unfold State.tickClocking
  dsimp only
  generalize hc : ({ s.clock with ramp := _, appliedRate := _, remainder := _ } : Clock) = c
  generalize hp : c.capLimit _ = p
  have h := State.phaseMoves_frame (s.withClock c) p
  rcases hq : (s.withClock c).phaseMoves p with ⟨s1, _ | e⟩
  · have h2 := State.rampEnd_frame s1
    rw [hq] at h
    rw [State.mk.injEq] at h h2 ⊢
    simp_all
  · rw [hq] at h
    rw [State.mk.injEq] at h ⊢
    simp_all

end Sys2Proof.Machine
end

