-- ==== Sys2Proof/Tests/Slice0.lean ====
section
/-! SUPPORT. Tests of the model: ill-formed commands, the worked examples of spec/ on single steps, and for
every statement that has hypotheses a concrete state and operands that meet them. Every expected value
is the manual's. -/

namespace Sys2Proof.Machine.Tests

-- One theorem at a time: the kernel evaluates a whole state in each.
set_option Elab.async false

/-! ## Helpers -/

/-- The state a command leaves. -/
def after (i : Instr) (s : State) : State :=
  match exec i s with
  | .next t => t
  | .fault _ => s
  | .refused _ => s

/-- The state one step leaves. -/
def stepped (s : State) : State :=
  match step s with
  | .next t => t
  | .fault _ => s
  | .refused _ => s

/-- The reason of the response ready on a link. -/
def reasonOn (l : LinkId) (s : State) : Option Reason :=
  match (s.link l).answer with
  | some (.response _ why _) => some why
  | _ => none

/-- The results of the response ready on a link. -/
def resultsOn (l : LinkId) (s : State) : Option Results :=
  match (s.link l).answer with
  | some (.response _ _ res) => some res
  | _ => none

/-- After initialization. -/
def serving : State := { State.reset with phase := .serving }

/-- The record of axis 0 in the worked pass of section 7.11, with the homing fields of the example of
section 5.5. -/
def rig : AxisRecord :=
  { softLow := -1000, softHigh := 90000, vmax := 200000, amax := 400000, jmax := 2000, vc := 20000,
    ac := 50000, pmax := 100, feMax := 90, feWarn := 60, homeMethod := .switch,
    homeDirection := .negative, homeSpeed := 4000, homeOffset := -500, searchTravel := 200000,
    settleTime := 10 }

/-- The same record as AXIS_SET carries it. -/
def rigArgs : RecordArgs :=
  { softLow := -1000, softHigh := 90000, vmax := 200000, amax := 400000, jmax := 2000, vc := 20000,
    ac := 50000, pmax := 100, feMax := 90, feWarn := 60, homeMethod := 0, homeDirection := 0,
    homeSpeed := 4000, homeOffset := -500, searchTravel := 200000, settleTime := 10 }

/-- An axis in service. -/
def inService : Axis := { Axis.reset with conf := rig, drive := .on, datum := .known }

/-- A serving state with axis 0 as given. -/
def withAxis (x : Axis) : State := serving.setAxis 0 x

/-- The keys of move 12 (section 3.5). -/
def keys12 : List AxisKey :=
  [{ frame := 100, value := 0, mode := .flat }, { frame := 148, value := 48000, mode := .given 1500 1500 },
   { frame := 196, value := 84000, mode := .flat }]

/-- Move 12 of the worked examples, OPEN. -/
def move12 : Move :=
  { Move.fresh [] 100 196 with axisTracks := (Vector.replicate 16 []).set 0 keys12 }

/-- The summary of move 12 (section 3.5). -/
def summary12 : Summary :=
  { ceiling := 79681, limitingAxis := .axis 0, cause := .acceleration, frame := 100,
    extents := [{ axis := 0, low := 0, high := 84000 }] }

/-- Move 12 in another state, with its summary. -/
def certified12 (st : MoveState) : Move := { move12 with state := st, summary := some summary12 }

/-- Axis 0 in service and a move in slot 12. -/
def withMove (m : Move) : State :=
  { (withAxis inService).setMove 12 (some m) with free := 512 - m.blocks }

/-- An operation of link A in progress on that store. -/
def working (op : EditOp) : State :=
  { withMove move12 with
    edit := (some { link := .a, op := op, answerDue := true, rangeReset := false, elapsed := 0 }) }

/-- The run of an operation of link A. -/
def runOf (op : EditOp) : EditRun :=
  { link := .a, op := op, answerDue := true, rangeReset := false, elapsed := 0 }

/-- The pass record of section 7.11, in a mode. -/
def record12 (mode : SyncMode) : PassRecord :=
  { slot := 12, first := 100, last := 196, direction := .forward, mode := mode, rate := some 24000,
    axes := [{ axis := 0, offset := 0 }], lead := 4, trail := 2, holdRamp := 20, stopRamp := 200,
    rollSource := .command, step := none }

/-- The same pass as PASS_ARM carries it. -/
def passArgs : PassArgs :=
  { slot := 12, first := 100, last := 196, direction := 0, mode := 0, ratePresence := 1, rate := 24000,
    axes := [(0, 0)], lead := 4, trail := 2, holdRamp := 20, stopRamp := 200, rollSource := 0,
    stepTime := 400, stepSettle := 100, exposureControl := 1, exposureTime := 6000, stepInput := 1 }

/-- The step fields of section 8.6. -/
def fields : StepFields :=
  { stepTime := 400, settle := 100, exposure := .handshake 6000, inputEnable := true }

/-- The STEP pass of section 8.6. -/
def stepRecord : PassRecord := { record12 .step with first := 120, last := 126, step := some fields }

/-- A pass on move 12 with axis 0, in a state, on a clock. -/
def passing (r : PassRecord) (p : PassState) (c : Clock) : State :=
  { (withMove (certified12 .bound)).setAxis 0 { inService with owner := .pass } with
    pass := { Pass.reset with state := p, record := some r }
    clock := c }

/-- The report's outcome is RUNNING. -/
def reporting (s : State) : State :=
  { s with pass := { s.pass with report := { s.pass.report with outcome := .running } } }

/-- A clock that runs the pass of section 7.11 at 24 fps, N at 0. -/
def clocking : Clock :=
  { Clock.reset with
    state := .clocking, mode := some .master, direction := some .forward, phase := 6553600,
    currentFrame := 100, travelLimit := some 12976128, baseRate := 24000, appliedRate := 24000 }

/-- A clock that follows a camera, in a lock state. -/
def following (k : LockState) (begun : Bool) : Clock :=
  { Clock.reset with
    state := .following, mode := some .follower, direction := some .forward, phase := 6553600,
    currentFrame := 100, travelLimit := some 12976128, lock := some k, firstFrameBegun := some begun }

/-! ## Ill-formed commands -/

theorem test_ill_byte : WellFormed (.crcMode .a 256) = false ∧ WellFormed (.crcMode .a 255) = true := by decide
theorem test_ill_two :
    WellFormed (.keyMarkLast .a 65536 none) = false ∧ WellFormed (.keyMarkLast .a 65535 none) = true := by
  decide
theorem test_ill_exp : WellFormed (.keyDrop .a (some 65536)) = false ∧
    WellFormed (.keyDrop .a (some 65535)) = true := by decide
theorem test_ill_label_new : WellFormed (.moveNew .a 1 0 1 (List.replicate 233 0x41#8) none) = false ∧
    WellFormed (.moveNew .a 1 0 1 (List.replicate 232 0x41#8) none) = true := by decide +kernel
theorem test_ill_label : WellFormed (.moveLabel .a 1 (List.replicate 237 0x41#8) none) = false ∧
    WellFormed (.moveLabel .a 1 (List.replicate 236 0x41#8) none) = true := by decide +kernel
theorem test_ill_four : WellFormed (.axisSet .a 0 { rigArgs with vmax := 4294967296 }) = false ∧
    WellFormed (.axisSet .a 0 { rigArgs with vmax := 4294967295 }) = true := by decide
theorem test_ill_signed : WellFormed (.axisSet .a 0 { rigArgs with softLow := -2147483649 }) = false ∧
    WellFormed (.axisSet .a 0 { rigArgs with softLow := -2147483648 }) = true := by decide
theorem test_ill_park : WellFormed (.axisPark .a (List.replicate 17 (0, 0))) = false ∧
    WellFormed (.axisPark .a (List.replicate 16 (0, 0))) = true ∧
    WellFormed (.axisPark .a [(256, 0)]) = false ∧ WellFormed (.axisPark .a [(0, 2147483648)]) = false := by
  decide
theorem test_ill_pass : WellFormed (.passArm .a { passArgs with lead := 256 }) = false ∧
    WellFormed (.passArm .a { passArgs with ratePresence := 0 }) = false ∧
    WellFormed (.passArm .a { passArgs with axes := List.replicate 43 (0, 0) }) = false ∧
    (let bare : PassArgs := { passArgs with ratePresence := 0, rate := 0 }
    WellFormed (.passArm .a { bare with axes := List.replicate 43 (0, 0) }) = true ∧
    WellFormed (.passArm .a { bare with axes := List.replicate 44 (0, 0) }) = false) ∧
    WellFormed (.passArm .a passArgs) = true := by decide +kernel
theorem test_ill_edge : WellFormed (.cameraFrameEdge 16385) = false ∧
    WellFormed (.cameraFrameEdge 16384) = true := by decide +kernel
theorem test_ill_supply : WellFormed (.supplyMonitorLow 601) = false ∧
    WellFormed (.supplyMonitorOk 600) = true := by decide

/-- No row of the table has bits (entry 4). -/
theorem test_no_word : decodeTableWord 8 0xC3 = none ∧ (serving.withFetchWord 8 0xC3 = serving) := by
  exact ⟨rfl, rfl⟩

/-! ## The worked examples of the manual -/

/-- Section 11.2: the CRC of a STATUS frame is 80h 0Dh. -/
theorem test_crc_status : frameBytes (.status .a) = some [0x00#8, 0x00#8, 0x80#8, 0x0D#8] ∧
    crcByte 0xFFFF#16 0x00#8 = 0xFD02#16 := by decide +kernel

/-- Section 3.5: the peaks and the ceiling of move 12. -/
theorem test_check_move12 :
    checkResult move12 [limitsOf 0 rig] = .certified summary12 ∧
    (axisPeaks 0 keys12).velocity = { value := 1500, frame := 100 } ∧
    (axisPeaks 0 keys12).acceleration = { value := 63, frame := 100 } := by decide +kernel

/-- Section 3.5: the corner of move 20. -/
theorem test_check_corner :
    let keys : List AxisKey :=
      [{ frame := 0, value := 0, mode := .given 0 400 }, { frame := 50, value := 30000, mode := .flat }]
    let p := axisPeaks 3 keys
    p.velocity.value = 817 ∧ p.acceleration.value = 56 ∧ p.corner = { value := 400, frame := 0 } ∧
    axisCeiling { axis := 3, vmax := 60000, amax := 40000, jmax := 8000, unset := false } p =
      some { rate := 20000, cause := .corner, frame := 0 } := by decide +kernel

/-- Section 4.2, worked case A: frames 124, 112, 90, 148 and 206, and an offset of −2,000. -/
theorem test_curve_case_a :
    trackValue keys12 (124 * 65536) 0 = 15000 ∧ trackValue keys12 (112 * 65536) 0 = 4125 ∧
    trackValue keys12 (90 * 65536) 0 = 0 ∧ trackValue keys12 (148 * 65536) 0 = 48000 ∧
    trackValue keys12 (206 * 65536) 0 = 84000 ∧ trackValue keys12 (124 * 65536) (-2000) = 13000 := by
  decide +kernel

/-- Section 4.2, worked case B: the sum is rounded to nearest. -/
theorem test_curve_case_b :
    trackValue [{ frame := 0, value := 1000, mode := .given 0 100 },
      { frame := 3, value := 1300, mode := .given 100 0 }] 65536 0 = 1100 := by decide +kernel

/-- Section 4.3: a speed ramp. -/
theorem test_speed_ramp :
    [-3, 0, 40, 99, 100, 101, 106].map (speedRate [{ frame := 0, rate := 24000 },
      { frame := 100, rate := 48000 }, { frame := 107, rate := 24000 }]) =
      [24000, 24000, 33600, 47760, 48000, 44571, 27428] := by decide +kernel

/-- Section 4.4, worked case C, and section 7.11: ease durations and offsets. -/
theorem test_ease :
    easeDuration [{ dist := 12000, vc := 20000, ac := 50000 }, { dist := -500, vc := 5000, ac := 10000 }] =
      some 2400 ∧
    [1, 10, 600, 1200, 1800, 2400].map (easeOffset 12000 2400) = [0, 1, 1875, 6000, 10125, 12000] ∧
    easeOffset (-500) 2400 1200 = -250 ∧
    easeDuration [{ dist := -5000, vc := 20000, ac := 50000 }] = some 1550 ∧
    easeDuration [{ dist := -84000, vc := 20000, ac := 50000 }] = some 12600 ∧
    easeOffset 65536 200 100 = 32768 := by decide +kernel

/-- Section 5.5: the velocities of a home at 4,000 counts/s. -/
theorem test_home_velocities : rig.searchVelocity = -131072 ∧ creepStep rig.ac = 819 ∧
    rig.backOffVelocity = 16384 := by decide

/-- Section 5.5: AXIS_HOME taken at setpoint 12,345. -/
theorem test_home_begins :
    let s := withAxis { inService with datum := .unknown, setpoint := 12345 }
    let x := (after (.axisHome .a 0) s).axis 0
    x.owner = .home ∧ x.datum = .seeking ∧
    x.home = some { leg := .searching, start := 12345, cause := .none } := by decide +kernel

/-- Section 5.5: the switch releases with the encoder at 2,006 and the setpoint at 2,009. -/
theorem test_home_release :
    let s := withAxis { inService with
      owner := .home, datum := .seeking, homeSwitch := true, encoder := 2006, setpoint := 2009,
      stepPosition := 2009, home := some { leg := .backingOff, start := 1000, cause := .none } }
    let x := (after (.homeSwitchRelease 0) s).axis 0
    x.encoder = -500 ∧ x.setpoint = -497 ∧ x.stepPosition = -497 ∧
    x.home.map (·.leg) = some .finishing := by decide +kernel

/-- Section 6.3, worked case D: the first tick from frame 96 at 24 fps. -/
theorem test_tick_case_d :
    let s := reporting (passing (record12 .master) .rolling
      { clocking with phase := 6291456, currentFrame := 96 })
    let c := (after .servoTick s).clock
    c.phase = 6291456 + 786 ∧ c.remainder = 864000 ∧ c.currentFrame = 96 := by decide +kernel

/-- Section 6.4: the first tick of a hold ramp of 20. -/
theorem test_hold_tick :
    let s := reporting (passing (record12 .master) .holding { clocking with ramp := .hold 20 0 })
    let c := (after .servoTick s).clock
    c.appliedRate = 22800 ∧ c.phase = 6553600 + 747 ∧ c.remainder = 220800 := by decide +kernel

/-- Section 6.4: an abort at hold tick 10 begins the stop at tick 100. -/
theorem test_stop_tick : stopTick 200 10 20 = 100 ∧
    ((after (.passAbort .a) (reporting (passing (record12 .master) .holding
      { clocking with ramp := .hold 20 10 }))).clock.ramp = .stop 200 100) := by decide +kernel

/-- Section 6.5: the edge at 1,365,333 gives increment 786 and rate 24,000; an edge 40,000 later is a glitch. -/
theorem test_camera_edges :
    let s := { passing (record12 .follower) .rolling
        { following .acquiring false with lastEdge := some 0 } with refClock := 1359872 }
    let c := (after (.cameraFrameEdge 5461) s).clock
    let g := (after (.cameraFrameEdge 5461) { s with
      clock := { s.clock with lastEdge := some 1325333 } }).clock
    c.lastPeriod = some 1365333 ∧ c.increment = 786 ∧ c.measuredRate = 24000 ∧ c.stableCount = 0 ∧
    g.glitchCount = 1 ∧ g.lastEdge = some 1325333 ∧ g.lastPeriod = none := by decide +kernel

/-- Section 7.11: the approach from setpoint 5,000 takes 1,550 ticks. -/
theorem test_arm_and_approach :
    let s := (withMove (certified12 .ready)).setAxis 0 { inService with setpoint := 5000 }
    let t := after (.passArm .a passArgs) s
    t.pass.state = .armed ∧ (t.axis 0).owner = .pass ∧ (t.move 12).map (·.state) = some .bound ∧
    (after (.passGoStart .a) t).pass.approach.map (·.duration) = some 1550 := by decide +kernel

/-- Section 7.11: a pass at 96,000 mfps is refused CEILING. -/
theorem test_arm_ceiling :
    let s := (withMove (certified12 .ready)).setAxis 0 { inService with setpoint := 5000 }
    reasonOn .a (after (.passArm .a { passArgs with rate := 96000 }) s) = some .ceiling := by decide +kernel

/-- Section 9.5: the clamps of ticks 1 and 2 and the jam of tick 2. -/
theorem test_clamps :
    let x := { inService with
      owner := .pass, conf := { rig with softHigh := 50000, pmax := 40 },
      stepPosition := 49930, setpoint := 49980, encoder := 49940 }
    let y := x.outputTick
    let z := { y with setpoint := 50020, encoder := 49975 }.outputTick
    y.stepPosition = 49970 ∧ y.pulseClamp = true ∧ y.softClamp = false ∧ y.followingError = 40 ∧
    z.setpoint = 50000 ∧ z.stepPosition = 50000 ∧ z.softClamp = true ∧ z.followingError = 25 ∧
    { y with setpoint := 50020, encoder := 49900 }.outputTick.trips = true := by decide +kernel

/-- Section 1.5: three keys at frames 5, 10 and 320 join a track of 32. -/
theorem test_merge :
    let keys : List AxisKey := (List.range 32).map (fun i => { frame := 10 * i, value := 0, mode := .auto })
    let block : List AxisKey := [5, 10, 320].map (fun f => { frame := f, value := 1, mode := .flat })
    let m := { Move.fresh [] 0 400 with axisTracks := (Vector.replicate 16 []).set 2 keys }
    let n := m.merge (.axis 2) (.axis block)
    m.blocks = 1 ∧ n.blocks = 2 ∧ n.keyCount (.axis 2) = 34 ∧
    (n.frames (.axis 2)).take 4 = [0, 5, 10, 20] ∧
    ((n.keep (.axis 2) (fun f => !inMarks 300 400 f)).keyCount (.axis 2)) = 31 := by decide +kernel

/-- Section 2.2: a label edit of a READY move, and the STALE refusal of the other link. -/
theorem test_two_links :
    let s := withMove { certified12 .ready with generation := 12 }
    let t := after (.moveLabel .a 12 [0x50#8] (some 12)) s
    resultsOn .a t = some (.generation 13) ∧ (t.move 12).map (·.state) = some .opened ∧
    reasonOn .b (after (.moveSpan .b 12 100 900 (some 12)) t) = some .stale ∧
    resultsOn .b (after (.moveSpan .b 12 100 900 (some 13)) t) = some (.generation 14) := by decide +kernel

/-- Section 2.5: a range delete broken by a label edit, and one that removes a key. -/
theorem test_range_delete :
    let s := (withMove move12).onLink .a (fun k => { k with marks := .both 12 (.axis 0) 120 160 })
    let t := after (.moveLabel .a 12 [0x50#8] none) s
    (t.link .a).marks = .absent ∧ reasonOn .a (after (.keyDrop .a (some 1)) t) = some .sequence ∧
    resultsOn .a (after .keyDropEnd (after (.keyDrop .a (some 0)) s)) = some (.dropped 1 1) := by decide +kernel

/-- Section 2.4: a block behind the other link's operation is buffered, a second one is refused OVERRUN. -/
theorem test_overrun :
    let keys : BlockKeys := .axis [{ frame := 110, value := 7, mode := .auto }]
    let s := (working (.dataBlock 12 (.axis 1) keys)).onLink .b
      (fun k => { k with transfer := some (.put 12 (.axis 2) 0 0) })
    let t := after (.dataBlock .b (0xF1#8 :: withCrc (blockBytes keys))) s
    (t.link .b).buffer.isSome = true ∧ (t.link .b).answer = none ∧
    ((after (.dataBlock .b (0xF1#8 :: withCrc (blockBytes keys))) t).link .b).answer =
      some (.blockRefused .overrun) := by decide +kernel

/-- Sections 10.1 and 11.2: a STATUS frame behind its marker, the markers without a frame, and a byte of no
item. -/
theorem test_item_markers :
    itemBytes (.status .a) = some [0xC3#8, 0x00#8, 0x00#8, 0x80#8, 0x0D#8] ∧
    readItem true .a [0xC3#8, 0x00#8, 0x00#8, 0x80#8, 0x0D#8] = some (.status .a) ∧
    readItem true .a [0xF4#8] = some (.endMarker .a) ∧
    readItem true .b [0xF2#8] = some (.collectRequest .b) ∧ readItem true .a [0xC4#8] = none ∧
    after (.commandFrameRejected .a [0xC4#8, 0x00#8]) serving = serving := by decide +kernel

/-- O5, entry 26: a STATUS frame on this row ends the selection before it, with the answer that stood ready. -/
theorem test_passing_frame_deselects :
    after (.commandFrameRejected .a [0xC3#8, 0x00#8, 0x00#8, 0x80#8, 0x0D#8])
      (serving.answer .a .closeRefused) = serving := by decide +kernel

/-- R180, R181, R191: a refused command's status byte takes ATTENTION from an event after the refusal. -/
theorem test_status_byte_at_sending :
    let t := after (.passRun .a) (serving.onLink .a (fun k => { k with mask := 0x400#17 }))
    (t.unitSent .a).bind (·.head?) = some 0x08#8 ∧
    ((after .estopAssert t).unitSent .a).bind (·.head?) = some 0x09#8 := by decide +kernel

/-- Section 8.6: PASS_STEP 3 FORWARD at frame 120, a step advance edge, and PASS_STEP 1 REVERSE refused. -/
theorem test_steps :
    let s := reporting (passing stepRecord .stepReady
      { Clock.reset with state := .stepping, phase := 7864320, currentFrame := 120 })
    let s1 := { s with pass := { s.pass with stepping := { Stepping.reset with destination := some 120 } } }
    let t := after (.passStep .a 3 0) s1
    t.pass.state = .stepMoving ∧ t.pass.stepping.pending = 2 ∧ t.pass.stepping.destination = some 121 ∧
    (after .stepAdvanceEdge t).pass.stepping.pending = 3 ∧
    reasonOn .a (after (.passStep .a 1 1) t) = some .state ∧
    reasonOn .a (after (.passStep .a 4 0) t) = some .range := by decide +kernel

/-! ## Witnesses: the hypotheses of every statement meet in a concrete state -/

/-- O1. -/
theorem witness_StepRunsTheFrontCommand :
    { serving with pending := [.servoTick, .status .a] }.pending = Instr.servoTick :: [.status .a] ∧
    serving.pending = [] := by decide

/-- O3: a response ready on a link. -/
theorem witness_DeselectionsAndResponses :
    ((after (.passRun .a) serving).link .a).answer = some (.response
      { illegal := false, frame := false, refused := true, rangeReset := false } .state .none) := by
  decide +kernel

/-- O4: the longest numbers of a frame. -/
theorem witness_CommandFramesReadBack :
    let i : Instr := .moveSpan .b 255 65535 65535 (some 65535)
    WellFormed i = true ∧ commandCode i = some 0x13 ∧ senderOf i = some .b := by decide

/-- O4, O5: the bytes next to the four markers. -/
theorem witness_BytesOfNoItem : ∀ b ∈ [0xC2#8, 0xC4#8, 0xF0#8, 0xF3#8, 0xF5#8],
    b ≠ 0xC3#8 ∧ b ≠ 0xF1#8 ∧ b ≠ 0xF4#8 ∧ b ≠ 0xF2#8 := by decide

/-- O5: a length above 240 and one of 240, a bad CRC, an unassigned code, a wrong length, and a frame one byte
short, under both CRC modes; and the items of a part that initializes. -/
theorem witness_FramesAnsweredWithoutExecution :
    240 < (241#8).toNat ∧
    ((240#8).toNat ≤ 240 ∧ (List.replicate 240 0#8).length = (240#8).toNat ∧
      (serving.link .a).crcOn = true ∧ [0#8, 0#8] ≠ crcBytes (crcOf [0x00#8, 0x00#8])) ∧
    ((serving.onLink .a (fun k => { k with crcOn := false })).link .a).crcOn = false ∧
    codeAssigned (0x06#8).toNat = false ∧
    (codeAssigned (0x04#8).toNat = true ∧ lengthAccepted (0x04#8).toNat [] = false) ∧
    (codeAssigned (0x04#8).toNat = true ∧ lengthAccepted (0x04#8).toNat [0x00#8] = true) ∧
    (List.replicate 241 0#8).length < (240#8).toNat + 2 ∧
    (State.reset.phase = .initializing ∧ commandCode (.eventsRead .a) = some 1 ∧
      commandCode (.eventsMask .a 0) = some 2 ∧ senderOf (.eventsMask .a 0) = some .a) ∧
    testBlock (State.reset.link .a).crcOn (State.reset.link .a).keySize
      (withCrc (blockBytes (.axis [{ frame := 0, value := 0, mode := .auto }]))) =
        .received { count := 1, body := List.replicate 13 0#8 } := by decide +kernel

/-- O6: the highest kind, one bit beyond it, and the first bad mode byte. -/
theorem witness_TheLinksOwnCommands : serving.phase = .serving ∧
    (0x01FFFF#24).toNat < 131072 ∧ 131072 ≤ (0x020000#24).toNat ∧ 1 < 2 := by decide

/-- O7: axis 16, slots 1, 64 and 65, a target slot, an EMPTY slot and a move. -/
theorem witness_ReadsReturnTheRecordsAsTheyStand :
    serving.phase = .serving ∧ 15 < 16 ∧ 64 < 65 ∧ serving.isTarget 1 = false ∧ serving.move 64 = none ∧
    (working (.moveRetire 12)).phase = .serving ∧ (working (.moveRetire 12)).isTarget 12 = true ∧
    (withMove move12).isTarget 12 = false ∧ (withMove move12).move 12 = some move12 := by decide +kernel

/-- O7: a full directory, the lowest EMPTY slot at each end, one BOUND and one CHECKING move, and neither. -/
theorem witness_TheDirectoryIsRead :
    let full : State := { serving with slots := Vector.replicate 64 (some move12) }
    let one : State := withMove (certified12 .bound)
    let two : State := one.setMove 64 (some { move12 with state := .checking })
    (∀ n < 65, 1 ≤ n → (full.move n).isSome = true) ∧ serving.move 1 = none ∧
    (full.setMove 64 none).move 64 = none ∧
    (∀ k < 64, 1 ≤ k → ((full.setMove 64 none).move k).isSome = true) ∧
    ((∀ n < 65, serving.stateOf n ≠ some .bound) ∧ ∀ n < 65, serving.stateOf n ≠ some .checking) ∧
    (two.stateOf 12 = some .bound ∧ ∀ k < 65, two.stateOf k = some .bound → k = 12) ∧
    (two.stateOf 64 = some .checking ∧ ∀ k < 65, two.stateOf k = some .checking → k = 64) := by
  decide +kernel

/-- O8: the counts next to the bound of initialization. -/
theorem witness_HardResetAndItsValues :
    State.reset.phase = .initializing ∧ serving.phase = .serving ∧ State.reset.initTicks + 1 < 200 ∧
    ({ State.reset with initTicks := 199 }.phase = .initializing ∧
      200 ≤ { State.reset with initTicks := 199 }.initTicks + 1) := by decide

/-- O9: a seeking home, a park, a drive ON with an unset record staged, and a RESET to answer. -/
theorem witness_SoftResetActsOnTheWholePart :
    ((withAxis { inService with datum := .seeking, owner := .home }).axis 0).datum = .seeking ∧
    ((withAxis { inService with datum := .seeking, owner := .home }).axis 0).owner = .home ∧
    ((withAxis { inService with owner := .park }).axis 0).owner = .park ∧
    ((withAxis inService).axis 0).drive = .on ∧
    (({ Axis.reset with staged := some AxisRecord.reset } : Axis).staged.any AxisRecord.unset) = true ∧
    ((serving.onLink .a (fun k => { k with resetDue := true })).link .a).resetDue = true := by decide +kernel

/-- O9: a move under check, and a READY and a BOUND move that keep or lose their certificate. -/
theorem witness_SoftResetAndTheMoves :
    let c : State := { withMove { move12 with state := .checking } with
      check := some { slot := 12, limits := [], peaks := [], extents := [], elapsed := 0 } }
    let s := passing (record12 .master) .armed .reset
    let d := s.setAxis 0 { inService with staged := some { rig with amax := 300000 } }
    (c.check.map (·.slot) = some 12 ∧ c.move 12 = some { move12 with state := .checking }) ∧
    (s.move 12 = some (certified12 .bound) ∧ s.check = none ∧ s.pass.record.map (·.slot) = some 12 ∧
      (certified12 .bound).uncertify = false ∧ ∀ a ∈ allAxes, (s.axis a).staged = none) ∧
    (withMove (certified12 .ready)).move 12 = some (certified12 .ready) ∧
    ((certified12 .bound).hasTrack 0 = true ∧
      (d.axis 0).staged = some { rig with amax := 300000 } ∧
      (d.axis 0).conf.limitsDiffer { rig with amax := 300000 } = true) ∧
    ({ certified12 .bound with uncertify := true } : Move).uncertify = true := by decide +kernel

/-- O10. -/
theorem witness_ResetTakesEffectAtOnceOrAfterTheOperation :
    serving.phase = .serving ∧ serving.edit = none ∧ (working (.moveRetire 12)).edit.isSome = true ∧
    (working (.moveRetire 12)).edit = some (runOf (.moveRetire 12)) ∧
    { working (.moveRetire 12) with resetWaiting := true }.resetWaiting = true ∧
    State.reset.phase = .initializing := by decide +kernel

/-- A check of move 12 on the tick of its bound, and a retire of slot 1 of link A. -/
def checkingAndRetiring : State :=
  { withMove { move12 with state := .checking } with
    check := some { slot := 12, limits := [limitsOf 0 rig], peaks := [], extents := [], elapsed := 10 }
    edit := some (runOf (.moveRetire 1)) }

/-- O10, O26: RESET waits, the check is in progress, and the operation leaves its move as it is. -/
theorem witness_ResetWaitsWithACheck :
    let s := after (.reset .b) checkingAndRetiring
    s.resetWaiting = true ∧ s.edit = some (runOf (.moveRetire 1)) ∧ s.check.map (·.slot) = some 12 ∧
    (s.completeOp (runOf (.moveRetire 1))).move 12 = some { move12 with state := .checking } ∧
    checkingAndRetiring.resetWaiting = false := by decide +kernel

/-- R66, R68: RESET taken before the check ends. The check does not end at its bound, and the end of the store
operation leaves the move OPEN with CANCELLED, and no flag. -/
theorem test_reset_cancels_a_check_behind_an_operation :
    let s := (after .checkEnd (after (.reset .b) checkingAndRetiring)).tickCheck
    let t := after .moveRetireEnd s
    s.stateOf 12 = some .checking ∧
    t.move 12 = some { move12 with
      state := .opened, failure := some { reason := .cancelled, track := none, frame := 0 } } ∧
    t.check = none ∧ (t.link .a).flags = 0 ∧ reasonOn .b t = some .none ∧
    ((after .checkEnd checkingAndRetiring).stateOf 12 = some .ready) := by decide +kernel

/-- O11. -/
theorem witness_OneLinkLeavesTheOtherLinkAlone :
    senderOf (.moveRetire .a 12 none) = some .a ∧ Instr.moveRetire .a 12 none ≠ .reset .a ∧
    exec (.moveRetire .a 12 none) (withMove move12) =
      .next (after (.moveRetire .a 12 none) (withMove move12)) := by
  exact ⟨by decide, by decide, rfl⟩

/-- O12. -/
theorem witness_AContentChangeActsByTheMovesState :
    (withMove move12).move 12 = some move12 ∧ move12.state = .opened ∧
    (withMove (certified12 .ready)).move 12 = some (certified12 .ready) ∧
    (withMove { move12 with state := .checking }).move 12 = some { move12 with state := .checking } := by
  decide +kernel

/-- O13: slot 0 and slot 64, the longest span and label, and a full directory. -/
theorem witness_MoveNewTakesTheNamedOrTheLowestEmptySlot :
    (working (.moveRetire 12)).edit = some (runOf (.moveRetire 12)) ∧ (runOf (.moveRetire 12)).link ≠ .b ∧
    (serving.phase = .serving ∧ serving.edit = none ∧ serving.move 64 = none) ∧
    (0 < 65535 ∧ 65535 ≤ 65535 ∧ (List.replicate 16 0x7E#8).length ≤ 16 ∧
      ∀ b ∈ List.replicate 16 0x7E#8, 0x20 ≤ b.toNat ∧ b.toNat ≤ 0x7E) ∧
    ((withMove move12).move 12).isSome = true ∧
    (∀ n ≤ 64, 1 ≤ n → (({ serving with
      slots := Vector.replicate 64 (some move12) } : State).move n).isSome = true) ∧
    ((serving.setMove 1 (some move12)).move 2 = none ∧
      ∀ k < 2, 1 ≤ k → ((serving.setMove 1 (some move12)).move k).isSome = true) := by decide +kernel

/-- O14: the same span, a span that just holds the keys, a span that leaves a key out, and both labels. -/
theorem witness_SpanAndLabelEditsReplaceTheirField :
    let s := withMove move12
    (s.phase = .serving ∧ s.edit = none ∧ s.move 12 = some move12 ∧ move12.state ≠ .bound ∧
      move12.isProtected = false) ∧ (∀ g, (none : Option Nat) = some g → g = move12.generation) ∧
    (∀ f ∈ move12.frames (.axis 0), 100 ≤ f ∧ f ≤ 196) ∧ move12.outside 100 196 = none ∧
    ¬(move12.first = 99 ∧ move12.last = 196) ∧ move12.outside 101 196 = some (.axis 0, 100) ∧
    move12.label = [] ∧ move12.label ≠ [0x20#8] := by
  and_intros <;> decide +kernel

/-- O15: the highest track byte, the free track of the other link, and an end marker in each case. -/
theorem witness_KeyTransfersOpenAndClose :
    let s := withMove move12
    let p := s.onLink .a (fun k => { k with transfer := some (.put 12 .speed 3 0) })
    (s.phase = .serving ∧ trackOf 16 = some .speed ∧ s.move 12 = some move12 ∧
      (s.link .a).transfer = none ∧ s.edit = none ∧ move12.state ≠ .bound ∧ move12.isProtected = false ∧
      s.isTarget 12 = false) ∧
    (∀ x, (s.link .b).transfer = some x → x.target ≠ (12, .speed)) ∧
    (p.link .a).transfer = some (.put 12 .speed 3 0) ∧
    (∀ slot t n i, (s.link .a).transfer ≠ some (.put slot t n i)) ∧
    (working (.moveRetire 12)).edit.isSome = true := by
  have h : ∀ l, ((withMove move12).link l).transfer = none := fun l => by cases l <;> decide +kernel
  and_intros <;> first | decide +kernel | simp [h]

/-- O15: the refusals: track 17, slots 0 and 65, a transfer open, an EMPTY slot, a target, and the other link's
transfer on the track of a protected move. -/
theorem witness_KeyTransfersAreRefused :
    let s := withMove { move12 with isProtected := true }
    let o := s.onLink .b (fun k => { k with transfer := some (.get 12 .speed 0 1 0 false 0) })
    (16 < 17 ∧ 64 < 65 ∧ trackOf 16 = some .speed) ∧ (s.link .a).transfer = none ∧
    (o.link .b).transfer.isSome = true ∧ s.move 1 = none ∧ s.move 64 = none ∧ s.edit = none ∧
    ((working (.moveRetire 12)).isTarget 12 = true ∧ ((working (.moveRetire 12)).move 12).isSome = true) ∧
    ((o.link LinkId.a.other).transfer.map Transfer.target = some (12, .speed) ∧
      (o.link .a).transfer = none ∧ o.isTarget 12 = false ∧ o.edit = none ∧ move12.state ≠ .bound ∧
      o.move 12 = some { move12 with isProtected := true }) := by decide +kernel

/-- O16: slots 1 and 64, frame 65,535, track 16, an EMPTY slot and a stale generation. -/
theorem witness_FirstMarkHoldsSlotTrackAndFrame :
    let s := withMove { move12 with generation := 65535 }
    serving.phase = .serving ∧ serving.edit = none ∧ ¬(1 ≤ 65 ∧ 65 ≤ 64) ∧ trackOf 16 = some .speed ∧
    serving.move 1 = none ∧ serving.move 64 = none ∧
    s.move 12 = some { move12 with generation := 65535 } ∧ (some 0 : Option Nat) ≠ some 65535 ∧
    (working (.moveRetire 12)).edit = some (runOf (.moveRetire 12)) := by decide +kernel

/-- O17: no marks, the first mark alone, both marks, and a last frame at and below the first. -/
theorem witness_LastMarkJoinsTheFirst :
    let s := serving.onLink .a (fun k => { k with marks := .first 1 .speed 65535 })
    let d := serving.onLink .a (fun k => { k with marks := .both 1 .speed 65535 65535 })
    serving.phase = .serving ∧ serving.edit = none ∧ (serving.link .a).marks = .absent ∧
    (s.link .a).marks = .first 1 .speed 65535 ∧ (d.link .a).marks = .both 1 .speed 65535 65535 ∧
    65534 < 65535 ∧ 65535 ≤ 65535 := by decide +kernel

/-- O18: marks that take the one key at their end, a slot to copy to at each end of the directory, and a pool
one block short. -/
theorem witness_TimedEditsBeginTheirOperation :
    let s := (withMove move12).onLink .a (fun k => { k with marks := .both 12 (.axis 0) 0 100 })
    (s.phase = .serving ∧ s.edit = none ∧ s.move 12 = some move12 ∧ move12.state ≠ .bound ∧
      move12.isProtected = false ∧ (s.link .a).marks = .both 12 (.axis 0) 0 100 ∧
      trackOf 0 = some (.axis 0)) ∧
    ((s.link .a).transfer = none ∧ (s.link .b).transfer = none) ∧ ((withMove move12).link .a).marks = .absent ∧
    (s.move 12).isSome = true ∧ s.move 64 = none ∧ s.move 1 = none ∧ move12.blocks ≤ s.free ∧
    { s with free := 0 }.free < move12.blocks := by decide +kernel

/-- O18: each refusal of a KEY_DROP, a TRACK_CLEAR, a MOVE_RETIRE and a MOVE_COPY. -/
theorem witness_TimedEditsAreRefused :
    let mark (s : State) : State := s.onLink .a (fun k => { k with marks := .both 12 (.axis 0) 0 100 })
    let put (s : State) : State := s.onLink .b (fun k => { k with transfer := some (.put 12 (.axis 0) 0 0) })
    let s := mark (withMove move12)
    ((working (.moveRetire 12)).edit = some (runOf (.moveRetire 12)) ∧
      (runOf (.moveRetire 12)).link ≠ .b) ∧
    (s.edit = none ∧ (s.link .a).marks = .both 12 (.axis 0) 0 100 ∧ s.move 12 = some move12 ∧
      1 ≠ move12.generation) ∧
    ((mark serving).move 12 = none ∧ ((mark serving).link .a).marks = .both 12 (.axis 0) 0 100) ∧
    (mark (withMove (certified12 .bound))).move 12 = some (certified12 .bound) ∧
    (((put s).link LinkId.a.other).transfer = some (.put 12 (.axis 0) 0 0) ∧
      trackOf 0 = some (.axis 0)) ∧
    ((s.link LinkId.a.other).transfer = none ∧
      ({ move12 with isProtected := true } : Move).isProtected = true) ∧
    (64 < 65 ∧ serving.move 1 = none ∧ serving.move 64 = none) := by decide +kernel

/-- O19. -/
theorem witness_TimedEditsEnd :
    (working (.keyDrop 12 (.axis 0) 100 100)).endsAlone (runOf (.keyDrop 12 (.axis 0) 100 100)) = true ∧
    (working (.trackClear 12 (.axis 0))).endsAlone (runOf (.trackClear 12 (.axis 0))) = true ∧
    (working (.moveRetire 12)).endsAlone (runOf (.moveRetire 12)) = true ∧
    ((working (.moveCopy 12 1)).setMove 1 (some (Move.fresh [] 100 196))).endsAlone
      (runOf (.moveCopy 12 1)) = true ∧
    ((working (.moveCopy 12 1)).setMove 1 (some (Move.fresh [] 100 196))).move 1 =
      some (Move.fresh [] 100 196) ∧
    (working (.moveRetire 12)).move 12 = some move12 := by decide +kernel

/-- O19: an operation of each kind on the tick before the one of its bound, and on that one. -/
theorem witness_TheTickOfTheEditUnit :
    let on (op : EditOp) (k : Nat) : State :=
      { working op with edit := (some { link := .a, op := op, answerDue := true, rangeReset := false, elapsed := k }) }
    let run (op : EditOp) (k : Nat) : EditRun :=
      { link := .a, op := op, answerDue := true, rangeReset := false, elapsed := k }
    let copy : EditOp := .moveCopy 12 1
    serving.edit = none ∧ (∀ k, (on copy k).edit = some (run copy k)) ∧
    (0 + 1 < 2 ∧ 2 ≤ 1 + 1) ∧ (2 + 1 < 4 ∧ 4 ≤ 3 + 1) ∧
    (let bound := 4 + ((((on copy 4).move 12).map Move.blocks).getD 0 + 7) / 8
    bound = 5 ∧ 3 + 1 < bound ∧ bound ≤ 4 + 1) := by
  refine ⟨by decide, fun k => rfl, by decide, by decide, by decide +kernel⟩

/-- One key at a frame, as a block. -/
def oneKey (f : Nat) : BlockKeys := .axis [{ frame := f, value := 7, mode := .auto }]

/-- The block of one key, as received. -/
def received (f : Nat) : DataBlock := { count := 1, body := (blockBytes (oneKey f)).drop 1 }

/-- O20: one block for each answer; the frames 99 and 100 lie on both sides of the span. -/
theorem witness_DataBlockTakenAndApplied :
    let s := (withMove move12).onLink .a (fun k => { k with transfer := some (.put 12 (.axis 1) 0 5) })
    testBlock (s.link .a).crcOn (s.link .a).keySize (withCrc (blockBytes (oneKey 100))) =
      .received (received 100) ∧
    (s.phase = .serving ∧ s.outstanding .a = false ∧ s.edit = none ∧ s.move 12 = some move12 ∧
      move12.state ≠ .bound) ∧
    (working (.dataBlock 12 (.axis 1) (oneKey 100))).outstanding .a = true ∧
    (certified12 .bound).state = .bound ∧
    increasing ((received 100).frames (.axis 1)) = true ∧ increasing [100, 100] = false ∧
    (received 99).frames (.axis 1) = [99] ∧ 99 < move12.first ∧ (received 100).frames (.axis 1) = [100] ∧
    (received 100).keys (.axis 1) = some (oneKey 100) ∧
    ({ count := 1, body := List.replicate 13 0xFF#8 } : DataBlock).keys (.axis 1) = none ∧
    move12.tooFull 0 (.axis 1) (oneKey 100) = true ∧ move12.tooFull 1 (.axis 1) (oneKey 100) = false ∧
    (working (.dataBlock 12 (.axis 1) (oneKey 100))).endsAlone
      (runOf (.dataBlock 12 (.axis 1) (oneKey 100))) = true := by decide +kernel

/-- O20: keys at the ends of their ranges and just out of them, and blocks of 1 and of 16 keys. -/
theorem witness_DataBlockKeys :
    let k : RawAxisKey :=
      { frame := 65535, value := -1073741824, mode := 2, inSlope := -8388608, outSlope := 8388607 }
    let top : RawAxisKey := { k with value := 1073741823 }
    let fits (k : RawAxisKey) : Prop :=
      k.frame < 65536 ∧ -2147483648 ≤ k.value ∧ k.value ≤ 2147483647 ∧ k.mode < 256 ∧
      -8388608 ≤ k.inSlope ∧ k.inSlope ≤ 8388607 ∧ -8388608 ≤ k.outSlope ∧ k.outSlope ≤ 8388607
    let key : AxisKey := { frame := 65535, value := -1073741824, mode := .given (-8388608) 8388607 }
    let speed (r : Nat) : SpeedKey := { frame := 65535, rate := r }
    (fits k ∧ -1073741824 ≤ k.value ∧ k.value ≤ 1073741823 ∧ k.mode ≤ 2 ∧ fits top ∧ top.mode ≤ 2 ∧
      top.value ≤ 1073741823) ∧
    (fits { k with value := -1073741825 } ∧ { k with value := -1073741825 }.value < -1073741824) ∧
    (fits { k with value := 1073741824 } ∧ 1073741823 < { k with value := 1073741824 }.value) ∧
    (fits { k with mode := 3 } ∧ 2 < { k with mode := 3 }.mode) ∧
    ((speed 1000).rate < 4294967296 ∧ 1000 ≤ (speed 1000).rate ∧ (speed 300000).rate ≤ 300000 ∧
      (speed 999).rate < 1000 ∧ 300000 < (speed 300001).rate ∧ (speed 300001).frame < 65536) ∧
    (∀ n ∈ [1, 16], 1 ≤ (List.replicate n k).length ∧ (List.replicate n k).length ≤ 16 ∧
      1 ≤ (BlockKeys.axis (List.replicate n key)).count ∧
      (BlockKeys.axis (List.replicate n key)).count ≤ 16 ∧
      1 ≤ (BlockKeys.speed (List.replicate n (speed 1000))).count ∧
      (BlockKeys.speed (List.replicate n (speed 1000))).count ≤ 16) := by decide +kernel

/-- O20: what the part reads back of such a block. -/
theorem test_block_keys_read_back :
    let ks : BlockKeys := .axis [{ frame := 0, value := -1073741824, mode := .given (-8388608) 8388607 },
      { frame := 65535, value := 1073741823, mode := .flat }]
    (match testBlock true 13 (withCrc (blockBytes ks)) with
    | .received b => (b.keys (.axis 3), b.frames (.axis 3))
    | _ => (none, [])) = (some ks, [0, 65535]) := by decide +kernel

/-- O20: without a put transfer, and behind another operation. -/
theorem witness_DataBlockWaits :
    (∀ slot t n i, ((withMove move12).link .a).transfer ≠ some (.put slot t n i)) ∧
    (working (.moveRetire 12)).outstanding .a = false ∧ (working (.moveRetire 12)).edit.isSome = true := by
  have h : ((withMove move12).link .a).transfer = none := by decide +kernel
  and_intros <;> first | decide +kernel | simp [h]

/-- O20: key counts 0, 1, 16 and 17, a wrong CRC under CRC mode ON, no CRC tested under OFF, and a block short
of its last byte. -/
theorem witness_DataBlockFrames :
    let s := (withMove move12).onLink .a (fun k => { k with transfer := some (.put 12 (.axis 1) 0 5) })
    let keys := (blockBytes (oneKey 100)).drop 1
    ((0#8).toNat = 0 ∧ 16 < (17#8).toNat ∧ (16#8).toNat ≤ 16) ∧
    (keys.length = (1#8).toNat * (s.link .a).keySize ∧ (s.link .a).crcOn = true ∧
      [0#8, 0#8] ≠ crcBytes (crcOf (1#8 :: keys))) ∧
    ((s.onLink .a (fun k => { k with crcOn := false })).link .a).crcOn = false ∧
    (keys ++ [0#8]).length < (1#8).toNat * (s.link .a).keySize + 2 := by decide +kernel

/-- O21. -/
theorem witness_MergingReplacesAndInsertsInFrameOrder :
    increasing ((move12.axisTrack 0).map (·.frame)) = true ∧ increasing [100, 101] = true ∧
    increasing (move12.speedTrack.map (·.frame)) = true := by decide +kernel

/-- O22. -/
theorem witness_ProtectAndUnprotectSetTheirSetting :
    let s := withMove move12
    s.phase = .serving ∧ s.edit = none ∧ s.move 12 = some move12 ∧ move12.state ≠ .checking ∧
    move12.isProtected = false ∧ { move12 with state := .checking }.state = .checking ∧
    { move12 with isProtected := true }.isProtected = true := by decide +kernel

/-- O23: slots 0 and 65, an EMPTY slot, a stale generation, a BOUND and a protected move. -/
theorem witness_EditsAreRefusedInTheOrderOfR26 :
    let s := withMove move12
    let b := withMove (certified12 .bound)
    let p := withMove { move12 with isProtected := true }
    labelOk [] = true ∧ (s.phase = .serving ∧ s.edit = none ∧ (s.link .a).transfer = none ∧
      (s.link .b).transfer = none) ∧ (64 < 65 ∧ s.move 1 = none ∧ s.move 64 = none) ∧
    (s.move 12 = some move12 ∧ 1 ≠ move12.generation) ∧ b.move 12 = some (certified12 .bound) ∧
    p.move 12 = some { move12 with isProtected := true } ∧ move12.outside 100 196 = none ∧
    (working (.moveRetire 12)).edit = some (runOf (.moveRetire 12)) := by decide +kernel

/-- O23: a protection change and a copy behind the other link's operation, on an EMPTY slot, and stale. -/
theorem witness_ProtectionAndCopyAreRefused :
    let w := working (.trackClear 1 (.axis 0))
    let s := withMove move12
    (w.phase = .serving ∧ w.edit = some (runOf (.trackClear 1 (.axis 0))) ∧
      (runOf (.trackClear 1 (.axis 0))).link ≠ .b ∧ (w.link .b).transfer = none ∧
      (w.link LinkId.b.other).transfer = none) ∧
    (s.edit = none ∧ s.move 1 = none ∧ s.move 64 = none ∧ s.move 12 = some move12 ∧
      ∃ g, (some 65535 : Option Nat) = some g ∧ g ≠ move12.generation) := by
  refine ⟨by decide +kernel, by decide +kernel, by decide +kernel, by decide +kernel, by decide +kernel,
    65535, rfl, by decide⟩

/-- O24: link B waits behind link A with a retire. -/
theorem witness_TheOtherLinkIsServedNext :
    let s := (working (.trackClear 12 (.axis 0))).onLink .b
      (fun k => { k with held := some (.command (.moveRetire 12 none)) })
    let r := runOf (.trackClear 12 (.axis 0))
    (s.edit = some r ∧ s.resetWaiting = false ∧ s.linkA.collection ≠ .waiting ∧
      s.linkB.collection ≠ .waiting ∧ (s.link r.link.other).buffer = none ∧
      (s.link r.link.other).held = some (.command (.moveRetire 12 none))) ∧
    (∃ v, (((s.completeOp r).answerOp r s).onLink r.link.other (fun k => { k with held := none })).judge
      r.link.other (.moveRetire 12 none) = .timed v (.moveRetire 12)) ∧
    (working (.trackClear 12 (.axis 0))).phase = .serving ∧ r.link = .a := by
  refine ⟨by decide +kernel, ⟨_, rfl⟩, by decide +kernel, by decide⟩

/-- O24: a buffered block on the other link, an end marker that closes a put transfer, and one that closes
none; only the link just served waits; nothing waits; the edits are held. -/
theorem witness_WhatWaitsBehindAnOperation :
    let s := working (.trackClear 12 (.axis 0))
    let r := runOf (.trackClear 12 (.axis 0))
    let put (k : Link) : Link := { k with transfer := some (.put 12 (.axis 1) 2 0) }
    let blk := s.onLink .b (fun k =>
      { put k with buffer := some { block := received 100, ackDue := true } })
    let fin (l : LinkId) : State := s.onLink l (fun k => { k with held := some .endMarker })
    (blk.edit = some r ∧ (blk.link r.link.other).buffer = some { block := received 100, ackDue := true }) ∧
    ((∃ op, (blk.onLink .b (fun k => { k with buffer := none })).judgeBlock .b (received 100) = .inr op) ∧
      s.judgeBlock .b (received 100) = .inl .noTransfer) ∧
    (((fin .b).onLink .b put).link .b).held = some .endMarker ∧ ((fin .b).link .b).transfer = none ∧
    (((fin .a).link .b).buffer = none ∧ ((fin .a).link .b).held = none ∧
      ((fin .a).link r.link).held = some .endMarker) ∧
    (s.link .b).held = none ∧ (s.phase = .serving ∧ s.edit = some r ∧ r.link = .a) := by
  exact ⟨by decide +kernel,
    ⟨⟨.dataBlock 12 (.axis 1) (oneKey 100), by decide +kernel⟩, by decide +kernel⟩, by decide +kernel⟩

/-- O25: the next key is the last, or past the last; a retired transfer; idle times 998 and 999. -/
theorem witness_CollectionsAndTransferTimeouts :
    let g (p : Nat) (ret : Bool) (i : Nat) : State := (withMove move12).onLink .a (fun k =>
      { k with transfer := some (.get 12 (.axis 0) 0 p 0 ret i) })
    let w := { g 1 false 0 with edit := some (runOf (.moveRetire 12)) }
    let c := (g 1 false 999).onLink .a (fun k => { k with collection := .sending 3 })
    let p := (withMove move12).onLink .a (fun k => { k with transfer := some (.put 12 (.axis 1) 0 999) })
    ((g 3 false 998).phase = .serving ∧
      ((g 3 false 998).link .a).transfer = some (.get 12 (.axis 0) 0 3 0 false 998) ∧
      (g 3 false 998).isTarget 12 = false ∧ (g 3 false 998).move 12 = some move12) ∧
    w.isTarget 12 = true ∧ move12.keyCount (.axis 0) = 3 ∧ (g 1 true 0).isTarget 12 = false ∧
    ((c.link .a).collection = .sending 3 ∧ ((g 1 false 999).link .a).collection = .none) ∧
    ((p.link .a).transfer = some (.put 12 (.axis 1) 0 999) ∧ p.outstanding .a = false) := by decide +kernel

/-- O25: the last idle time a tick raises, a put transfer with its block outstanding, and no transfer. -/
theorem witness_TheTickOfALink :
    let p (i : Nat) : State :=
      (withMove move12).onLink .a (fun k => { k with transfer := some (.put 12 (.axis 1) 0 i) })
    let o : State := { p 998 with edit := some (runOf (.dataBlock 12 (.axis 1) (oneKey 100))) }
    let g := (withMove move12).onLink .a (fun k =>
      { k with transfer := some (.get 12 (.axis 0) 0 3 0 false 998), collection := .waiting })
    (((p 998).link .a).transfer = some (.put 12 (.axis 1) 0 998) ∧ (p 998).outstanding .a = false ∧
      998 < 999 ∧ 999 ≤ 999) ∧
    ((o.link .a).transfer = some (.put 12 (.axis 1) 0 998) ∧ o.outstanding .a = true) ∧
    (serving.link .a).transfer = none ∧
    ((g.link .a).transfer = some (.get 12 (.axis 0) 0 3 0 false 998) ∧
      (g.link .a).collection ≠ .none) := by decide +kernel

/-- O25: no get transfer. -/
theorem witness_CollectionWithoutATransfer :
    ∀ slot t g p n ret i, (serving.link .a).transfer ≠ some (.get slot t g p n ret i) := by
  have h : (serving.link .a).transfer = none := by decide
  simp [h]

/-- O26: slots 0 and 65, an EMPTY slot, a target, a READY move, a check of another move, and both ends. -/
theorem witness_MoveCheckAndCheckEnd :
    let s := withMove move12
    let run : CheckRun := { slot := 12, limits := [limitsOf 0 rig], peaks := [], extents := [], elapsed := 0 }
    let c := { withMove { move12 with state := .checking } with check := some run }
    (s.phase = .serving ∧ s.move 64 = none ∧ s.move 12 = some move12 ∧ s.isTarget 12 = false ∧
      move12.state = .opened ∧ s.check = none) ∧ (working (.moveRetire 12)).isTarget 12 = true ∧
    (certified12 .ready).state ≠ .opened ∧ c.check.isSome = true ∧ c.check = some run ∧
    c.move run.slot = some { move12 with state := .checking } ∧
    run.sound { move12 with state := .checking } = true ∧
    (run.works move12 1).sound move12 = true ∧ (run.works move12 1).extents = [] ∧
    (run.works move12 4).extents = summary12.extents ∧
    checkResult { move12 with state := .checking } run.limits = .certified summary12 ∧
    checkResult (Move.fresh [] 0 1) [] =
      .failed { reason := .emptyMove, track := none, frame := 0 } := by decide +kernel

/-- O26: a check on the tick before the one of its bound, and on that one. -/
theorem witness_TheTickOfTheCheck :
    let m : Move := { move12 with state := .checking }
    let run (k : Nat) : CheckRun :=
      { slot := 12, limits := [limitsOf 0 rig], peaks := [], extents := [], elapsed := k }
    let s (k : Nat) : State := { withMove m with check := some ((run k).works m 4) }
    serving.check = none ∧ ((s 9).check.map (·.slot) = some 12 ∧ (s 9).move 12 = some m) ∧
    (let bound := 10 + ((allTracks.map m.keyCount).sum + 63) / 64
    bound = 11 ∧ ((run 9).works m 4).elapsed + 1 < bound ∧ bound ≤ ((run 10).works m 4).elapsed + 1) ∧
    ((run 10).works m 4).sound m = true := by decide +kernel

/-- O27: a record in range and one just out of it; axes 15 and 16; an owned and an unowned axis. -/
theorem witness_AxisSetTestsTheRecordAndAppliesOrStagesIt :
    serving.phase = .serving ∧ 15 < 16 ∧ recordOf rigArgs = some rig ∧
    recordOf { rigArgs with vmax := 200001 } = none ∧ (serving.axis 15).owner = .none ∧
    ((withAxis { inService with owner := .pass }).axis 0).owner ≠ .none := by decide +kernel

/-- O27: a record with the other method and direction. -/
theorem witness_TheRecordOfAxisSet :
    recordOf { rigArgs with homeMethod := 1, homeDirection := 1 } =
      some { rig with homeMethod := .stop, homeDirection := .positive } := by decide +kernel

/-- O28: one record that differs in a certified limit and one that does not; an unset one; a move in each
state with a track on the axis; a check of it. -/
theorem witness_ApplyingARecordActsOnTheDriveAndTheMoves :
    let c := { withMove { move12 with state := .checking } with
      check := some { slot := 12, limits := [], peaks := [], extents := [], elapsed := 0 } }
    AxisRecord.reset.unset = true ∧ ((withMove move12).axis 0).drive = .on ∧
    ((withMove move12).axis 0).conf.vmax ≠ AxisRecord.reset.vmax ∧
    (withMove (certified12 .ready)).move 12 = some (certified12 .ready) ∧
    (certified12 .ready).hasTrack 0 = true ∧ move12.hasTrack 1 = false ∧
    (certified12 .bound).state = .bound ∧
    c.check = some { slot := 12, limits := [], peaks := [], extents := [], elapsed := 0 } ∧ serving.move 1 = none ∧
    c.move 12 = some { move12 with state := .checking } := by decide +kernel

/-- O29: axis 16; an unset axis; the E-stop and a LOW supply with STOP; a drive in each state. -/
theorem witness_AxisEnableTestsThenSettles :
    let off := withAxis { inService with drive := .off }
    (serving.phase = .serving ∧ 15 < 16 ∧ (serving.axis 15).conf.unset = true) ∧
    ((off.axis 0).conf.unset = false ∧ off.estop = false ∧ off.supplyLow = false ∧
      (off.axis 0).drive = .off ∧ (off.axis 0).conf.settleTime ≠ 0) ∧
    { off with estop := true }.estop = true ∧
    ({ off with supplyLow := true, supplyAction := .stop }.supplyLow = true ∧
      { off with supplyLow := true, supplyAction := .stop }.supplyAction = .stop) ∧
    ((withAxis { inService with drive := .tripped, conf := { rig with settleTime := 0 } }).axis 0).drive =
      .tripped ∧ ((withAxis { inService with drive := .settling 10 }).axis 0).drive = .settling 10 ∧
    ((withAxis inService).axis 0).drive = .on := by decide +kernel

/-- O30. -/
theorem witness_AxisDisableTurnsTheDriveOff : serving.phase = .serving ∧ 15 < 16 ∧
    ((withAxis { inService with owner := .home }).axis 0).owner ≠ .none ∧
    (serving.axis 15).owner = .none := by decide +kernel

/-- A park of axis 0 by 12,000 counts in 2,400 ticks (section 4.4). -/
def group (k : Nat) (stopping : Bool) : GroupEase :=
  { axes := [{ axis := 0, start := 3000, dist := 12000 }], duration := 2400, elapsed := k,
    stopping := stopping }

/-- That park in progress. -/
def parking (k : Nat) (stopping : Bool) (creep : Option Creep) : State :=
  { withAxis { inService with owner := .park, creep := creep } with park := some (group k stopping) }

/-- A home of axis 0 in a leg, with its generator. -/
def homing (leg : HomeLeg) (c : Creep) : State :=
  withAxis { inService with
    owner := .home, datum := .seeking, home := some { leg := leg, start := 0, cause := .none },
    creep := some c }

/-- O31: the switch released and asserted, the STOP method; a home that goes on and one that finishes; a park
at rest, in motion and stopping. -/
theorem witness_HomesBeginAndMotionsStop :
    let still : Creep := { position := 0, velocity := 0, target := 0, step := 819 }
    (serving.phase = .serving ∧ 15 < 16 ∧ (serving.axis 15).drive ≠ .on ∧
      (serving.axis 15).owner = .none) ∧
    (((withAxis inService).axis 0).drive = .on ∧ ((withAxis inService).axis 0).owner = .none ∧
      rig.homeMethod = .switch ∧ ((withAxis inService).axis 0).homeSwitch = false ∧
      ((withAxis { inService with homeSwitch := true }).axis 0).homeSwitch = true ∧
      { rig with homeMethod := .stop }.homeMethod = .stop) ∧
    ((withAxis { inService with owner := .pass }).axis 0).owner = .pass ∧
    (((homing .finishing still).axis 0).owner = .home ∧ ((homing .finishing still).axis 0).home =
      some { leg := .finishing, start := 0, cause := .none }) ∧
    HomeLeg.searching ≠ .finishing ∧ HomeLeg.searching ≠ .abandoning ∧
    (((parking 0 false none).axis 0).owner = .park ∧ (parking 0 false none).park = some (group 0 false) ∧
      (∀ e ∈ (group 0 false).axes, (group 0 false).velocity e = 0)) ∧
    (∃ e ∈ (group 600 false).axes, (group 600 false).velocity e ≠ 0) ∧
    (parking 0 true none).park = some (group 0 true) := by decide +kernel

/-- O31: a hand-over before the first tick and one in motion. -/
theorem witness_AGroupIsHandedToItsGenerators :
    (group 0 false).ids.Nodup ∧ (group 0 false).elapsed = 0 ∧ (group 600 false).ids.Nodup ∧
    (group 600 false).elapsed ≠ 0 ∧ (0 ∈ (group 600 false).ids ∧ 1 ∉ (group 600 false).ids) ∧
    (1 ≤ rig.ac * 4096 / 250000 ∧ ({ rig with ac := 61 } : AxisRecord).ac * 4096 / 250000 < 1) := by
  decide +kernel

/-- O32: the lists that are refused; a park of no distance and of some; a duration refused; both ends; and a
drive on its last tick of settling. -/
theorem witness_ParksBeginAndEnd :
    let s := withAxis { inService with setpoint := 3000 }
    let es (d : Int) : List EaseAxis := [{ axis := 0, start := 3000, dist := d }]
    let rest : Creep := { position := 0, velocity := 819, target := 0, step := 819 }
    (16 < 17 ∧ 15 < 16 ∧ ¬[(0 : Nat), 0].Nodup ∧ 1073741823 < (1073741824 : Int)) ∧
    (s.phase = .serving ∧ s.park = none ∧ (s.axis 0).drive = .on ∧ (s.axis 0).owner = .none ∧
      (s.axis 0).datum = .known ∧ (s.axis 0).conf.softLow ≤ 15000 ∧ 15000 ≤ (s.axis 0).conf.softHigh) ∧
    s.groupDuration (es 12000) = some 2400 ∧ s.groupDuration (es 0) = some 200 ∧
    (withAxis { inService with conf := { rig with vc := 1 } }).groupDuration (es 12000) = none ∧
    (parking 0 false none).park.isSome = true ∧ (serving.axis 15).drive ≠ .on ∧
    ((withAxis { inService with owner := .home }).axis 0).owner ≠ .none ∧ Datum.seeking ≠ .known ∧
    rig.softHigh < 90001 ∧
    ((parking 2399 false none).park = some (group 2399 false) ∧ (group 2399 false).ids.Nodup ∧
      (group 2399 false).elapsed + 1 = (group 2399 false).duration) ∧
    (∀ a ∈ (group 9 true).ids, (((parking 9 true (some rest)).axis a).creepTick).creepAtRest = true) ∧
    ((parking 2399 false none).axis 0).staged = none ∧
    ((withAxis { inService with drive := .settling 1 }).axis 0).drive = .settling 1 := by decide +kernel

/-- O32: a park on its last tick but one, and one in STOPPING with its generator above its step. -/
theorem witness_TheTickOfAPark :
    let fast : Creep := { position := 0, velocity := 1639, target := 0, step := 819 }
    serving.park = none ∧
    ((parking 2398 false none).park = some (group 2398 false) ∧ (group 2398 false).stopping = false ∧
      (group 2398 false).elapsed + 1 < (group 2398 false).duration ∧ (group 2398 false).ids.Nodup) ∧
    ((parking 9 true (some fast)).park = some (group 9 true) ∧ (group 9 true).stopping = true ∧
      ∃ a ∈ (group 9 true).ids, ((parking 9 true (some fast)).axis a).creepTick.creepAtRest = false) := by
  decide +kernel

/-- O33: each leg on its last tick, the travel just exceeded, the stop just felt, the switch edges, and an
encoder at each end of its range. -/
theorem witness_HomesGoOnAndEnd :
    let last (p : Int) : Creep := { position := p, velocity := 819, target := 0, step := 819 }
    let run (leg : HomeLeg) : State := homing leg (last 0)
    let far : State := homing .searching
      { position := 200001 * 65536, velocity := 0, target := 0, step := 1 }
    let press : State := withAxis { inService with
      owner := .home, setpoint := 46, home := some { leg := .pressing, start := 0, cause := .none } }
    ((run .braking).axis 0).owner = .home ∧
    ((run .braking).axis 0).home = some { leg := .braking, start := 0, cause := .none } ∧
    ((run .braking).axis 0).creep = some (last 0) ∧ (last 0).velocity.natAbs ≤ (last 0).step ∧
    (0 - 0 : Int).natAbs ≤ rig.searchTravel ∧
    rig.searchTravel < ((far.axis 0).creepTick.setpoint - 0).natAbs ∧
    ((press.axis 0).conf.feMax / 2 < (saturateError ((press.axis 0).setpoint - (press.axis 0).encoder)).natAbs ∧
      (press.axis 0).drive = .on) ∧
    ((run .searching).axis 0).homeSwitch = false ∧
    ((withAxis { inService with homeSwitch := true }).axis 0).homeSwitch = true ∧
    ((withAxis { inService with encoder := 2147483647 }).axis 0).encoder = 2147483647 := by decide +kernel

/-- O33: a generator below, above and at its target, one just within its step of it, and none; the two ends of
the range of setpoints; and a home at rest, in motion and at its travel. -/
theorem witness_TheTickOfAHome :
    let c (v w : Int) : Creep := { position := 0, velocity := v, target := w, step := 819 }
    let at' (n : Int) : Creep := { position := n * 65536, velocity := 0, target := 0, step := 1 }
    let s (leg : HomeLeg) (k : Creep) : State := homing leg k
    (inService.creep = none ∧ ((s .searching (c 0 0)).axis 0).creep = some (c 0 0)) ∧
    ((c 0 819).velocity < (c 0 819).target ∧ (c 0 (-820)).target < (c 0 (-820)).velocity ∧
      (c 0 819).velocity + 819 = (c 0 819).target ∧ (c 5 5).velocity = (c 5 5).target) ∧
    (-1073741824 ≤ ((at' (-1073741824)).position + 0) / 65536 ∧
      ((at' 1073741823).position + 0) / 65536 ≤ 1073741823) ∧
    ((serving.axis 0).owner ≠ .home ∧ ((s .searching (c 0 0)).axis 0).owner = .home ∧
      ((s .searching (c 0 0)).axis 0).home = some { leg := .searching, start := 0, cause := .none }) ∧
    (((s .searching (c 0 0)).axis 0).creepTick.creepAtRest = true ∧
      ((s .finishing (c 820 0)).axis 0).creepTick.creepAtRest = false) ∧
    (rig.searchTravel < (((s .searching (at' 200001)).axis 0).creepTick.setpoint - 0).natAbs ∧
      ¬rig.searchTravel < (((s .searching (at' 200000)).axis 0).creepTick.setpoint - 0).natAbs) ∧
    (∀ a ∈ allAxes, a ≠ 0 → ((s .finishing (c 820 0)).axis a).owner ≠ .home) := by decide +kernel

/-- O34: a pass that arms, and one that fails each test, at the value next to the one that passes. -/
theorem witness_PassArmBindsOrChangesNothing :
    let s := withMove (certified12 .ready)
    let m := certified12 .ready
    let r := record12 .master
    (s.phase = .serving ∧ s.pass.state = .idle ∧ passRecordOf passArgs = some r ∧
      s.isTarget 12 = false ∧ s.move 12 = some m ∧ m.state = .ready ∧ m.summary = some summary12 ∧
      s.armRefusal m summary12 r = none) ∧
    ((passing r .armed .reset).pass.state ≠ .idle ∧ passRecordOf { passArgs with lead := 256 } = none ∧
      (working (.moveRetire 12)).isTarget 12 = true) ∧
    (0 < summary12.ceiling ∧ { r with first := 99 }.first < m.first ∧ ¬r.first < m.first) ∧
    (∃ pa ∈ r.axes, ((withAxis { inService with owner := .home }).axis pa.axis).owner ≠ .none) ∧
    (∃ pa ∈ r.axes, ((withAxis { inService with drive := .off }).axis pa.axis).drive ≠ .on) ∧
    (∃ pa ∈ r.axes, ((withAxis { inService with setpoint := 90001 }).axis pa.axis).conf.softHigh <
      ((withAxis { inService with setpoint := 90001 }).axis pa.axis).setpoint) ∧
    (summary12.ceiling < 79682 ∧ ¬summary12.ceiling < 79681) ∧
    (37 * summary12.ceiling < 3000000 ∧ ¬38 * summary12.ceiling < 3000000) := by decide +kernel

/-- O34: records at and beyond the ends of R128, and a pass for each of the tests 5 to 12. -/
theorem witness_PassArmTests :
    let r := record12 .master
    let m := certified12 .ready
    (passRecordOf { passArgs with last := 65535, lead := 255, holdRamp := 20000 }).isSome = true ∧
    passRecordOf { passArgs with last := 65536 } = none ∧ passRecordOf { passArgs with axes := [] } = none ∧
    passRecordOf { passArgs with axes := [(0, 0), (0, 1)] } = none ∧
    passRecordOf { passArgs with mode := 2, stepTime := 199 } = none ∧
    ((serving.move 12 = none) ∧ (withMove move12).move 12 = some move12 ∧ move12.state ≠ .ready) ∧
    (m.last < { r with last := 197 }.last ∧ m.axisTrack 3 = [] ∧ m.axisTrack 0 ≠ [] ∧ m.speedTrack = [] ∧
      { r with rate := none }.rate = none) ∧
    (∃ pa ∈ r.axes, ((withAxis { inService with datum := .unknown }).axis pa.axis).datum ≠ .known) ∧
    (∃ e, summary12.extents.find? (fun e => decide (e.axis = 0)) = some e ∧
      rig.softHigh < e.high + 6001 ∧ ¬rig.softHigh < e.high + 6000) ∧
    (r.mode = .master ∧ summary12.ceiling < 79682 ∧ stepRecord.mode = .step ∧
      stepRecord.step = some fields) := by
  refine ⟨by decide +kernel, by decide +kernel, by decide +kernel, by decide +kernel, by decide +kernel,
    by decide +kernel, by decide +kernel, by decide +kernel,
    ⟨{ axis := 0, low := 0, high := 84000 }, by decide +kernel⟩, by decide +kernel⟩

/-- O34: pairs in falling order, and a STEP and a FOLLOWER pass with both roll sources. -/
theorem witness_TheRecordOfPassArm :
    (passRecordOf { passArgs with axes := [(15, 7), (0, -7)] }).map (·.axes) =
      some [{ axis := 0, offset := -7 }, { axis := 15, offset := 7 }] ∧
    (passRecordOf { passArgs with direction := 1, mode := 1, ratePresence := 0, rollSource := 1 }).map
      (fun r => (r.direction, r.mode, r.rate, r.rollSource, r.step)) =
      some (.reverse, .follower, none, .trigger, none) ∧
    (passRecordOf { passArgs with mode := 2 }).map (·.step) = some (some fields) := by decide +kernel

/-- An approach of axis 0 by −5,000 counts in 1,550 ticks (section 7.11). -/
def approach (k : Nat) (stopping : Bool) : GroupEase :=
  { axes := [{ axis := 0, start := 5000, dist := -5000 }], duration := 1550, elapsed := k,
    stopping := stopping }

/-- That approach in progress. -/
def approaching (k : Nat) (stopping : Bool) (creep : Option Creep) : State :=
  let s := passing (record12 .master) .approaching .reset
  { s.setAxis 0 { inService with owner := .pass, creep := creep } with
    pass := { s.pass with approach := some (approach k stopping) } }

/-- O35: a pass not ARMED, a drive not ON, a setpoint out of its limits, a duration refused, both distances,
and both ends. -/
theorem witness_TheApproachBeginsAndEnds :
    let r := record12 .master
    let s (x : Axis) : State := (passing r .armed .reset).setAxis 0 { x with owner := .pass }
    let es (d : Int) : List EaseAxis := [{ axis := 0, start := -d, dist := d }]
    let rest : Creep := { position := 0, velocity := 819, target := 0, step := 819 }
    ((s inService).phase = .serving ∧ (s inService).pass.record = some r ∧
      (s inService).move 12 = some (certified12 .bound) ∧ (s inService).pass.state = .armed) ∧
    (passing r .atStart .reset).pass.state ≠ .armed ∧
    ((s { inService with drive := .tripped }).axis 0).drive ≠ .on ∧
    (((s inService).axis 0).drive = .on ∧ ((s inService).axis 0).conf.admits 90000 = true ∧
      ((s inService).axis 0).conf.admits 90001 = false) ∧
    ((s { inService with conf := { rig with vc := 0 } }).groupDuration (es (-5000)) = none ∧
      (s inService).groupDuration (es (-5000)) = some 1550 ∧ (s inService).groupDuration (es 0) = some 200) ∧
    ((approaching 1549 false none).pass.approach = some (approach 1549 false) ∧
      (approach 1549 false).ids.Nodup ∧ (approach 1549 false).elapsed + 1 = (approach 1549 false).duration) ∧
    ((approaching 9 true (some rest)).pass.state = .approaching ∧
      ∀ a ∈ (approach 9 true).ids, ((approaching 9 true (some rest)).axis a).creepTick.creepAtRest = true) := by
  decide +kernel

/-- O35: an approach on its last tick but one, one in STOPPING with its generator above its step, and no pass. -/
theorem witness_TheTickOfAnApproach :
    let fast : Creep := { position := 0, velocity := -1639, target := 0, step := 819 }
    let s : State := approaching 1548 false none
    let q : State := approaching 9 true (some fast)
    (serving.phase = .serving ∧ serving.pass.record = none ∧ serving.pass.state = .idle) ∧
    (s.pass.record = some (record12 .master) ∧ s.pass.state = .approaching ∧
      s.pass.approach = some (approach 1548 false) ∧ (approach 1548 false).stopping = false ∧
      (approach 1548 false).elapsed + 1 < (approach 1548 false).duration) ∧
    (q.pass.approach = some (approach 9 true) ∧ (approach 9 true).stopping = true ∧
      (approach 9 true).ids.Nodup ∧
      ∃ a ∈ (approach 9 true).ids, (q.axis a).creepTick.creepAtRest = false) := by decide +kernel

/-- O36: a STEP pass, a pass not AT_START, a trigger roll, and a lead of 0. -/
theorem witness_ARollStartsTheRun :
    let s := passing (record12 .master) .atStart .reset
    serving.pass.record = none ∧
    (s.phase = .serving ∧ s.pass.record = some (record12 .master) ∧ s.pass.state = .atStart ∧
      (record12 .master).first < (record12 .master).last ∧ (record12 .master).mode ≠ .step) ∧
    (record12 .step).mode = .step ∧ { record12 .master with rollSource := .trigger }.rollSource = .trigger ∧
    { record12 .master with lead := 0 }.lead = 0 ∧ (record12 .follower).mode = .follower ∧
    s.move 12 = some (certified12 .bound) ∧ (certified12 .bound).speedTrack = [] := by decide +kernel

/-- O37: the last tick of each ramp. -/
theorem witness_HoldAndResumeAndTheEndsOfTheirRamps :
    let h := passing (record12 .master) .holding { clocking with ramp := .hold 20 19 }
    let r := passing (record12 .master) .resuming { clocking with ramp := .resume 20 19 }
    (serving.pass.record = none ∧ (record12 .follower).mode ≠ .master) ∧
    (h.phase = .serving ∧ (reporting (passing (record12 .master) .running clocking)).pass.report.outcome =
      .running ∧ (passing (record12 .master) .held clocking).pass.state = .held) ∧
    (h.pass.record = some (record12 .master) ∧ h.pass.state = .holding ∧ h.clock.state = .clocking ∧
      h.clock.ramp = .hold 20 19 ∧ 20 ≤ 19 + 1 ∧ h.clock.remainder < 2000000 ∧
      h.clock.capLimit h.clock.phase = h.clock.phase) ∧
    (r.pass.record = some (record12 .master) ∧ r.resumeDue = true ∧ r.clock.ramp = .resume 20 19) ∧
    (h.move 12 = some (certified12 .bound) ∧ (record12 .master).first ≤ (record12 .master).last ∧
      ((record12 .master).axes.map (·.axis)).Nodup ∧ (h.axis 0).drive = .on) := by decide +kernel

/-- O38: a pass state of each kind, and the last tick of a stop. -/
theorem witness_PassAbortByState :
    let r := record12 .master
    let p (st : PassState) (c : Clock) : State := passing r st c
    ((p .ended .reset).phase = .serving ∧ (p .ended .reset).pass.record = some r) ∧
    ((p .running clocking).clock.state = .clocking ∧ (p .running clocking).clock.ramp = .none ∧
      0 < r.stopRamp) ∧
    (p .held { clocking with ramp := .held }).clock.ramp = .held ∧
    ((p .rolling (following .acquiring false)).clock.state = .following ∧
      (p .rolling (following .acquiring false)).clock.firstFrameBegun = some false) ∧
    (passing stepRecord .stepMoving .reset).pass.stepping.abortRequested = false ∧
    ((approaching 775 false none).pass.approach = some (approach 775 false) ∧
      ∃ e ∈ (approach 775 false).axes, (approach 775 false).velocity e ≠ 0) ∧
    ((p .stopping { clocking with ramp := .stop 200 199 }).clock.ramp = .stop 200 199 ∧ 200 ≤ 199 + 1) := by
  decide +kernel

/-- O38: no record, a hold and a resume at their ends, a follower run, and an approach that has not moved. -/
theorem witness_PassAbortInMotion :
    let r := record12 .master
    let p (st : PassState) (c : Clock) : State := passing r st c
    serving.pass.record = none ∧
    ((p .holding { clocking with ramp := .hold 20 10 }).clock.ramp = .hold 20 10 ∧ 10 = 20 - 10 ∧
      100 ≤ r.stopRamp ∧ (r.stopRamp - 100) * 20 ≤ 10 * r.stopRamp ∧
      ∀ i < 100, 10 * r.stopRamp < (r.stopRamp - i) * 20) ∧
    ((p .resuming { clocking with ramp := .resume 20 0 }).clock.ramp = .resume 20 0 ∧
      (r.stopRamp - 200) * 20 ≤ 0 * r.stopRamp ∧ ∀ i < 200, 0 * r.stopRamp < (r.stopRamp - i) * 20) ∧
    ((p .running (following .locked true)).clock.firstFrameBegun = some true ∧ 0 < r.stopRamp) ∧
    ((approaching 0 false none).pass.approach = some (approach 0 false) ∧
      ∀ e ∈ (approach 0 false).axes, (approach 0 false).velocity e = 0) := by decide +kernel

/-- O39: no pass, a run in progress, and a pass that disarms, with a staged record that differs. -/
theorem witness_PassDisarmReleasesMoveAndAxes :
    let s := passing (record12 .master) .ended .reset
    serving.pass.record = none ∧ (passing (record12 .master) .running clocking).pass.state = .running ∧
    (s.phase = .serving ∧ s.pass.record = some (record12 .master) ∧ s.pass.state = .ended ∧
      s.move 12 = some (certified12 .bound) ∧ (certified12 .bound).state = .bound) ∧
    rig.limitsDiffer { rig with amax := 300000 } = true ∧ (certified12 .bound).hasTrack 0 = true ∧
    { certified12 .bound with uncertify := true }.uncertify = true ∧ (s.axis 0).staged = none := by
  decide +kernel

/-- O40: the first edge, an edge one clock too soon, an edge just late enough, and both timers run out. -/
theorem witness_CameraEdgesAndTheirTimeouts :
    let r := record12 .follower
    let p := 1365333
    let c (k : LockState) (b : Bool) : Clock :=
      { following k b with lastEdge := some 1000, lastPeriod := some p }
    let s (k : LockState) (b : Bool) (t : Nat) : State := { passing r .rolling (c k b) with refClock := t }
    serving.clock.state ≠ .following ∧
    ((passing r .rolling (following .acquiring false)).clock.lastEdge = none ∧
      (passing r .rolling (following .acquiring false)).clock.lock = some .acquiring) ∧
    ((s .acquiring false 1000).clock.lastEdge = some 1000 ∧ 1000 + 109225 < 1000 + 109226) ∧
    ((s .locked false 1000).clock.mode = some .follower ∧ (s .locked false 1000).pass.state = .rolling ∧
      r.first < r.last ∧ (certified12 .bound).summary = some summary12 ∧
      1000 + 109226 ≤ 1000 + p ∧ 1000 + p ≤ 1000 + 2 * p ∧ p ≤ 4294967295 ∧
      min (32768000000 / p) 300002 ≤ summary12.ceiling) ∧
    1000 + 2 * p ≤ (s .locked true (1000 + 2 * p - 16384)).refClock + 16384 ∧
    (reporting (s .locked true 1000)).pass.report.outcome = .running := by decide +kernel

/-- O40: a stable period at the edge of a 64th, a count that locks and one that does not, an overspeed edge at
the rate next to the ceiling, the last edge in time, a snap within the limit and to it, and a relock. -/
theorem witness_CameraEdgesByLockState :
    let q := 1365333
    let r := record12 .follower
    let s (k : LockState) (b : Bool) : State := passing r .running
      { following k b with lastEdge := some 1000, lastPeriod := some q }
    let t : State := reporting (s .syncLost true)
    (q + q / 64 ≤ q + q / 64 ∧ q ≤ q + q / 64 + q / 64 ∧ ¬q + q / 64 + 1 ≤ q + q / 64) ∧
    (max r.lead 2 ≤ min (3 + 1) 255 ∧ min (2 + 1) 255 < max r.lead 2) ∧
    ((s .acquiring false).move r.slot = some (certified12 .bound) ∧
      (certified12 .bound).summary = some summary12 ∧
      summary12.ceiling < min (32768000000 / 411234) 300002 ∧
      ¬summary12.ceiling < min (32768000000 / 411240) 300002 ∧
      (s .acquiring false).pass.endReached ≠ some true ∧ 0 < r.stopRamp) ∧
    (1000 + 109226 ≤ 1000 + 2 * q ∧ (s .locked true).clock.lock = some .locked ∧
      (s .locked true).clock.mode = some .follower ∧ (s .locked true).clock.direction = some .forward ∧
      (s .locked true).clock.travelLimit = some 12976128 ∧ (s .locked true).pass.state = .running) ∧
    (((6553600 : Int) / 65536 + 1) * 65536 ≤ 12976128 ∧ (r.first : Int) ≤ 101 ∧ (101 : Int) ≤ r.last ∧
      101 ≠ r.endFrame ∧ (196 : Int) = r.endFrame ∧ 0 < r.trail) ∧
    ¬((12976128 : Int) / 65536 + 1) * 65536 ≤ 12976128 ∧
    (t.clock.lock = some .syncLost ∧ t.pass.report.outcome = .running) := by decide +kernel

/-- O40: a glitch in each lock state, and an edge one clock too late; the frame start before the end of the
trail, the one that ends it, and the one past the travel limit; the half point; the loss timer at its time and
one clock before. -/
theorem witness_LateEdgesAndTheEndOfTheTrail :
    let q := 1365333
    let r := record12 .follower
    let s (k : LockState) (b : Bool) (f n : Nat) : State :=
      { reporting (passing r .trailing { following k b with
          lastEdge := some 1000, lastPeriod := some q, phase := (f : Int) * 65536, currentFrame := f,
          cameraSync := true }) with refClock := n }
    (∀ k ∈ [LockState.acquiring, .locked, .syncLost],
      (s k true 196 1000).clock.lastEdge = some 1000 ∧ 1000 + 109225 < 1000 + 109226 ∧ 109226 ≤ q) ∧
    ((s .locked true 196 (1000 + 2 * q)).clock.lock = some .locked ∧
      1000 + 2 * q < (s .locked true 196 (1000 + 2 * q)).refClock + 1 ∧
      ¬1000 + 2 * q < (s .locked true 196 (1000 + 2 * q)).refClock + 0 ∧
      (s .locked true 196 0).clock.firstFrameBegun = some true ∧
      (s .locked false 196 0).clock.firstFrameBegun = some false ∧
      (s .locked true 196 0).pass.report.outcome = .running) ∧
    ((s .locked true 196 0).clock.mode = some .follower ∧ (s .locked true 196 0).pass.record = some r ∧
      (s .locked true 196 0).pass.state = .trailing ∧
      (s .locked true 196 0).clock.direction = some .forward ∧
      (s .locked true 196 0).clock.travelLimit = some 12976128 ∧
      (s .locked true 196 0).move r.slot = some (certified12 .bound) ∧
      ¬summary12.ceiling < min (32768000000 / q) 300002) ∧
    (let n (f : Nat) : Int := (s .locked true f 0).clock.phase / 65536 + 1
    let trailEnd : Int := (r.last : Int) + r.trail
    (n 196 * 65536 ≤ 12976128 ∧ n 196 ≠ trailEnd) ∧ (n 197 * 65536 ≤ 12976128 ∧ n 197 = trailEnd) ∧
    ¬n 198 * 65536 ≤ 12976128) ∧
    ((s .syncLost true 198 0).clock.lock = some .syncLost ∧
      (s .syncLost true 198 0).clock.cameraSync = true ∧ ¬(198 : Int) * 65536 + 32768 ≤ 12976128) ∧
    ((s .locked true 196 (1000 + 2 * q - 1)).refClock < 1000 + 2 * q ∧
      1000 + 2 * q ≤ (s .locked true 196 (1000 + 2 * q)).refClock) := by decide +kernel

/-- R139: with trail 0 the edge that begins the end frame ends the run COMPLETE with the setpoint at its end
value, 84,000. -/
theorem test_edge_ends_the_run_at_the_end_value :
    let r : PassRecord := { record12 .follower with trail := 0 }
    let s : State := { reporting (passing r .running { following .locked true with
      lastEdge := some 1000, lastPeriod := some 1365333, phase := 195 * 65536, currentFrame := 195,
      travelLimit := some (196 * 65536) }) with refClock := 1365333 }
    let t := after (.cameraFrameEdge 1000) s
    (s.axis 0).setpoint = 0 ∧ (t.axis 0).setpoint = 84000 ∧ t.pass.state = .ended ∧
    t.pass.report.outcome = .complete ∧ t.clock.state = .stopped ∧ r.first < r.last := by decide +kernel

/-- O41. -/
theorem witness_AClockingTickAccumulatesExactly :
    (passing (record12 .master) .running { clocking with remainder := 1999999 }).clock.remainder <
      2000000 := by decide

/-- O41: a ramp of each kind in its middle and on its last tick, with and without a frame start; the start
frame, the end frame and the end of the trail reached; a stop at the travel limit; and a freewheel. -/
theorem witness_TheTickOfARun :
    let r := record12 .master
    let at_ (f : Int) (st : PassState) (ramp : Ramp) : State :=
      passing r st { clocking with phase := f * 65536 - 1, currentFrame := f - 1, ramp := ramp }
    let free : State := passing (record12 .follower) .running
      { following .syncLost true with phase := 101 * 65536 - 1, currentFrame := 100, increment := 786 }
    let far (s : State) : Int := s.clock.phase + ((s.clock.remainder + 24000 * 65536) / 2000000 : Nat)
    ((at_ 150 .running .none).pass.record = some r ∧ (at_ 150 .running .none).pass.state.inRun = true ∧
      (at_ 150 .running .none).move r.slot = some (certified12 .bound) ∧
      (at_ 150 .running .none).clock.direction = some .forward ∧
      (at_ 150 .running .none).clock.travelLimit = some (198 * 65536) ∧
      (at_ 150 .running .none).clock.state = .clocking) ∧
    (10 + 1 < 20 ∧ 20 ≤ 19 + 1 ∧ (passing r .holding { clocking with ramp := .hold 20 19 }).clock.ramp =
      .hold 20 19) ∧
    ((at_ 100 .rolling .none).clock.phase / 65536 + 1 = r.startFrame ∧
      100 * 65536 ≤ far (at_ 100 .rolling .none) ∧ PassState.rolling ≠ .held) ∧
    ((at_ 196 .running .none).clock.phase / 65536 + 1 = r.endFrame ∧ r.endFrame ≠ (r.last : Int) + r.trail) ∧
    ((at_ 198 .trailing .none).clock.phase / 65536 + 1 = (r.last : Int) + r.trail ∧
      198 * 65536 ≤ min (far (at_ 198 .trailing .none)) (198 * 65536)) ∧
    ((at_ 198 .stopping (.stop 200 10)).pass.state ≠ .trailing ∧ 10 + 1 < 200) ∧
    ¬(101 : Int) * 65536 ≤ far (passing r .running clocking) ∧
    (free.clock.state = .following ∧ free.clock.lock = some .syncLost ∧
      101 * 65536 ≤ free.clock.phase + free.clock.increment) := by decide +kernel

/-- O41: R136's frame starts and R114's ramp on single ticks. -/
theorem test_frame_starts_of_a_tick :
    let r := record12 .master
    let at_ (f : Int) (st : PassState) (ramp : Ramp) : State := (reporting (passing r st
      { clocking with phase := f * 65536 - 1, currentFrame := f - 1, ramp := ramp })).tickPass
    let s := at_ 100 .rolling .none
    (s.pass.state = .running ∧ s.pass.report.frames = 1 ∧ s.clock.currentFrame = 100 ∧
      s.clock.cameraSync = true) ∧
    ((at_ 196 .running .none).pass.state = .trailing ∧ (at_ 196 .running .none).pass.endReached = some true) ∧
    ((at_ 198 .trailing .none).pass.state = .ended ∧
      (at_ 198 .trailing .none).pass.report.outcome = .complete) ∧
    ((at_ 198 .stopping (.stop 200 10)).pass.report.outcome = .aborted) ∧
    (at_ 150 .holding (.hold 20 10)).clock.ramp = .hold 20 11 := by decide +kernel

/-- O42: a standing pass, a step in hand, the last frame in range, and the first out of it. -/
theorem witness_StepsAreAskedForAndBegin :
    let s (st : PassState) : State := passing stepRecord st .reset
    let q : Stepping := (s .stepReady).pass.stepping
    ((s .stepReady).phase = .serving ∧ (s .stepReady).pass.record = some stepRecord ∧
      stepRecord.mode = .step ∧ stepRecord.step = some fields) ∧
    ((s .stepReady).pass.state = .stepReady ∧ (s .stepMoving).pass.state = .stepMoving ∧
      (s .atStart).pass.state = .atStart) ∧ (q.abortRequested = false ∧ q.direction = none) ∧
    (q.pending + 6 ≤ 255 ∧ q.committed stepRecord.startFrame + 6 ≤ stepRecord.last ∧
      ¬q.committed stepRecord.startFrame + 7 ≤ stepRecord.last) ∧ 1 ≤ 255 ∧
    fields.inputEnable = true ∧ { fields with inputEnable := false }.inputEnable = false := by decide +kernel

/-- O42: each test of R152 at the value next to the one that passes. -/
theorem witness_StepsAreRefused :
    let s (st : PassState) (q : Stepping) : State :=
      { passing stepRecord st .reset with pass := { (passing stepRecord st .reset).pass with stepping := q } }
    let q : Stepping := { Stepping.reset with
      pending := 2, direction := some .forward, destination := some 122 }
    (serving.pass.record = none ∧ serving.pass.state = .idle) ∧ (255 < 256 ∧ 1 < 2) ∧
    (record12 .master).mode ≠ .step ∧
    ((s .running q).pass.state = .running ∧ (s .stepMoving q).pass.state = .stepMoving) ∧
    ({ q with abortRequested := true } : Stepping).abortRequested = true ∧
    (0 < q.pending ∧ q.direction = some .forward ∧ Direction.forward ≠ .reverse) ∧
    (255 < q.pending + 254 ∧ ¬255 < q.pending + 253) ∧
    ((stepRecord.last : Int) < 122 + 2 + 3 ∧ ¬(stepRecord.last : Int) < 122 + 2 + 2) ∧
    ((s .stepReady { q with pending := 0 }).pass.stepping.destination.isSome = true ∧
      (s .atStart .reset).pass.stepping.destination = none) ∧
    { fields with inputEnable := false }.inputEnable = false := by decide +kernel

/-- O43: each state with its count on its last tick, both exposure controls, and the end frame. -/
theorem witness_StepsSettleAndExpose :
    let on (st : PassState) (q : Stepping) : State :=
      { passing stepRecord st .reset with pass := { (passing stepRecord st .reset).pass with stepping := q } }
    let ease : StepEase := { start := 7864320, dist := 65536, duration := 400, elapsed := 399 }
    let moving := on .stepMoving { Stepping.reset with ease := some ease }
    let timed : StepFields := { fields with exposure := .timed 60000 }
    (moving.phase = .serving ∧ moving.pass.record = some stepRecord ∧ stepRecord.step = some fields ∧
      moving.pass.state ≠ .idle ∧ (record12 .master).mode ≠ .step) ∧
    (moving.pass.stepping.ease = some ease ∧ ease.elapsed + 1 = ease.duration) ∧
    (on .stepSettling { Stepping.reset with settleRemaining := some 1 }).pass.stepping.settleRemaining =
      some 1 ∧
    (on .exposing { Stepping.reset with exposureRemaining := some 1 }).pass.stepping.exposureRemaining =
      some 1 ∧
    (on .exposing { Stepping.reset with destination := some 126 }).pass.stepping.destination =
      some stepRecord.endFrame ∧
    (on .exposing { Stepping.reset with pending := 1 }).pass.stepping.destination ≠
      some stepRecord.endFrame ∧
    (fields.exposure = .handshake 6000 ∧ timed.exposure = .timed 60000) ∧
    { fields with settle := 0 }.settle = 0 ∧ serving.pass.state ≠ .exposing := by decide +kernel

/-- O43: each state on its last tick but one, a standing step, and no pass. -/
theorem witness_TheTickOfAStep :
    let on (st : PassState) (q : Stepping) : State :=
      { passing stepRecord st .reset with pass := { (passing stepRecord st .reset).pass with stepping := q } }
    let ease : StepEase := { start := 7864320, dist := 65536, duration := 400, elapsed := 398 }
    (serving.phase = .serving ∧ serving.pass.record = none ∧ serving.pass.state = .idle) ∧
    ((on .stepMoving { Stepping.reset with ease := some ease }).pass.stepping.ease = some ease ∧
      ease.elapsed + 1 < ease.duration ∧ stepRecord.step = some fields) ∧
    ((on .stepSettling { Stepping.reset with settleRemaining := some 2 }).pass.stepping.settleRemaining =
      some 2 ∧ 1 < 2) ∧
    (on .exposing { Stepping.reset with exposureRemaining := some 2 }).pass.stepping.exposureRemaining =
      some 2 ∧
    ((on .stepReady .reset).pass.state = .stepReady ∧
      (on .stepReady .reset).pass.record = some stepRecord ∧
      (on .stepReady .reset).move stepRecord.slot = some (certified12 .bound) ∧
      (stepRecord.axes.map (·.axis)).Nodup ∧ 0 ∈ stepRecord.axes.map (·.axis) ∧
      1 ∉ stepRecord.axes.map (·.axis) ∧ ((on .stepReady .reset).axis 0).drive = .on) := by decide +kernel

/-- O44: a quiet part with one drive ON, one OFF and two settling. -/
theorem witness_AQuietServoTickByItsStages :
    let s := ((withMove move12).setAxis 1 { inService with drive := .settling 1 }).setAxis 2
      { inService with drive := .settling 2 }
    inService.conf.softLow ≤ inService.conf.softHigh ∧
    (s.phase = .serving ∧ s.edit = none ∧ s.check = none ∧ s.linkA.transfer = none ∧
      s.linkB.transfer = none ∧ s.park = none ∧ s.pass.state.inRun = false ∧ s.pass.state.inStep = false ∧
      s.pass.state ≠ .approaching ∧ s.clock.state = .stopped ∧ s.pass.report.outcome ≠ .running) ∧
    s.compareSupply = s ∧ (∀ a ∈ allAxes, (s.axis a).owner ≠ .home) ∧
    (∀ a ∈ allAxes, (s.axis a).drive = .on →
      (s.axis a).outputTick.followingError.natAbs ≤ (s.axis a).conf.feMax) := by decide +kernel

/-- O44, O45: a FOLLOWING part in its run with its error at FEmax and one beyond it, each lock state, a pass
axis ON, and a tick that stays short of the loss of sync. -/
theorem witness_TheTickOfAFollowingPass :
    let c (k : LockState) (b : Bool) : Clock :=
      { following k b with lastEdge := some 1000, lastPeriod := some 1365333, increment := 786 }
    let r : PassRecord := record12 .follower
    let s (k : LockState) (e : Int) : State :=
      { (reporting (passing r .running (c k true))).setAxis 0
          { inService with owner := .pass, encoder := e } with refClock := 2000 }
    let u (e : Int) : State := { s .locked e with refClock := 16384 }.tickPass
    ((s .locked 0).phase = .serving ∧ (s .locked 0).edit = none ∧ (s .locked 0).check = none ∧
      (s .locked 0).linkA.transfer = none ∧ (s .locked 0).linkB.transfer = none ∧
      (s .locked 0).park = none ∧ (∀ a ∈ allAxes, ((s .locked 0).axis a).owner ≠ .home) ∧
      (s .locked 0).compareSupply = s .locked 0 ∧ (2000 / 16384 + 1) * 16384 < 1000 + 2 * 1365333) ∧
    (((u (-90)).axis 0).drive = .on ∧ ((u (-90)).axis 0).owner = .pass ∧
      (u (-90)).pass.report.outcome = .running ∧
      ((u (-90)).axis 0).outputTick.followingError.natAbs ≤ 90 ∧
      90 < ((u (-91)).axis 0).outputTick.followingError.natAbs ∧
      ∀ a ∈ allAxes, a ≠ 0 → ((u (-90)).axis a).drive = .off) ∧
    ((s .locked 0).pass.state.inRun = true ∧ (u 0).pass.state.inRun = true ∧
      (s .locked 0).move r.slot = some (certified12 .bound) ∧ r.first < r.last ∧ (r.axes.map (·.axis)).Nodup ∧
      (s .locked 0).clock.direction = some .forward ∧
      (s .locked 0).clock.travelLimit = some 12976128) ∧
    (s .syncLost 0).clock.lock = some .syncLost ∧ (c .acquiring false).lock = some .acquiring := by
  decide +kernel

/-- O44: a part with a park and a PRESSING home at and beyond its stop, and the premises of the general clause. -/
theorem witness_TheTickOfAPartInMotion :
    let s (e : Int) : State := ((parking 600 false none).setAxis 0 { inService with
      owner := .park, setpoint := 4875, stepPosition := 4875, encoder := 4875 }).setAxis 1 { inService with
      owner := .home, datum := .seeking, encoder := e,
      home := some { leg := .pressing, start := 0, cause := .none },
      creep := some { position := 0, velocity := 0, target := 0, step := 819 } }
    let u (e : Int) : State := (s e).beforeOutput
    ((s 0).phase = .serving ∧ (s 0).edit = none ∧ (s 0).check = none ∧ (s 0).linkA.transfer = none ∧
      (s 0).linkB.transfer = none ∧ (s 0).compareSupply = s 0 ∧ (s 0).clock.state ≠ .following) ∧
    ((s 0).park.isSome = true ∧ ((s 0).axis 1).owner = .home) ∧
    (((u (-45)).axis 0).drive = .on ∧ ((u (-45)).axis 0).outputTick.followingError.natAbs ≤ 90) ∧
    (((u (-45)).axis 1).drive = .on ∧ ((u (-45)).axis 1).owner = .home ∧
      ((u (-45)).axis 1).home.map (·.leg) = some .pressing ∧
      ((u (-45)).axis 1).outputTick.followingError.natAbs ≤ ((u (-45)).axis 1).conf.feMax / 2 ∧
      ((u (-46)).axis 1).conf.feMax / 2 < ((u (-46)).axis 1).outputTick.followingError.natAbs) := by
  decide +kernel

/-- O45: an axis of each owner, and a pass in each kind of state. -/
theorem witness_ATripTurnsTheDriveAndTellsTheOwner :
    ((withAxis inService).axis 0).owner = .none ∧
    ((passing (record12 .master) .running clocking).axis 0).owner = .pass ∧
    (passing (record12 .master) .running clocking).pass.state.inRun = true ∧
    (passing stepRecord .exposing .reset).pass.state.inStep = true ∧
    (passing (record12 .master) .atStart .reset).pass.state = .atStart ∧
    (passing (record12 .master) .ended .reset).pass.state = .ended ∧
    (((homing .abandoning { position := 0, velocity := 0, target := 0, step := 1 }).axis 0).owner = .home ∧
      ((homing .abandoning { position := 0, velocity := 0, target := 0, step := 1 }).axis 0).home =
        some { leg := .abandoning, start := 0, cause := .none }) ∧
    (((parking 9 false none).axis 0).owner = .park ∧
      (parking 9 false none).park = some (group 9 false) ∧ 0 ∈ (group 9 false).ids ∧
      (group 9 true).stopping = true) := by decide +kernel

/-- O46. -/
theorem witness_AnEstopTurnsEveryDriveOff :
    let h := homing .searching { position := 0, velocity := 0, target := 0, step := 1 }
    { serving with estop := true }.estop = true ∧ serving.estop = false ∧
    ((h.axis 0).owner = .home ∧ h.ownersAgree = true ∧ (h.axis 1).owner = .none) ∧
    ((withAxis inService).axis 0).owner ≠ .home ∧
    (passing (record12 .master) .running clocking).pass.state.inRun = true ∧
    (approaching 1 false none).pass.state = .approaching ∧ serving.pass.state = .idle := by decide +kernel

/-- O47: an enable while the E-stop is asserted, and after its release. -/
theorem witness_AnEstopReleaseEnablesNothing :
    let s := { withAxis { inService with drive := .off } with estop := true }
    (s.phase = .serving ∧ s.estop = true ∧ (s.axis 0).conf.unset = false ∧ (s.axis 0).drive = .off ∧
      (s.axis 0).conf.settleTime ≠ 0 ∧ s.supplyLow = false) ∧
    { rig with settleTime := 0 }.settleTime = 0 ∧ (s.axis 1).conf.unset = true ∧ serving.estop = false ∧
    exec .estopRelease s = .next (after .estopRelease s) := by
  refine ⟨by decide +kernel, by decide, by decide +kernel, by decide, rfl⟩

/-- O48: the voltages next to the thresholds of level 0 and the highest level. -/
theorem witness_TheSupplyMonitorComparesWithItsThreshold :
    (serving.supplyLow = false ∧ 179 < 180 ∧ serving.supplyAction = .flag ∧ serving.supplyLevel = 0) ∧
    { serving with supplyAction := .stop }.supplyAction = .stop ∧
    ({ serving with supplyLow := true }.supplyLow = true ∧ 180 + 10 ≤ 190 ∧ 189 < 180 + 10) ∧
    (serving.phase = .serving ∧ 3 < 4 ∧ 1 < 2 ∧ 3 ≤ 3) := by decide +kernel

/-- O48: a supply STOP in a run, in an approach, of a park and of a home. -/
theorem witness_TheSupplyStop :
    let low : State := { serving with supplyLow := true, supplyTenths := 189 }
    (low.supplyTenths < 180 + 10 ∧ low.supplyAction = .flag ∧ SupplyAction.stop ≠ .flag) ∧
    { serving with supplyTenths := 490 }.supplyLow = false ∧ 180 + 300 ≤ 490 ∧
    (passing (record12 .master) .running clocking).pass.state.inRun = true ∧
    (approaching 1 false none).pass.state = .approaching ∧ serving.pass.state = .idle ∧
    ((parking 9 false none).ownersAgree = true ∧ (parking 9 false none).park = some (group 9 false)) ∧
    (homing .searching { position := 0, velocity := 0, target := 0, step := 1 }).ownersAgree = true := by
  decide +kernel

/-- O50: a check in progress with its peaks and extents formed, behind an edit of another move. -/
theorem witness_ACheckInProgressIsSound :
    let m : Move := { move12 with state := .checking }
    let run : CheckRun := { slot := 12, limits := [limitsOf 0 rig], peaks := [], extents := [], elapsed := 3 }
    let s : State := { withMove m with check := some (run.works m 4), pending := [.servoTick],
                                       edit := some (runOf (.moveRetire 1)) }
    s.checkSound = true ∧ s.directoryAgrees = true ∧ s.recordAgrees = true ∧
    (run.works m 4).extents ≠ [] ∧ step s = .next (stepped s) := by
  refine ⟨by decide +kernel, by decide +kernel, by decide +kernel, by decide +kernel, rfl⟩

/-- O50, O51, O52, O53, O54, O55, O56, O57: one sound state with a step in it. -/
theorem witness_TheInvariantsHoldOfAPassInProgress :
    let s := { reporting (passing (record12 .master) .running clocking) with
      pass := { (reporting (passing (record12 .master) .running clocking)).pass with cameraRun := true }
      pending := [.eventsRead .a] }
    (s.transfersApart = true ∧ s.waitingNeedsWork = true ∧ s.initQuiet = true ∧
      s.directoryAgrees = true ∧ s.recordAgrees = true ∧ s.poolBalanced = true ∧ s.tracksSound = true ∧
      s.ownersAgree = true ∧ s.outputsAgree = true ∧ s.estopHolds = true ∧ s.opSparesHeld = true ∧
      s.checkSound = true) ∧
    step s = .next (stepped s) ∧
    (s.pending.head? ≠ some .hardReset ∧ s.move 12 = some (certified12 .bound) ∧
      (certified12 .bound).state = .bound) := by
  refine ⟨by decide +kernel, rfl, by decide +kernel⟩

/-- O57: a protected move with nothing held. -/
theorem witness_HeldMovesKeepTheirContent :
    let s := withMove { move12 with isProtected := true }
    s.opSparesHeld = true ∧ s.move 12 = some { move12 with isProtected := true } ∧
    ∀ l e, (s.link l).held ≠ some (.command (.moveUnprotect 12 e)) := by
  have h : ∀ l, ((withMove { move12 with isProtected := true }).link l).held = none :=
    fun l => by cases l <;> decide +kernel
  refine ⟨by decide +kernel, by decide +kernel, fun l e => by simp [h]⟩

/-- O58. -/
theorem witness_TheCeilingIsTheLargestSafeRate :
    checkResult move12 [limitsOf 0 rig] = .certified summary12 ∧ 0 ∈ move12.presentAxes ∧
    [limitsOf 0 rig].find? (fun x => decide (x.axis = 0)) = some (limitsOf 0 rig) ∧
    summary12.limitingAxis = .axis 0 := by decide +kernel

/-- O58: a move for each failure, at the limits next to those that certify; the ceilings 1,000 and 300,000, and
DEVICE. -/
theorem witness_EachFailureOfACheck :
    let lim (v a : Nat) : AxisLimits := { limitsOf 0 rig with vmax := v, amax := a }
    let p := axisPeaks 0 keys12
    let one : AxisKey := { frame := 7, value := 0, mode := .flat }
    let short : Move := { move12 with
      axisTracks := move12.axisTracks.set 3 [one], speedTrack := [{ frame := 9, rate := 1000 }] }
    let fits (l : AxisLimits) (q : Nat) : Bool := decide (q * p.velocity.value ≤ 1000 * l.vmax ∧
      q * q * p.acceleration.value ≤ 1000000 * l.amax ∧ q * p.corner.value ≤ 1000 * l.jmax)
    (∀ a ∈ allAxes, (Move.fresh [] 0 1).axisTrack a = []) ∧ move12.axisTrack 0 ≠ [] ∧
    (short.frames (.axis 3) = [7] ∧ short.frames .speed = [9] ∧
      ∀ a ∈ allAxes, a < 3 → (short.frames (.axis a)).length ≠ 1) ∧
    ({ move12 with first := 99 }.frames (.axis 0) = [100, 148, 196] ∧ (100 : Nat) ≠ 99 ∧
      { move12 with last := 197 }.first = 100 ∧ (196 : Nat) ≠ 197) ∧
    (∃ x ∈ [limitsOf 0 AxisRecord.reset], x.axis = 0 ∧ x.unset = true) ∧
    (fits (lim 200000 62) 992 = true ∧ 1000000 * 62 < (992 + 1) * (992 + 1) * p.acceleration.value ∧
      fits (lim 200000 62) 1000 = false) ∧
    (fits (lim 200000 63) 1000 = true ∧ 1000000 * 63 < (1000 + 1) * (1000 + 1) * p.acceleration.value) ∧
    (fits (lim 450001 4294967295) 300000 = true ∧ 1000 * 450001 < (300000 + 1) * p.velocity.value) ∧
    fits (lim 450002 4294967295) 300001 = true ∧
    (∀ a ∈ allAxes, a ≠ 0 → move12.axisTrack a = []) := by decide +kernel

/-- O58: the failures of section 3.3's table, in its order. -/
theorem test_failures_of_a_check :
    let one : AxisKey := { frame := 150, value := 0, mode := .flat }
    let limits := [limitsOf 0 rig, limitsOf 9 rig]
    let m9 : Move := { move12 with first := 99, axisTracks := move12.axisTracks.set 9 [one] }
    checkResult m9 limits = .failed { reason := .shortTrack, track := some (.axis 9), frame := 150 } ∧
    checkResult { move12 with first := 99 } limits =
      .failed { reason := .span, track := some (.axis 0), frame := 100 } ∧
    checkResult { move12 with last := 197 } limits =
      .failed { reason := .span, track := some (.axis 0), frame := 196 } ∧
    checkResult { move12 with speedTrack := [{ frame := 100, rate := 1000 }] } limits =
      .failed { reason := .shortTrack, track := some .speed, frame := 100 } ∧
    checkResult move12 [limitsOf 0 AxisRecord.reset] =
      .failed { reason := .axisUnset, track := some (.axis 0), frame := 100 } ∧
    checkResult move12 [{ limitsOf 0 rig with amax := 62 }] =
      .failed { reason := .tooSlow, track := some (.axis 0), frame := 100 } := by decide +kernel

/-- O58: the ends of a track, a segment, and its last key. -/
theorem witness_ExtentsAndPeaks :
    keys12.getLast? = some { frame := 196, value := 84000, mode := .flat } ∧
    keys12.head? = some { frame := 100, value := 0, mode := .flat } ∧
    (∀ g ∈ segments (resolve keys12), 0 < g.length) ∧ segments (resolve keys12) ≠ [] := by decide +kernel

/-- O59: the first and the last key, and the phases next to the span. -/
theorem witness_TheCurveMeetsItsKeys :
    increasing (keys12.map (·.frame)) = true ∧
    keys12.head? = some { frame := 100, value := 0, mode := .flat } ∧ (6553599 : Int) < 100 * 65536 ∧
    keys12.getLast? = some { frame := 196, value := 84000, mode := .flat } ∧
    (196 : Int) * 65536 ≤ 12845056 := by decide

/-- O60: the shortest ease and its ends, a ramp fraction of 1, and a distance of one count. -/
theorem witness_EasesAndSearchesAreExact :
    (1 ≤ 1 ∧ 0 < 1 ∧ 1 ≤ 1) ∧ (1 ≤ 20 ∧ 20 ≤ 20) ∧ ((1 : Int) ≠ 0 ∧ 0 < 1) := by decide

end Sys2Proof.Machine.Tests
end

section
/-! SUPPORT. The relation between two states that every command but the edit unit's own, the arming and the release
of a move and the resets stands in: the moves keep their span, label, keys and protection, the pool and the
operation in progress are as they were, and BOUND and CHECKING go on agreeing with their holders. -/

namespace Sys2Proof.Machine

/-! ### Moves after an update of the store -/

/-- A move's state is changed in the store where the slot holds one, and no other slot is touched. -/
theorem State.onMove_move (s : State) (n k : Nat) (f : Move → Move) :
    (s.onMove n f).move k = if k = n then (s.move k).map f else s.move k := by
  unfold State.onMove
  split
  · next h =>
    subst h
    cases hm : s.move k with
    | some m => exact s.setMove_move (s.move_bounds hm).1 (s.move_bounds hm).2 _
    | none =>
      by_cases h1 : 1 ≤ k ∧ k ≤ 64
      · exact s.setMove_move h1.1 h1.2 _
      · cases hc : (s.setMove k (none.map f)).move k with
        | none => rfl
        | some m => exact absurd (State.move_bounds _ hc) h1
  · next h => exact s.setMove_move_ne h _

theorem State.onMoves_move (s : State) (k : Nat) (f : Move → Move) :
    (s.onMoves f).move k = (s.move k).map f := by
  unfold State.onMoves State.move
  split
  · simp only [Vector.getElem?_map]
    cases s.slots[k - 1]? with
    | none => rfl
    | some o => cases o <;> rfl
  · rfl

theorem State.move_congr {s t : State} (h : t.slots = s.slots) (n : Nat) : t.move n = s.move n := by
  unfold State.move; rw [h]

theorem State.stateOf_congr {s t : State} {n : Nat} (h : t.move n = s.move n) : t.stateOf n = s.stateOf n := by
  unfold State.stateOf; rw [h]

/-! ### What a held move keeps -/

/-- A move but for its certification and its generation: what an edit of its content or its protection changes. -/
def Move.core (m : Move) : Move :=
  { m with state := .opened, generation := 0, summary := none, failure := none, uncertify := false }

theorem Move.core_eq_iff {m k : Move} :
    k.core = m.core ↔ m.sameContent k = true ∧ k.isProtected = m.isProtected := by
  simp only [Move.core, Move.mk.injEq, Move.sameContent, decide_eq_true_eq]
  constructor
  · rintro ⟨-, h1, -, h2, h3, h4, h5, h6, -⟩
    exact ⟨⟨h3.symm, h4.symm, h2.symm, h5.symm, h6.symm⟩, h1⟩
  · rintro ⟨⟨h3, h4, h2, h5, h6⟩, h1⟩
    exact ⟨trivial, h1, trivial, h2.symm, h3.symm, h4.symm, h5.symm, h6.symm, trivial, trivial, trivial⟩

/-- BOUND is the state of the one move a holder `b` names and CHECKING that of the one the check engine works on,
and a retire in progress works on neither. -/
structure State.Agrees (s : State) (b : Option Nat) : Prop where
  bound : ∀ n, s.stateOf n = some .bound ↔ b = some n
  checking : ∀ n, s.stateOf n = some .checking ↔ s.check.map (·.slot) = some n
  retire : ∀ n, s.edit.map (·.op) = some (.moveRetire n) →
    s.stateOf n ≠ some .bound ∧ s.stateOf n ≠ some .checking

theorem mem_allSlots {n : Nat} : n ∈ allSlots ↔ 1 ≤ n ∧ n ≤ 64 := by
  simp only [allSlots, List.mem_map, List.mem_range]
  constructor
  · rintro ⟨a, ha, rfl⟩; omega
  · intro h; exact ⟨n - 1, by omega, by omega⟩

theorem slotOk_iff {n : Nat} : slotOk n = true ↔ 1 ≤ n ∧ n ≤ 64 := by simp [slotOk]

theorem State.stateOf_eq_some {s : State} {n : Nat} {st : MoveState} :
    s.stateOf n = some st ↔ ∃ m, s.move n = some m ∧ m.state = st := by
  simp [State.stateOf]

theorem State.slotOk_of_stateOf {s : State} {n : Nat} {st : MoveState} (h : s.stateOf n = some st) :
    slotOk n = true := by
  obtain ⟨m, hm, -⟩ := State.stateOf_eq_some.1 h
  exact slotOk_iff.2 (s.move_bounds hm)

theorem State.retireGuard_iff {s : State} : s.retireGuard = true ↔
    ∀ n, s.edit.map (·.op) = some (.moveRetire n) →
      s.stateOf n ≠ some .bound ∧ s.stateOf n ≠ some .checking := by
  unfold State.retireGuard
  split
  · next r hr =>
    cases hop : r.op <;> simp [hr, hop]
  · next hr => simp [hr]

/-- The directory agrees exactly when it does with the slot of the pass record. -/
theorem State.directoryAgrees_iff {s : State} :
    s.directoryAgrees = true ↔ s.Agrees (s.pass.record.map (·.slot)) := by
  have hdir : s.directoryAgrees = true ↔
      (∀ n, 1 ≤ n ∧ n ≤ 64 → ((s.stateOf n = some .bound ↔ s.pass.record.map (·.slot) = some n) ∧
        (s.stateOf n = some .checking ↔ s.check.map (·.slot) = some n))) ∧
      (∀ n, s.pass.record.map (·.slot) = some n → slotOk n = true) ∧
      (∀ n, s.check.map (·.slot) = some n → slotOk n = true) ∧ s.retireGuard = true := by
    unfold State.directoryAgrees
    cases s.pass.record <;> cases s.check <;> simp [mem_allSlots, and_assoc]
  rw [hdir, State.retireGuard_iff]
  constructor
  · rintro ⟨h, hrec, hchk, hret⟩
    refine ⟨fun n => ?_, fun n => ?_, hret⟩
    · exact ⟨fun hb => ((h n (slotOk_iff.1 (State.slotOk_of_stateOf hb))).1).1 hb,
        fun hb => ((h n (slotOk_iff.1 (hrec n hb))).1).2 hb⟩
    · exact ⟨fun hb => ((h n (slotOk_iff.1 (State.slotOk_of_stateOf hb))).2).1 hb,
        fun hb => ((h n (slotOk_iff.1 (hchk n hb))).2).2 hb⟩
  · rintro ⟨hb, hc, hret⟩
    exact ⟨fun n _ => ⟨hb n, hc n⟩, fun n h => State.slotOk_of_stateOf ((hb n).2 h),
      fun n h => State.slotOk_of_stateOf ((hc n).2 h), hret⟩

theorem State.recordAgrees_iff {s : State} :
    s.recordAgrees = true ↔ (s.pass.state = .idle ↔ s.pass.record = none) := by
  simp [State.recordAgrees]

/-! ### The relation -/

/-- The free blocks and the core of every move are as they were. -/
structure MovesKept (s t : State) : Prop where
  free : t.free = s.free
  cores : ∀ n, (t.move n).map Move.core = (s.move n).map Move.core

/-- What every command does but the edit unit's own, PASS_ARM, PASS_DISARM and the resets: the moves and the
operation in progress keep their content, no move becomes BOUND, and the directory and the pass record go on
agreeing. -/
structure StoreKept (s t : State) : Prop extends MovesKept s t where
  op : t.edit.map (·.op) = s.edit.map (·.op)
  bound : ∀ n, t.stateOf n = some .bound → s.stateOf n = some .bound
  agrees : ∀ b, s.Agrees b → t.Agrees b
  record : t.pass.record = s.pass.record
  idle : s.recordAgrees = true → t.recordAgrees = true

variable {s t u : State}

theorem MovesKept.refl (s : State) : MovesKept s s := ⟨rfl, fun _ => rfl⟩

theorem MovesKept.trans (h : MovesKept s t) (k : MovesKept t u) : MovesKept s u :=
  ⟨k.free.trans h.free, fun n => (k.cores n).trans (h.cores n)⟩

theorem MovesKept.of_slots (hf : t.free = s.free) (hs : t.slots = s.slots) : MovesKept s t :=
  ⟨hf, fun n => by rw [State.move_congr hs]⟩

theorem StoreKept.refl (s : State) : StoreKept s s :=
  ⟨.refl s, rfl, fun _ h => h, fun _ h => h, rfl, fun h => h⟩

theorem StoreKept.trans (h : StoreKept s t) (k : StoreKept t u) : StoreKept s u :=
  ⟨h.toMovesKept.trans k.toMovesKept, k.op.trans h.op, fun n hb => h.bound n (k.bound n hb),
    fun b ha => k.agrees b (h.agrees b ha), k.record.trans h.record, fun hr => k.idle (h.idle hr)⟩

/-- A slot that held a move holds one of the same core, and an EMPTY slot stays EMPTY. -/
theorem MovesKept.move_some (h : MovesKept s t) {n : Nat} {m : Move} (hm : s.move n = some m) :
    ∃ k, t.move n = some k ∧ k.core = m.core := by
  have hc := h.cores n
  rw [hm] at hc
  simpa using hc

theorem MovesKept.move_none (h : MovesKept s t) {n : Nat} (hm : s.move n = none) : t.move n = none := by
  have hc := h.cores n
  rw [hm] at hc
  simpa using hc

theorem MovesKept.some_of (h : MovesKept s t) {n : Nat} {k : Move} (hk : t.move n = some k) :
    ∃ m, s.move n = some m ∧ k.core = m.core := by
  have hc := h.cores n
  rw [hk] at hc
  cases hm : s.move n with
  | none => rw [hm] at hc; simp at hc
  | some m => rw [hm] at hc; exact ⟨m, rfl, by simpa using hc⟩

theorem State.Agrees.of_slots {b : Option Nat} (h : s.Agrees b) (hs : t.slots = s.slots)
    (hc : t.check.map (·.slot) = s.check.map (·.slot))
    (he : t.edit = none ∨ t.edit.map (·.op) = s.edit.map (·.op)) : t.Agrees b := by
  have hst : ∀ n, t.stateOf n = s.stateOf n := fun n => State.stateOf_congr (State.move_congr hs n)
  refine ⟨fun n => by rw [hst]; exact h.bound n, fun n => by rw [hst, hc]; exact h.checking n, fun n hn => ?_⟩
  rw [hst]
  rcases he with he | he
  · simp [he] at hn
  · exact h.retire n (he ▸ hn)

/-- The store, the operation, the slot under check and the pass record are as they were. -/
theorem StoreKept.of_same (hs : t.slots = s.slots) (hf : t.free = s.free)
    (he : t.edit.map (·.op) = s.edit.map (·.op)) (hc : t.check.map (·.slot) = s.check.map (·.slot))
    (hr : t.pass.record = s.pass.record) (hi : s.recordAgrees = true → t.recordAgrees = true) :
    StoreKept s t :=
  ⟨.of_slots hf hs, he, fun n hb => by rwa [State.stateOf_congr (State.move_congr hs n)] at hb,
    fun _ h => h.of_slots hs hc (.inr he), hr, hi⟩

/-- Neither the store nor the pass controller is written. -/
theorem StoreKept.of_pass (hs : t.slots = s.slots) (hf : t.free = s.free) (he : t.edit = s.edit)
    (hc : t.check = s.check) (hp : t.pass = s.pass) : StoreKept s t :=
  .of_same hs hf (by rw [he]) (by rw [hc]) (by rw [hp]) (fun h => by
    rw [State.recordAgrees_iff] at h ⊢; rwa [hp])

/-- A pass record is present, so that the pass may take any state but IDLE. -/
def State.engaged (s : State) : Prop := s.recordAgrees = true → s.pass.record ≠ none

theorem State.engaged_of_record {r : PassRecord} (h : s.pass.record = some r) : s.engaged :=
  fun _ e => by rw [h] at e; cases e

theorem State.engaged_of_state (h : s.pass.state ≠ .idle) : s.engaged :=
  fun ha e => h ((State.recordAgrees_iff.1 ha).2 e)

/-- The pass controller is written, and its state does not become IDLE. -/
theorem StoreKept.of_engaged (hs : t.slots = s.slots) (hf : t.free = s.free) (he : t.edit = s.edit)
    (hc : t.check = s.check) (hr : t.pass.record = s.pass.record) (h : s.engaged)
    (hi : t.pass.state ≠ .idle) : StoreKept s t :=
  .of_same hs hf (by rw [he]) (by rw [hc]) hr (fun ha => by
    rw [State.recordAgrees_iff, hr]
    exact ⟨fun e => absurd e hi, fun e => absurd e (h ha)⟩)

/-- The pass controller is written but for its record and its state. -/
theorem StoreKept.of_state (hs : t.slots = s.slots) (hf : t.free = s.free) (he : t.edit = s.edit)
    (hc : t.check = s.check) (hr : t.pass.record = s.pass.record) (hi : t.pass.state = s.pass.state) :
    StoreKept s t :=
  .of_same hs hf (by rw [he]) (by rw [hc]) hr (fun ha => by
    rw [State.recordAgrees_iff] at ha ⊢; rwa [hr, hi])

/-- An operation made for each axis of a list keeps the store when it does for each axis. -/
theorem forAxes_kept (as : List AxisId) (f : AxisId → State → State) (h : ∀ a t, StoreKept t (f a t))
    (s : State) : StoreKept s (forAxes as f s) :=
  forAxes_inv s (StoreKept s) f (fun a t ht => ht.trans (h a t)) as (.refl s)

/-- The same for operations made along any list. -/
theorem foldl_kept {α : Type} (l : List α) (f : State → α → State) (h : ∀ t x, StoreKept t (f t x))
    (s : State) : StoreKept s (l.foldl f s) := by
  induction l generalizing s with
  | nil => exact .refl s
  | cons x xs ih => exact (h s x).trans (ih _)

end Sys2Proof.Machine
end

section
/-! SUPPORT. The operations that keep the store, file by file in the order of the model: each one's lemma says that
`StoreKept` holds between the state before it and the state after it. -/

namespace Sys2Proof.Machine

variable (s : State) (l : LinkId) (a : AxisId)

/-! ### Links, axes, the clock (Machine/Ops) -/

theorem State.setLink_kept (k : Link) : StoreKept s (s.setLink l k) := by
  cases l <;> exact .of_pass rfl rfl rfl rfl rfl

theorem State.onLink_kept (f : Link → Link) : StoreKept s (s.onLink l f) := s.setLink_kept l _

theorem State.onLinks_kept (f : Link → Link) : StoreKept s (s.onLinks f) := .of_pass rfl rfl rfl rfl rfl

theorem State.raise_kept (k : EventKind) : StoreKept s (s.raise k) := s.onLinks_kept _

theorem State.setAxis_kept (x : Axis) : StoreKept s (s.setAxis a x) := .of_pass rfl rfl rfl rfl rfl

theorem State.onAxis_kept (f : Axis → Axis) : StoreKept s (s.onAxis a f) := s.setAxis_kept a _

theorem State.onAxes_kept (f : Axis → Axis) : StoreKept s (s.onAxes f) := .of_pass rfl rfl rfl rfl rfl

theorem State.withClock_kept (c : Clock) : StoreKept s (s.withClock c) := .of_pass rfl rfl rfl rfl rfl

/-- The pass controller is written but for its record and its state. -/
theorem State.withPass_kept (p : Pass) (hr : p.record = s.pass.record) (hs : p.state = s.pass.state) :
    StoreKept s (s.withPass p) := .of_state rfl rfl rfl rfl hr hs

/-- The pass controller, its record present, goes to a state that is not IDLE. -/
theorem State.withPass_kept_of_engaged (p : Pass) (hr : p.record = s.pass.record) (h : s.engaged)
    (hs : p.state ≠ .idle) : StoreKept s (s.withPass p) := .of_engaged rfl rfl rfl rfl hr h hs

theorem StoreKept.engaged {s t : State} (h : StoreKept s t) (hr : s.pass.record ≠ none) : t.engaged :=
  fun _ => h.record ▸ hr

theorem StoreKept.hasRecord {s t : State} (h : StoreKept s t) (hr : s.pass.record ≠ none) :
    t.pass.record ≠ none := h.record ▸ hr

/-! ### Answers and selections (Machine/Flags) -/

theorem State.answer_kept (x : Answer) : StoreKept s (s.answer l x) := s.onLink_kept l _

theorem State.accept_kept (r : Results) (b : Bool) : StoreKept s (s.accept l r b) := s.answer_kept l _

theorem State.refuseWith_kept (w : Reason) (r : Results) (b : Bool) : StoreKept s (s.refuseWith l w r b) :=
  s.answer_kept l _

theorem State.refuse_kept (w : Reason) : StoreKept s (s.refuse l w) := s.answer_kept l _

theorem State.ok_kept (r : Results) : StoreKept s (s.ok l r) := s.answer_kept l _

theorem State.deselect_op : (s.deselect l).edit.map (·.op) = s.edit.map (·.op) := by
  rw [State.deselect_edit]
  cases s.edit with
  | none => rfl
  | some r => simp only [Option.map_some]; split <;> rfl

theorem State.deselect_kept : StoreKept s (s.deselect l) :=
  .of_same (s.deselect_slots l) (s.deselect_free l) (s.deselect_op l) (by rw [State.deselect_check])
    (by rw [State.deselect_pass]) (fun h => by
      rw [State.recordAgrees_iff] at h ⊢; rwa [State.deselect_pass])

/-- A command whose body keeps the store keeps it, also when it is taken during initialization. -/
theorem State.taken_kept (body : State → State) (h : ∀ t, StoreKept t (body t)) :
    StoreKept s (s.taken l body) := by
  cases hp : s.phase with
  | initializing =>
    rw [State.taken_initializing s l hp]
    exact (s.deselect_kept l).trans (State.answer_kept _ _ _)
  | serving =>
    rw [State.taken_serving s l hp]
    exact (s.deselect_kept l).trans (h _)

/-! ### The check engine (Machine/CheckEngine) -/

/-- A move changed in nothing but its certification. -/
theorem MovesKept.of_onMove (n : Nat) (f : Move → Move) (hf : ∀ m, (f m).core = m.core) :
    MovesKept s (s.onMove n f) := by
  refine ⟨s.onMove_free n f, fun k => ?_⟩
  rw [State.onMove_move]
  split
  · cases s.move k with
    | none => rfl
    | some m => simp [hf]
  · rfl

theorem State.onMove_stateOf (n k : Nat) (f : Move → Move) :
    (s.onMove n f).stateOf k = if k = n then (s.move k).map (fun m => (f m).state) else s.stateOf k := by
  unfold State.stateOf
  rw [State.onMove_move]
  split
  · cases s.move k <;> rfl
  · rfl

/-- The check of a slot that is CHECKING ends: the engine is IDLE and the move OPEN or READY. -/
theorem StoreKept.of_checkEnds (slot : Nat) (f : Move → Move)
    (h : ∀ b, s.Agrees b → s.stateOf slot = some .checking) (hf : ∀ m, (f m).core = m.core)
    (hs : ∀ m, (f m).state = .opened ∨ (f m).state = .ready) :
    StoreKept s (({ s with check := none } : State).onMove slot f) := by
  have hst : ∀ k st, st = .bound ∨ st = .checking →
      (({ s with check := none } : State).onMove slot f).stateOf k = some st →
      k ≠ slot ∧ s.stateOf k = some st := by
    intro k st hb hk
    rw [State.onMove_stateOf] at hk
    split at hk
    · obtain ⟨m, -, hm⟩ := Option.map_eq_some_iff.1 hk
      rcases hs m with e | e <;> rcases hb with rfl | rfl <;> rw [e] at hm <;> cases hm
    · next hne => exact ⟨hne, hk⟩
  have hst' : ∀ k st, k ≠ slot → s.stateOf k = some st →
      (({ s with check := none } : State).onMove slot f).stateOf k = some st := by
    intro k st hne hk
    rw [State.onMove_stateOf, if_neg hne]
    exact hk
  have hm := MovesKept.of_onMove ({ s with check := none } : State) slot f hf
  refine ⟨⟨hm.free, hm.cores⟩, by rw [State.onMove_edit], fun k hb => (hst k _ (.inl rfl) hb).2,
    fun b ha => ?_, by rw [State.onMove_pass], ?_⟩
  · have hslot := h b ha
    refine ⟨fun k => ⟨fun hb => (ha.bound k).1 (hst k _ (.inl rfl) hb).2, fun hb => ?_⟩, fun k =>
      ⟨fun hc => ?_, fun hc => ?_⟩, fun k hk => ?_⟩
    · have hkb := (ha.bound k).2 hb
      refine hst' k _ (fun e => ?_) hkb
      rw [e, hslot] at hkb
      cases hkb
    · obtain ⟨hne, hkc⟩ := hst k _ (.inr rfl) hc
      exact absurd (Option.some.inj (((ha.checking k).1 hkc).symm.trans ((ha.checking slot).1 hslot))) hne
    · rw [State.onMove_check] at hc
      cases hc
    · rw [State.onMove_edit] at hk
      obtain ⟨h1, h2⟩ := ha.retire k hk
      exact ⟨fun e => h1 (hst k _ (.inl rfl) e).2, fun e => h2 (hst k _ (.inr rfl) e).2⟩
  · intro hr
    rw [State.recordAgrees_iff] at hr ⊢
    rwa [State.onMove_pass]

theorem State.cancelCheck_kept (slot : Nat) (h : s.stateOf slot = some .checking) :
    StoreKept s (s.cancelCheck slot) :=
  (StoreKept.of_checkEnds s slot Move.cancel (fun _ _ => h) (fun _ => rfl) (fun _ => .inl rfl)).trans
    (State.raise_kept _ _)

/-- One move changes its state from READY or OPEN to OPEN or READY. -/
theorem StoreKept.of_restate (slot : Nat) (f : Move → Move) {m : Move} (hm : s.move slot = some m)
    (hm1 : m.state = .opened ∨ m.state = .ready) (hf : ∀ m, (f m).core = m.core)
    (hs : (f m).state = .opened ∨ (f m).state = .ready) : StoreKept s (s.onMove slot f) := by
  have hst : ∀ k st, st = .bound ∨ st = .checking →
      ((s.onMove slot f).stateOf k = some st ↔ s.stateOf k = some st) := by
    intro k st hb
    rw [State.onMove_stateOf]
    split
    · next e =>
      subst e
      rw [State.stateOf, hm]
      rcases hs with e | e <;> rcases hm1 with e' | e' <;> rcases hb with rfl | rfl <;> simp [e, e']
    · rfl
  have hmk := MovesKept.of_onMove s slot f hf
  refine ⟨hmk, by rw [State.onMove_edit], fun k hb => (hst k _ (.inl rfl)).1 hb, fun b ha => ?_,
    by rw [State.onMove_pass], ?_⟩
  · refine ⟨fun k => (hst k _ (.inl rfl)).trans (ha.bound k), fun k => ?_, fun k hk => ?_⟩
    · rw [State.onMove_check]
      exact (hst k _ (.inr rfl)).trans (ha.checking k)
    · rw [State.onMove_edit] at hk
      rw [Ne, Ne, hst k _ (.inl rfl), hst k _ (.inr rfl)]
      exact ha.retire k hk
  · intro hr
    rw [State.recordAgrees_iff] at hr ⊢
    rwa [State.onMove_pass]

theorem State.contentChange_kept (slot : Nat) : StoreKept s (s.contentChange slot) := by
  unfold State.contentChange
  split
  · next m hm =>
    split
    · next hst => exact s.cancelCheck_kept slot (State.stateOf_eq_some.2 ⟨m, hm, hst⟩)
    · next hst =>
      exact StoreKept.of_restate s slot Move.uncertified hm (.inr hst) (fun _ => rfl) (.inl rfl)
    · exact .refl s
    · exact .refl s
  · exact .refl s

theorem State.resetCheck_kept : StoreKept s s.resetCheck := by
  unfold State.resetCheck
  split
  · exact .refl s
  · next c hc =>
    exact StoreKept.of_checkEnds s c.slot Move.cancel (fun b ha => (ha.checking c.slot).2 (by rw [hc]; rfl))
      (fun _ => rfl) (fun _ => .inl rfl)

theorem State.endCheck_kept : StoreKept s s.endCheck := by
  unfold State.endCheck
  split
  · exact .refl s
  · next c hc =>
    split
    · exact .refl s
    · refine (StoreKept.of_checkEnds s c.slot _ (fun b ha => (ha.checking c.slot).2 (by rw [hc]; rfl))
        (fun m => ?_) (fun m => ?_)).trans (State.raise_kept _ _)
      · split <;> rfl
      · split
        · exact .inr rfl
        · exact .inl rfl

theorem State.tickCheck_kept : StoreKept s s.tickCheck := by
  unfold State.tickCheck
  split
  · exact .refl s
  · next c hc =>
    split
    · exact .refl s
    · next m hm =>
      have h : StoreKept s { s with check := some { c.works m 4 with elapsed := c.elapsed + 1 } } :=
        .of_same rfl rfl rfl (by simp [hc]) rfl (fun h => h)
      dsimp only
      split
      · exact h.trans (State.endCheck_kept _)
      · exact h

/-- What a change of certified limits does to a move: its core stays, BOUND stays BOUND, no move becomes CHECKING or
BOUND by it, and a CHECKING one becomes OPEN. -/
theorem Move.limitsChanged_core (m : Move) : m.limitsChanged.core = m.core := by
  unfold Move.limitsChanged; split <;> rfl

theorem Move.limitsChanged_bound (m : Move) : m.limitsChanged.state = .bound ↔ m.state = .bound := by
  unfold Move.limitsChanged; split <;> simp_all [Move.uncertified, Move.cancel]

theorem Move.limitsChanged_not_checking (m : Move) : m.limitsChanged.state ≠ .checking := by
  unfold Move.limitsChanged; split <;> simp_all [Move.uncertified, Move.cancel]

/-- One move under a change of an axis's certified limits. -/
def Move.relimited (a : AxisId) (m : Move) : Move := if m.hasTrack a then m.limitsChanged else m

theorem Move.relimited_core (m : Move) : (m.relimited a).core = m.core := by
  unfold Move.relimited; split
  · exact m.limitsChanged_core
  · rfl

theorem Move.relimited_bound (m : Move) : (m.relimited a).state = .bound ↔ m.state = .bound := by
  unfold Move.relimited; split
  · exact m.limitsChanged_bound
  · rfl

theorem Move.relimited_checking (m : Move) :
    (m.relimited a).state = .checking ↔ m.state = .checking ∧ m.hasTrack a = false := by
  unfold Move.relimited; split
  · next h => simp [m.limitsChanged_not_checking, h]
  · next h => simp [h]

theorem State.limitsChanged_eq : s.limitsChanged a =
    if s.checkTouches a then { s.onMoves (Move.relimited a) with check := none }.raise .checkDone
    else s.onMoves (Move.relimited a) := rfl

theorem State.checkTouches_iff : s.checkTouches a = true ↔
    ∃ c m, s.check = some c ∧ s.move c.slot = some m ∧ m.hasTrack a = true := by
  unfold State.checkTouches
  cases s.check with
  | none => simp
  | some c => cases hm : s.move c.slot <;> simp [hm]

/-- The store under a change of limits: each move relimited, and the check gone when it touches the axis. -/
theorem State.limitsChanged_move (n : Nat) : (s.limitsChanged a).move n = (s.move n).map (Move.relimited a) := by
  rw [State.limitsChanged_eq]
  split <;> exact s.onMoves_move n _

theorem State.limitsChanged_check :
    (s.limitsChanged a).check = if s.checkTouches a then none else s.check := by
  rw [State.limitsChanged_eq]
  split <;> rfl

theorem State.limitsChanged_kept : StoreKept s (s.limitsChanged a) := by
  have hfr := s.limitsChanged_frame a
  have hedit : (s.limitsChanged a).edit = s.edit := (congrArg State.edit hfr :)
  have hpass : (s.limitsChanged a).pass = s.pass := (congrArg State.pass hfr :)
  have hb : ∀ n, (s.limitsChanged a).stateOf n = some .bound ↔ s.stateOf n = some .bound := by
    intro n
    simp only [State.stateOf, State.limitsChanged_move]
    cases s.move n <;> simp [Move.relimited_bound]
  have hc : ∀ n, (s.limitsChanged a).stateOf n = some .checking ↔
      ∃ m, s.move n = some m ∧ m.state = .checking ∧ m.hasTrack a = false := by
    intro n
    simp only [State.stateOf, State.limitsChanged_move]
    cases s.move n <;> simp [Move.relimited_checking]
  refine ⟨⟨(congrArg State.free hfr :), fun n => ?_⟩, by rw [hedit], fun n => (hb n).1, fun b ha => ?_,
    by rw [hpass], fun h => ?_⟩
  · rw [State.limitsChanged_move]
    cases s.move n <;> simp [Move.relimited_core]
  · refine ⟨fun n => (hb n).trans (ha.bound n), fun n => ?_, fun n hn => ?_⟩
    · rw [hc, State.limitsChanged_check]
      constructor
      · rintro ⟨m, hm, hst, ht⟩
        have hcn := (ha.checking n).1 (State.stateOf_eq_some.2 ⟨m, hm, hst⟩)
        rw [if_neg]
        · exact hcn
        · intro htouch
          obtain ⟨c, k, hck, hk, hkt⟩ := (s.checkTouches_iff a).1 htouch
          rw [hck] at hcn
          cases hcn
          rw [hm] at hk
          cases hk
          rw [ht] at hkt
          cases hkt
      · intro hcn
        split at hcn
        · cases hcn
        · next htouch =>
          obtain ⟨m, hm, hst⟩ := State.stateOf_eq_some.1 ((ha.checking n).2 hcn)
          obtain ⟨c, hck, rfl⟩ := Option.map_eq_some_iff.1 hcn
          refine ⟨m, hm, hst, ?_⟩
          by_contra hkt
          exact htouch ((s.checkTouches_iff a).2 ⟨c, m, hck, hm, by simpa using hkt⟩)
    · rw [hedit] at hn
      obtain ⟨h1, h2⟩ := ha.retire n hn
      refine ⟨fun e => h1 ((hb n).1 e), fun e => h2 ?_⟩
      obtain ⟨m, hm, hst, -⟩ := (hc n).1 e
      exact State.stateOf_eq_some.2 ⟨m, hm, hst⟩
  · rw [State.recordAgrees_iff] at h ⊢
    rwa [hpass]

/-- A check begins on an OPEN move on which no operation works, while the engine is IDLE. -/
theorem State.beginCheck_kept (slot : Nat) (m : Move) (hm : s.move slot = some m) (ho : m.state = .opened)
    (ht : s.isTarget slot = false) (hck : s.check = none) : StoreKept s (s.beginCheck slot m) := by
  have hmv : ∀ n, (s.beginCheck slot m).stateOf n = if n = slot then some .checking else s.stateOf n := by
    intro n
    unfold State.beginCheck
    rw [State.onMove_stateOf]
    split
    · next e => subst e; exact congrArg (Option.map fun _ => MoveState.checking) hm
    · rfl
  have hslot : s.stateOf slot = some .opened := State.stateOf_eq_some.2 ⟨m, hm, ho⟩
  have hbound : ∀ n, (s.beginCheck slot m).stateOf n = some .bound ↔ s.stateOf n = some .bound := by
    intro n
    rw [hmv]
    split
    · next e => subst e; simp [hslot]
    · rfl
  have hcore : MovesKept s (s.beginCheck slot m) := by
    unfold State.beginCheck
    refine MovesKept.trans (.of_slots ?_ ?_) (MovesKept.of_onMove _ slot _ ?_)
    · rfl
    · rfl
    · exact fun _ => rfl
  refine ⟨hcore, by simp [State.beginCheck], fun n => (hbound n).1, fun b ha => ?_,
    by simp [State.beginCheck], fun h => ?_⟩
  · refine ⟨fun n => (hbound n).trans (ha.bound n), fun n => ?_, fun n hn => ?_⟩
    · rw [hmv]
      have hno : s.stateOf n ≠ some .checking := fun e => by
        have := (ha.checking n).1 e
        rw [hck] at this
        cases this
      simp only [State.beginCheck, State.onMove_check, Option.map_some, Option.some.injEq]
      split
      · next e => simp [e]
      · next e => simp [hno, Ne.symm e]
    · rw [show (s.beginCheck slot m).edit = s.edit by simp [State.beginCheck]] at hn
      obtain ⟨h1, h2⟩ := ha.retire n hn
      refine ⟨fun e => h1 ((hbound n).1 e), fun e => h2 ?_⟩
      rw [hmv] at e
      split at e
      · next e' =>
        subst e'
        obtain ⟨r, hr, hop⟩ := Option.map_eq_some_iff.1 hn
        simp [State.isTarget, hr, hop, EditOp.targets] at ht
      · exact e
  · rw [State.recordAgrees_iff] at h ⊢
    simpa [State.beginCheck] using h

end Sys2Proof.Machine
end

section
/-! SUPPORT. The axis units, the move clock, the pass controller and the faults keep the store (files 05 to 09). -/

namespace Sys2Proof.Machine

variable (s : State) (l : LinkId) (a : AxisId)

/-! ### The axis units (Machine/AxisOps) -/

theorem State.applyRecord_kept (r : AxisRecord) : StoreKept s (s.applyRecord a r) := by
  unfold State.applyRecord
  split
  · exact (s.onAxis_kept a _).trans (State.limitsChanged_kept _ a)
  · exact s.onAxis_kept a _

theorem State.applyStaged_kept : StoreKept s (s.applyStaged a) := by
  unfold State.applyStaged
  split
  · exact .refl s
  · exact (s.onAxis_kept a _).trans (State.applyRecord_kept _ a _)

theorem State.applyStagedAll_kept (as : List AxisId) : StoreKept s (s.applyStagedAll as) :=
  forAxes_kept _ _ (fun b t => t.applyStaged_kept b) s

theorem forAxes_onAxis_kept (as : List AxisId) (f : Axis → Axis) :
    StoreKept s (forAxes as (fun a t => t.onAxis a f) s) :=
  forAxes_kept as _ (fun b t => t.onAxis_kept b f) s

theorem State.easeSetpoints_kept (g : GroupEase) (k : Nat) : StoreKept s (s.easeSetpoints g k) :=
  foldl_kept _ _ (fun t _ => t.onAxis_kept _ _) s

theorem State.handToCreep_kept (g : GroupEase) : StoreKept s (s.handToCreep g) :=
  foldl_kept _ _ (fun t _ => t.onAxis_kept _ _) s

theorem State.groupCreepTick_kept (g : GroupEase) : StoreKept s (s.groupCreepTick g) :=
  forAxes_onAxis_kept s _ _

theorem State.endPark_kept (c : MotionCause) : StoreKept s (s.endPark c) := by
  unfold State.endPark
  split
  · exact .refl s
  · have h : StoreKept s { s with park := none } := .of_pass rfl rfl rfl rfl rfl
    exact ((h.trans (forAxes_onAxis_kept _ _ _)).trans (State.raise_kept _ _)).trans
      (State.applyStagedAll_kept _ _)

theorem State.tickPark_kept : StoreKept s s.tickPark := by
  unfold State.tickPark
  split
  · exact .refl s
  · next g hg =>
    split
    · dsimp only
      split
      · exact (s.groupCreepTick_kept g).trans (State.endPark_kept _ _)
      · exact s.groupCreepTick_kept g
    · have h : StoreKept s { s.easeSetpoints g (g.elapsed + 1) with
          park := some { g with elapsed := g.elapsed + 1 } } :=
        (s.easeSetpoints_kept g (g.elapsed + 1)).trans (.of_pass rfl rfl rfl rfl rfl)
      dsimp only
      split
      · exact h.trans (State.endPark_kept _ _)
      · exact h

theorem State.faultPark_kept (c : MotionCause) : StoreKept s (s.faultPark c) := by
  unfold State.faultPark
  split
  · exact .refl s
  · split <;> exact s.endPark_kept _

theorem State.stopPark_kept : StoreKept s s.stopPark := by
  unfold State.stopPark
  split
  · exact .refl s
  · split
    · exact .refl s
    · split
      · exact s.endPark_kept _
      · refine .trans ?_ (State.handToCreep_kept _ _)
        exact .of_pass rfl rfl rfl rfl rfl

theorem State.beginPark_kept (es : List EaseAxis) (d : Nat) : StoreKept s (s.beginPark es d) := by
  unfold State.beginPark
  split
  · exact (forAxes_onAxis_kept s _ _).trans (State.raise_kept _ _)
  · refine .trans ?_ (forAxes_onAxis_kept _ _ _)
    exact .of_pass rfl rfl rfl rfl rfl

theorem State.homeSucceeds_kept : StoreKept s (s.homeSucceeds a) :=
  ((s.onAxis_kept a _).trans (State.raise_kept _ _)).trans (State.applyStaged_kept _ a)

theorem State.homeFails_kept (c : MotionCause) : StoreKept s (s.homeFails a c) :=
  ((s.onAxis_kept a _).trans (State.raise_kept _ _)).trans (State.applyStaged_kept _ a)

theorem State.faultHome_kept (c : MotionCause) : StoreKept s (s.faultHome a c) := by
  unfold State.faultHome
  split
  · split <;> exact s.homeFails_kept a _
  · exact .refl s

theorem State.homeAtRest_kept : StoreKept s (s.homeAtRest a) := by
  unfold State.homeAtRest
  split
  · exact .refl s
  · split
    · exact s.onAxis_kept a _
    · exact s.homeSucceeds_kept a
    · exact s.homeFails_kept a _
    · exact .refl s
    · exact .refl s
    · exact .refl s

theorem State.tickHome_kept : StoreKept s (s.tickHome a) := by
  unfold State.tickHome
  split
  · have h := s.onAxis_kept a Axis.creepTick
    dsimp only
    split
    · exact h.trans (State.onAxis_kept _ a _)
    · split
      · exact h.trans (State.homeAtRest_kept _ a)
      · exact h
  · exact .refl s

theorem State.stopReached_kept : StoreKept s (s.stopReached a) :=
  (s.onAxis_kept a _).trans (State.homeSucceeds_kept _ a)

theorem State.takeRecord_kept (r : AxisRecord) : StoreKept s (s.takeRecord l a r) := by
  unfold State.takeRecord
  split
  · exact (s.applyRecord_kept a r).trans (State.ok_kept _ l _)
  all_goals exact (s.onAxis_kept a _).trans (State.ok_kept _ l _)

/-! ### The report and the end of a run (Machine/PassOps) -/

theorem State.note_kept (f : Conditions → Conditions) : StoreKept s (s.note f) :=
  s.withPass_kept _ rfl rfl

theorem State.clearReport_kept (r : PassRecord) : StoreKept s (s.clearReport r) := by
  refine .trans ?_ (State.onAxes_kept _ _)
  exact s.withPass_kept _ rfl rfl

theorem State.endRun_kept (o : RunOutcome) (c : Option ReportCause) (h : s.engaged) :
    StoreKept s (s.endRun o c) :=
  .of_engaged rfl rfl rfl rfl rfl h (by simp [State.endRun])

theorem State.finish_kept (e : Option RunEnd) (h : s.pass.record ≠ none) : StoreKept s (s.finish e) := by
  cases e with
  | none => exact .refl s
  | some e => cases e <;> exact s.endRun_kept _ _ (fun _ => h)

theorem StoreKept.finish {s t : State} (h : StoreKept s t) (hr : s.pass.record ≠ none) (e : Option RunEnd) :
    StoreKept s (t.finish e) := h.trans (t.finish_kept e (h.hasRecord hr))

/-- The pass controller goes on to a state that is not IDLE. -/
theorem StoreKept.withPassTo {s t : State} (h : StoreKept s t) (p : Pass) (hp : p.record = t.pass.record)
    (hr : s.pass.record ≠ none) (hs : p.state ≠ .idle) : StoreKept s (t.withPass p) :=
  h.trans (t.withPass_kept_of_engaged p hp (h.engaged hr) hs)

theorem State.writeSetpoints_kept (r : PassRecord) (p : Int) : StoreKept s (s.writeSetpoints r p) := by
  unfold State.writeSetpoints
  split
  · exact .refl s
  · exact foldl_kept _ _ (fun t _ => t.onAxis_kept _ _) s

theorem State.writeAndFinish_kept (r : PassRecord) (e : Option RunEnd) (h : s.pass.record ≠ none) :
    StoreKept s (s.writeAndFinish r e) := by
  unfold State.writeAndFinish
  split
  · exact .refl s
  · exact (s.writeSetpoints_kept r _).finish h _

theorem StoreKept.writeAndFinish {s t : State} (h : StoreKept s t) (r : PassRecord) (e : Option RunEnd)
    (hr : s.pass.record ≠ none) : StoreKept s (t.writeAndFinish r e) :=
  h.trans (t.writeAndFinish_kept r e (h.hasRecord hr))

/-! ### Frame starts and the clock's ticks -/

theorem Pass.frameStart_record (r : PassRecord) (n : Int) (p : Pass) : (p.frameStart r n).record = p.record := by
  unfold Pass.frameStart; dsimp only; split <;> rfl

theorem Pass.frameStart_state (r : PassRecord) (n : Int) (p : Pass) (h : p.state ≠ .idle) :
    (p.frameStart r n).state ≠ .idle := by
  have hent : (if p.state = .rolling ∧ n = r.startFrame then PassState.running else p.state) ≠ .idle := by
    split
    · simp
    · exact h
  unfold Pass.frameStart
  dsimp only
  generalize (if p.state = .rolling ∧ n = r.startFrame then PassState.running else p.state) = entered at hent
  split
  · dsimp only
    split
    · simp
    · exact hent
  · exact hent

theorem State.passFrameStart_kept (n : Int) : StoreKept s (s.passFrameStart n).1 := by
  unfold State.passFrameStart
  split
  · exact .refl s
  · next r hr =>
    split
    · next h =>
      have hi : s.pass.state ≠ .idle := by
        intro e
        simp [e, PassState.inRun] at h
      exact s.withPass_kept_of_engaged _ (Pass.frameStart_record r n _) (s.engaged_of_record hr)
        (Pass.frameStart_state r n _ hi)
    · exact .refl s

theorem State.frameStart_kept (n : Int) : StoreKept s (s.frameStart n).1 :=
  (s.withClock_kept _).trans (State.passFrameStart_kept _ n)

theorem State.phaseMoves_kept (p : Int) : StoreKept s (s.phaseMoves p).1 := by
  have h := s.withClock_kept { s.clock with phase := p }
  unfold State.phaseMoves
  dsimp only
  split
  · exact h.trans (State.frameStart_kept _ _)
  · split
    · exact h.trans (State.withClock_kept _ _)
    · exact h

theorem State.rampEnd_kept (hr : s.pass.record ≠ none) : StoreKept s s.rampEnd.1 := by
  unfold State.rampEnd
  split
  · exact .refl s
  · exact .refl s
  · split
    · exact .of_engaged rfl rfl rfl rfl rfl (fun _ => hr) (by simp)
    · exact .refl s
  · split
    · exact .of_engaged rfl rfl rfl rfl rfl (fun _ => hr) (by dsimp only; split <;> simp)
    · exact .refl s
  · split
    · exact s.withClock_kept _
    · exact .refl s

theorem State.tickClocking_kept (hr : s.pass.record ≠ none) : StoreKept s s.tickClocking.1 := by
  unfold State.tickClocking
  dsimp only
  generalize ({ s.clock with ramp := _, appliedRate := _, remainder := _ } : Clock) = c
  generalize c.capLimit _ = p
  have h := (s.withClock_kept c).trans (State.phaseMoves_kept (s.withClock c) p)
  rcases hq : (s.withClock c).phaseMoves p with ⟨s1, _ | e⟩
  · rw [hq] at h
    exact h.trans (State.rampEnd_kept s1 (h.hasRecord hr))
  · rw [hq] at h
    exact h

theorem State.clockStop_kept (hs : Nat) : StoreKept s (s.clockStop hs).1 := by
  unfold State.clockStop
  split
  · exact .refl s
  · dsimp only
    split <;> exact s.withClock_kept _

theorem State.followerStop_kept (hs : Nat) : StoreKept s (s.followerStop hs).1 := by
  unfold State.followerStop
  split
  · exact (s.withClock_kept _).trans (State.clockStop_kept _ _)
  · exact .refl s

theorem State.stopRequest_kept (hs : Nat) : StoreKept s (s.stopRequest hs).1 := by
  unfold State.stopRequest
  split
  · exact s.clockStop_kept hs
  · exact s.followerStop_kept hs
  · exact .refl s
  · exact .refl s

/-! ### Follower mode -/

theorem State.loseSync_kept : StoreKept s s.loseSync :=
  ((s.withClock_kept _).trans (State.note_kept _ _)).trans (State.raise_kept _ _)

theorem State.loseLock_kept : StoreKept s s.loseLock := s.withClock_kept _

theorem State.followerExpires_kept : StoreKept s s.followerExpires := by
  unfold State.followerExpires
  split
  · exact s.loseSync_kept
  · exact s.loseLock_kept

theorem State.expireBefore_kept (t : Nat) : StoreKept s (s.expireBefore t) := by
  unfold State.expireBefore
  split
  · split
    · exact s.followerExpires_kept
    · exact .refl s
  · exact .refl s

theorem State.tickFollowing_kept : StoreKept s s.tickFollowing.1 := by
  unfold State.tickFollowing
  split
  · exact s.phaseMoves_kept _
  · exact s.phaseMoves_kept _
  · exact .refl s

theorem State.snap_kept : StoreKept s s.snap.1 := s.phaseMoves_kept _

theorem State.overspeedStop_kept (r : PassRecord) (hr : s.pass.record ≠ none) :
    StoreKept s (s.overspeedStop r) := by
  refine StoreKept.finish ?_ hr _
  refine .trans ?_ (State.followerStop_kept _ r.stopRamp)
  exact s.withPass_kept_of_engaged _ rfl (fun _ => hr) (by simp)

theorem State.followedEdge_kept (r : PassRecord) (e : Option Nat) (t : Nat) (hr : s.pass.record ≠ none) :
    StoreKept s (s.followedEdge r e t) := by
  unfold State.followedEdge
  split
  · exact .refl s
  · next e =>
    have h := s.withClock_kept (s.clock.usePeriod (min (t - e) 4294967295))
    dsimp only
    split
    · exact h.trans (State.overspeedStop_kept _ r (h.hasRecord hr))
    · split
      · exact (h.trans (State.snap_kept _)).writeAndFinish r _ hr
      · refine StoreKept.writeAndFinish ?_ r _ hr
        refine .trans ?_ (State.frameStart_kept _ r.startFrame)
        exact h.trans (State.withClock_kept _ _)
      · exact h.trans (State.withClock_kept _ _)

theorem State.relock_kept (r : PassRecord) (hr : s.pass.record ≠ none) : StoreKept s (s.relock r) := by
  refine StoreKept.writeAndFinish ?_ r _ hr
  refine .trans ?_ (State.raise_kept _ _)
  refine .trans ?_ (State.note_kept _ _)
  exact s.snap_kept.trans (State.withClock_kept _ _)

theorem State.cameraEdge_kept (t : Nat) : StoreKept s (s.cameraEdge t) := by
  have h := s.expireBefore_kept t
  have hg : StoreKept s ((s.expireBefore t).withClock { (s.expireBefore t).clock with
      glitchCount := min ((s.expireBefore t).clock.glitchCount + 1) 255 }) := h.trans (State.withClock_kept _ _)
  have hedge : ∀ r, (s.expireBefore t).pass.record = some r →
      StoreKept s (if (s.expireBefore t).clock.lock = some .syncLost
        then ((s.expireBefore t).withClock { (s.expireBefore t).clock with lastEdge := some t }).relock r
        else ((s.expireBefore t).withClock { (s.expireBefore t).clock with lastEdge := some t }).followedEdge r
          (s.expireBefore t).clock.lastEdge t) := by
    intro r hr
    have hr' : (s.expireBefore t).pass.record ≠ none := by rw [hr]; simp
    split
    · exact (h.trans (State.withClock_kept _ _)).trans (State.relock_kept _ r hr')
    · exact (h.trans (State.withClock_kept _ _)).trans (State.followedEdge_kept _ r _ t hr')
  unfold State.cameraEdge
  split
  · dsimp only
    split <;>
    · split
      · exact hg
      · split
        · exact h
        · next r hr => exact hedge r hr
  all_goals exact .refl s

/-! ### Rolling and stepping -/

theorem State.roll_kept (r : PassRecord) (hr : s.pass.record ≠ none) : StoreKept s (s.roll r) := by
  have h2 : StoreKept s ((s.clearReport r).withPass
      { (s.clearReport r).pass with endReached := some false, cameraRun := true, state := .rolling }) :=
    (s.clearReport_kept r).withPassTo _ rfl hr (by simp)
  unfold State.roll
  dsimp only
  split
  · refine StoreKept.finish ?_ hr _
    refine .trans ?_ (State.withClock_kept _ _)
    refine .trans ?_ (State.frameStart_kept _ _)
    exact h2.trans (State.withClock_kept _ _)
  · exact h2.trans (State.withClock_kept _ _)
  · exact h2

theorem State.withStepping_kept (t : Stepping) : StoreKept s (s.withStepping t) := s.withPass_kept _ rfl rfl

theorem State.beginStepRun_kept (r : PassRecord) : StoreKept s (s.beginStepRun r) :=
  (s.clearReport_kept r).trans (.of_state rfl rfl rfl rfl rfl rfl)

theorem State.beginStep_kept (f : StepFields) (hr : s.pass.record ≠ none) : StoreKept s (s.beginStep f) :=
  s.withPass_kept_of_engaged _ rfl (fun _ => hr) (by simp)

theorem State.beginExposure_kept (f : StepFields) (hr : s.pass.record ≠ none) :
    StoreKept s (s.beginExposure f) := s.withPass_kept_of_engaged _ rfl (fun _ => hr) (by simp)

theorem State.stepReady_kept (hr : s.pass.record ≠ none) : StoreKept s s.stepReady := by
  refine .trans ?_ (State.raise_kept _ _)
  exact s.withPass_kept_of_engaged _ rfl (fun _ => hr) (by simp)

theorem State.exposureOff_kept : StoreKept s s.exposureOff := s.withStepping_kept _

theorem State.exposureCompleted_kept (r : PassRecord) (f : StepFields) (hr : s.pass.record ≠ none) :
    StoreKept s (s.exposureCompleted r f) := by
  have h := s.exposureOff_kept.trans (State.withPass_kept s.exposureOff
    { s.exposureOff.pass with report := { s.exposureOff.pass.report with
        frames := min (s.exposureOff.pass.report.frames + 1) 65536 } } rfl rfl)
  unfold State.exposureCompleted
  dsimp only
  split
  · exact h.trans (State.endRun_kept _ _ _ (h.engaged hr))
  · split
    · exact h.trans (State.beginStep_kept _ f (h.hasRecord hr))
    · exact h.trans (State.stepReady_kept _ (h.hasRecord hr))

theorem State.exposureTimedOut_kept (hr : s.pass.record ≠ none) : StoreKept s s.exposureTimedOut := by
  have h := (s.exposureOff_kept.trans (State.note_kept _ (fun c => { c with exposeTimeout := true })))
  have h2 := h.trans (State.withStepping_kept _
    { (s.exposureOff.note (fun c => { c with exposeTimeout := true })).pass.stepping with pending := 0 })
  exact h2.trans (State.stepReady_kept _ (h2.hasRecord hr))

theorem State.exposureElapsed_kept (r : PassRecord) (f : StepFields) (hr : s.pass.record ≠ none) :
    StoreKept s (s.exposureElapsed r f) := by
  unfold State.exposureElapsed
  split
  · exact s.exposureCompleted_kept r f hr
  · exact s.exposureTimedOut_kept hr

theorem State.stepArrives_kept (f : StepFields) (hr : s.pass.record ≠ none) :
    StoreKept s (s.stepArrives f) := by
  have h : StoreKept s { s with
      clock := { s.clock with currentFrame := s.clock.phase / puPerFrame }
      pass := { s.pass with stepping := { s.pass.stepping with ease := none } } } :=
    .of_state rfl rfl rfl rfl rfl rfl
  unfold State.stepArrives
  dsimp only
  split
  · exact h.trans (State.endRun_kept _ _ _ (h.engaged hr))
  · split
    · exact h.trans (State.beginExposure_kept _ f (h.hasRecord hr))
    · exact h.trans (State.withPass_kept_of_engaged _ _ rfl (h.engaged hr) (by simp))

theorem State.tickStep_kept (r : PassRecord) (f : StepFields) (hr : s.pass.record ≠ none) :
    StoreKept s (s.tickStep r f) := by
  have hw := s.writeSetpoints_kept r s.clock.phase
  unfold State.tickStep
  split
  · split
    · exact .refl s
    · next e he =>
      dsimp only
      generalize hu : ({ s with clock := _, pass := _ } : State) = u
      have h1 : StoreKept s u := by rw [← hu]; exact .of_state rfl rfl rfl rfl rfl rfl
      have h2 := h1.trans (State.writeSetpoints_kept u r u.clock.phase)
      rw [← hu] at h2 ⊢
      split
      · exact h2.trans (State.stepArrives_kept _ f (h2.hasRecord hr))
      · exact h2
  · dsimp only
    split
    · exact hw.trans (State.beginExposure_kept _ f (hw.hasRecord hr))
    · exact hw.trans (State.withStepping_kept _ _)
  · dsimp only
    split
    · exact hw.trans (State.exposureElapsed_kept _ r f (hw.hasRecord hr))
    · exact hw.trans (State.withStepping_kept _ _)
  · exact hw
  · exact .refl s

/-! ### The approach and the pass's tick -/

theorem State.atStart_kept (h : s.engaged) : StoreKept s s.atStart := by
  refine .trans ?_ (State.raise_kept _ _)
  exact s.withPass_kept_of_engaged _ rfl h (by simp)

theorem State.approachGivenUp_kept (h : s.engaged) : StoreKept s s.approachGivenUp := by
  unfold State.approachGivenUp
  split
  · exact s.withPass_kept_of_engaged _ rfl h (by simp)
  · refine .trans ?_ (forAxes_onAxis_kept _ _ _)
    exact s.withPass_kept_of_engaged _ rfl h (by simp)

theorem State.engaged.congr {s t : State} (h : s.engaged) (hp : t.pass.record = s.pass.record)
    (hs : t.pass.state = s.pass.state) : t.engaged := by
  intro ha
  rw [hp]
  refine h ?_
  rw [State.recordAgrees_iff] at ha ⊢
  rwa [hp, hs] at ha

theorem State.tickApproach_kept (h : s.engaged) : StoreKept s s.tickApproach := by
  unfold State.tickApproach
  split
  · exact .refl s
  · next g hg =>
    split
    · have hk := s.groupCreepTick_kept g
      have hp : (s.groupCreepTick g).pass = s.pass := (congrArg State.pass (s.groupCreepTick_frame g) :)
      dsimp only
      split
      · exact hk.trans (State.approachGivenUp_kept _ (h.congr (by rw [hp]) (by rw [hp])))
      · exact hk
    · have hk := s.easeSetpoints_kept g (g.elapsed + 1)
      have hp : (s.easeSetpoints g (g.elapsed + 1)).pass = s.pass :=
        (congrArg State.pass (s.easeSetpoints_frame g (g.elapsed + 1)) :)
      dsimp only
      generalize s.easeSetpoints g (g.elapsed + 1) = u at hk hp
      have hw := hk.trans (u.withPass_kept { u.pass with approach := some { g with elapsed := g.elapsed + 1 } }
        rfl rfl)
      split
      · refine hw.trans (State.atStart_kept _ (h.congr ?_ ?_))
        · rw [← hp]; rfl
        · rw [← hp]; rfl
      · exact hw

theorem State.tickRun_kept (r : PassRecord) (hr : s.pass.record ≠ none) : StoreKept s (s.tickRun r) := by
  unfold State.tickRun
  dsimp only
  refine StoreKept.finish (.trans ?_ (State.writeSetpoints_kept _ _ _)) hr _
  split
  · exact s.tickClocking_kept hr
  · exact s.tickFollowing_kept
  · exact .refl s
  · exact .refl s

theorem State.tickPass_kept : StoreKept s s.tickPass := by
  unfold State.tickPass
  split
  · exact .refl s
  · next r hr =>
    have hr' : s.pass.record ≠ none := by rw [hr]; simp
    split
    · exact s.tickRun_kept r hr'
    · split
      · split
        · exact s.tickStep_kept r _ hr'
        · exact .refl s
      · split
        · exact s.tickApproach_kept (fun _ => hr')
        · exact .refl s

/-! ### Faults and the step output (Machine/FaultOps) -/

theorem State.faultPass_kept (c : ReportCause) : StoreKept s (s.faultPass c) := by
  unfold State.faultPass
  split
  · next h =>
    exact s.endRun_kept _ _ (s.engaged_of_state (fun e => by
      simp [e, PassState.inRun, PassState.inStep] at h))
  · split
    · next h => exact s.approachGivenUp_kept (s.engaged_of_state (by simp [h]))
    · next h => exact s.withPass_kept_of_engaged _ rfl (s.engaged_of_state (by simp [h])) (by simp)
    · exact .refl s

theorem State.tripAxis_kept : StoreKept s (s.tripAxis a) := by
  unfold State.tripAxis
  dsimp only
  have h := (s.setAxis_kept a { s.axis a with
    drive := .tripped, pulses := 0,
    trip := some { error := (s.axis a).followingError, owner := (s.axis a).owner } }).trans
      (State.raise_kept _ .axisTrip)
  split
  · exact h.trans (State.faultPass_kept _ _)
  · exact h.trans (State.faultPark_kept _ _)
  · exact h.trans (State.faultHome_kept _ a _)
  · exact h

theorem State.allDrivesOff_kept (c : ReportCause) (m : MotionCause) : StoreKept s (s.allDrivesOff c m) :=
  (((s.onAxes_kept _).trans (State.faultPass_kept _ c)).trans (State.faultPark_kept _ m)).trans
    (forAxes_kept _ _ (fun b t => t.faultHome_kept b m) _)

theorem State.estopAsserted_kept : StoreKept s s.estopAsserted :=
  StoreKept.trans (t := { s with estop := true }) (.of_pass rfl rfl rfl rfl rfl)
    (((State.onAxes_kept _ _).trans (State.raise_kept _ _)).trans (State.allDrivesOff_kept _ _ _))

theorem State.supplyStop_kept : StoreKept s s.supplyStop := by
  unfold State.supplyStop
  split
  · exact .refl s
  · exact s.allDrivesOff_kept _ _

theorem State.compareSupply_kept : StoreKept s s.compareSupply := by
  unfold State.compareSupply
  split
  · split
    · exact StoreKept.trans (t := { s with supplyLow := false }) (.of_pass rfl rfl rfl rfl rfl)
        (State.raise_kept _ _)
    · exact .refl s
  · split
    · exact StoreKept.trans (t := { s with supplyLow := true }) (.of_pass rfl rfl rfl rfl rfl)
        ((State.raise_kept _ _).trans (State.supplyStop_kept _))
    · exact .refl s

theorem State.setSupply_kept (level : Nat) (action : SupplyAction) : StoreKept s (s.setSupply level action) := by
  have h := StoreKept.trans (s := s) (t := { s with supplyLevel := level, supplyAction := action })
    (.of_pass rfl rfl rfl rfl rfl) (State.compareSupply_kept _)
  unfold State.setSupply
  dsimp only
  split
  · exact h.trans (State.supplyStop_kept _)
  · exact h

theorem State.tickAxis_kept : StoreKept s (s.tickAxis a) := by
  unfold State.tickAxis
  dsimp only
  split
  · have h := s.setAxis_kept a (s.axis a).outputTick
    split
    · exact h.trans (State.withPass_kept _ _ rfl rfl)
    · exact h
  all_goals exact s.setAxis_kept a _

theorem State.tickTrips_kept : StoreKept s s.tickTrips := by
  unfold State.tickTrips
  split
  · exact .refl s
  · exact s.tripAxis_kept _
  · refine StoreKept.trans (t := { s with freeIx := s.freeIx + 1 }) (.of_pass rfl rfl rfl rfl rfl)
      (forAxes_kept _ _ (fun b t => ?_) _)
    split
    · exact t.tripAxis_kept b
    · exact .refl t

theorem State.tickStops_kept : StoreKept s s.tickStops := by
  refine forAxes_kept _ _ (fun b t => ?_) s
  split
  · exact t.stopReached_kept b
  · exact .refl t

theorem State.tickOutput_kept : StoreKept s s.tickOutput :=
  ((forAxes_kept _ _ (fun b t => t.tickAxis_kept b) s).trans (State.tickStops_kept _)).trans
    (State.tickTrips_kept _)

end Sys2Proof.Machine
end

section
/-! SUPPORT. What the edit unit can do to the store as it takes an item, and what a command can do to the store:
the one inversion every statement about the store rests on. -/

namespace Sys2Proof.Machine

variable (s : State) (l : LinkId)

/-! ### The links' own work (Machine/LinkOps) -/

theorem State.closeGet_kept : StoreKept s (s.closeGet l) := s.onLink_kept l _

theorem State.endGet_kept (x : Answer) : StoreKept s (s.endGet l x) := by
  have h : StoreKept s { s with freeIx := s.freeIx + 1 } := .of_pass rfl rfl rfl rfl rfl
  unfold State.endGet
  dsimp only
  split
  · exact (h.trans (State.closeGet_kept _ l)).trans (State.answer_kept _ l x)
  · exact (h.trans (State.onLink_kept _ l _)).trans (State.answer_kept _ l x)

theorem State.compareGet_kept (slot : Nat) (t : TrackId) (g p n : Nat) (b : Bool) :
    StoreKept s (s.compareGet l slot t g p n b) := by
  unfold State.compareGet
  split
  · exact s.endGet_kept l _
  · split
    · exact s.endGet_kept l _
    · split
      · exact s.endGet_kept l _
      · exact (s.onLink_kept l _).trans (State.answer_kept _ l _)

theorem State.collect_kept : StoreKept s (s.collect l) := by
  unfold State.collect
  split
  · dsimp only
    split
    · exact (s.onLink_kept l _).trans (State.onLink_kept _ l _)
    · exact (s.onLink_kept l _).trans (State.compareGet_kept _ l _ _ _ _ _ _)
  all_goals
    split
    · exact (s.onLink_kept l _).trans (State.answer_kept _ l _)
    · exact s.answer_kept l _

theorem State.serveCollection_kept : StoreKept s (s.serveCollection l) := by
  unfold State.serveCollection
  split
  · split
    · exact .refl s
    · exact s.compareGet_kept l _ _ _ _ _ _
  · exact .refl s

theorem State.serveCollections_kept : StoreKept s s.serveCollections :=
  (s.serveCollection_kept .a).trans (State.serveCollection_kept _ .b)

theorem State.blockSent_kept : StoreKept s (s.blockSent l) := by
  unfold State.blockSent
  split
  · exact s.onLink_kept l _
  all_goals exact .refl s

theorem State.transferTimesOut_kept : StoreKept s (s.transferTimesOut l) :=
  (s.closeGet_kept l).trans (State.onLink_kept _ l _)

theorem State.tickLink_kept : StoreKept s (s.tickLink l) := by
  unfold State.tickLink
  split
  · exact .refl s
  · split
    · exact .refl s
    · split
      · exact s.transferTimesOut_kept l
      · exact s.onLink_kept l _

theorem State.acknowledge_kept (due : Bool) (x : Answer) : StoreKept s (s.acknowledge l due x) := by
  unfold State.acknowledge
  dsimp only
  split
  · exact (s.onLink_kept l _).trans (State.answer_kept _ l x)
  · exact s.onLink_kept l _

theorem State.takeEndMarker_kept : StoreKept s (s.takeEndMarker l) := by
  unfold State.takeEndMarker
  split
  · exact (s.onLink_kept l _).trans (State.answer_kept _ l _)
  all_goals exact s.answer_kept l _

theorem State.endMarkerSelected_kept : StoreKept s (s.endMarkerSelected l) := by
  unfold State.endMarkerSelected
  split
  · exact (s.deselect_kept l).trans (State.answer_kept _ l _)
  · refine (s.deselect_kept l).trans ?_
    unfold State.endMarkerArrives
    split
    · exact State.takeEndMarker_kept _ l
    · exact State.onLink_kept _ l _

theorem State.collectSelected_kept : StoreKept s (s.collectSelected l) := by
  unfold State.collectSelected
  split
  · exact (s.deselect_kept l).trans (State.answer_kept _ l _)
  · exact (s.deselect_kept l).trans (State.collect_kept _ l)

theorem State.frameRejected_kept (bs : List Byte) : StoreKept s (s.frameRejected l bs) := by
  unfold State.frameRejected
  split
  · exact (s.deselect_kept l).trans (State.onLink_kept _ l _)
  · exact (s.deselect_kept l).trans (State.answer_kept _ l _)
  · exact (s.deselect_kept l).trans (State.answer_kept _ l _)
  · exact s.deselect_kept l

theorem State.afterMarks_kept (c : EditCmd) (r : Reason) : StoreKept s (s.afterMarks l c r) := by
  unfold State.afterMarks
  split
  · exact s.onLink_kept l _
  · exact .refl s

theorem State.answerReset_kept : StoreKept s (s.answerReset l) := by
  unfold State.answerReset
  split
  · exact (s.onLink_kept l _).trans (State.ok_kept _ l _)
  · exact .refl s

theorem State.answerOp_kept (t : State) (r : EditRun) : StoreKept t (t.answerOp r s) := by
  unfold State.answerOp
  split
  · exact t.acknowledge_kept _ _ _
  all_goals
    split
    · exact t.accept_kept _ _ _
    · exact .refl t

theorem State.initializationEnds_kept : StoreKept s s.initializationEnds := by
  unfold State.initializationEnds
  split
  · refine .trans ?_ (State.raise_kept _ _)
    exact .of_pass rfl rfl rfl rfl rfl
  · exact .refl s

theorem State.tickInit_kept : StoreKept s s.tickInit := by
  unfold State.tickInit
  split
  · exact .refl s
  · split
    · exact s.initializationEnds_kept
    · exact .of_pass rfl rfl rfl rfl rfl

/-! ### What a held move and the held items see of a change of the store -/

/-- The moves are as they were, and no item comes to be held behind the edit unit. -/
structure State.Quiet (s t : State) : Prop where
  slots : t.slots = s.slots
  held : ∀ l h, (t.link l).held = some h → (s.link l).held = some h

/-- The moves are as they were but for that of slot `n`, and no item comes to be held behind the edit unit. -/
structure State.OnlySlot (n : Nat) (s t : State) : Prop where
  move : ∀ k, k ≠ n → t.move k = s.move k
  held : ∀ l h, (t.link l).held = some h → (s.link l).held = some h

section
variable {s t u : State} {l : LinkId} {n : Nat}

theorem State.Quiet.refl (s : State) : s.Quiet s := ⟨rfl, fun _ _ h => h⟩

theorem State.Quiet.trans (h : s.Quiet t) (k : t.Quiet u) : s.Quiet u :=
  ⟨k.slots.trans h.slots, fun l x hx => h.held l x (k.held l x hx)⟩

theorem State.Quiet.onlySlot (h : s.Quiet t) (n : Nat) : State.OnlySlot n s t :=
  ⟨fun k _ => State.move_congr h.slots k, h.held⟩

theorem State.OnlySlot.trans (h : State.OnlySlot n s t) (k : State.OnlySlot n t u) : State.OnlySlot n s u :=
  ⟨fun i hi => (k.move i hi).trans (h.move i hi), fun l x hx => h.held l x (k.held l x hx)⟩

theorem State.OnlySlot.quiet (h : State.OnlySlot n s t) (k : t.Quiet u) : State.OnlySlot n s u :=
  h.trans (k.onlySlot n)

theorem State.Quiet.of_same (hs : t.slots = s.slots) (ha : t.linkA = s.linkA) (hb : t.linkB = s.linkB) :
    s.Quiet t :=
  ⟨hs, fun l h hh => by cases l with
    | a => exact (congrArg Link.held ha :).symm.trans hh
    | b => exact (congrArg Link.held hb :).symm.trans hh⟩

theorem State.quiet_onLink (f : Link → Link) (hf : ∀ k h, (f k).held = some h → k.held = some h) :
    s.Quiet (s.onLink l f) :=
  ⟨s.onLink_slots l f, fun m h hh => by
    by_cases hm : m = l
    · subst hm
      rw [State.onLink_link] at hh
      exact hf _ h hh
    · rwa [State.onLink_link_ne _ _ hm] at hh⟩

theorem State.quiet_onLinks (f : Link → Link) (hf : ∀ k h, (f k).held = some h → k.held = some h) :
    s.Quiet (s.onLinks f) :=
  ⟨rfl, fun l h hh => by cases l <;> exact hf _ h hh⟩

theorem State.quiet_raise (k : EventKind) : s.Quiet (s.raise k) := State.quiet_onLinks _ (fun _ _ h => h)

theorem State.quiet_answer (x : Answer) : s.Quiet (s.answer l x) := State.quiet_onLink _ (fun _ _ h => h)

theorem State.quiet_afterMarks (c : EditCmd) (r : Reason) : s.Quiet (s.afterMarks l c r) := by
  unfold State.afterMarks
  split
  · exact State.quiet_onLink _ (fun _ _ h => h)
  · exact .refl s

theorem State.quiet_acknowledge (due : Bool) (x : Answer) : s.Quiet (s.acknowledge l due x) := by
  have h : s.Quiet (s.onLink l (fun k => { k with transfer := k.transfer.map Transfer.restart })) :=
    State.quiet_onLink _ (fun _ _ h => h)
  unfold State.acknowledge
  dsimp only
  split
  · exact h.trans (State.quiet_answer x)
  · exact h

theorem State.quiet_takeEndMarker : s.Quiet (s.takeEndMarker l) := by
  unfold State.takeEndMarker
  split
  · refine .trans (State.quiet_onLink _ ?_) (State.quiet_answer _)
    exact fun _ _ h => h
  all_goals exact State.quiet_answer _

theorem State.onlySlot_setMove (o : Option Move) : State.OnlySlot n s (s.setMove n o) :=
  ⟨fun _ hk => s.setMove_move_ne hk o, fun l h hh => by rwa [State.setMove_link] at hh⟩

theorem State.onlySlot_onMove (f : Move → Move) : State.OnlySlot n s (s.onMove n f) :=
  State.onlySlot_setMove _

theorem State.onlySlot_cancelCheck : State.OnlySlot n s (s.cancelCheck n) := by
  have h : s.Quiet { s with check := none } := .of_same rfl rfl rfl
  exact ((h.onlySlot n).trans (State.onlySlot_onMove _)).quiet (State.quiet_raise _)

theorem State.onlySlot_contentChange : State.OnlySlot n s (s.contentChange n) := by
  unfold State.contentChange
  split
  · split
    · exact State.onlySlot_cancelCheck
    · exact State.onlySlot_onMove _
    all_goals exact (State.Quiet.refl s).onlySlot n
  · exact (State.Quiet.refl s).onlySlot n

end

/-! ### The edit unit takes an item (R25 to R48) -/

/-- An edit of the span or the label of a move: its state and its keys stay, and the keys lie in the new span. -/
structure Move.Altered (m k : Move) : Prop where
  state : k.state = m.state
  axisTracks : k.axisTracks = m.axisTracks
  speedTrack : k.speedTrack = m.speedTrack
  span : k.first = m.first ∧ k.last = m.last ∨
    spanOk k.first k.last = true ∧ m.outside k.first k.last = none

/-- What stands ready as an operation begins on a move `m`, beside that `m` is not held: the tests of R35 that bear
on the block's keys, and a retired move's check cancelled. -/
def State.OpReady (s : State) (m : Move) : EditOp → Prop
  | .dataBlock _ t ks => increasing ks.frames = true ∧ framesWithin m.first m.last ks.frames = true ∧
      m.tooFull s.free t ks = false
  | .keyDrop _ _ _ _ => True
  | .trackClear _ _ => True
  | .moveCopy _ _ => False
  | .moveRetire _ => m.state ≠ .checking

/-- The move of a slot is not held against change. -/
def State.Loose (s : State) (n : Nat) : Prop := ∃ m, s.move n = some m ∧ m.heldFast = false

/-- What the edit unit, IDLE, can do to the store as it takes a command `c`, or a data block where `c` is none. Beside
the slot it works on it touches none. -/
inductive EditEffect (s : State) (c : Option EditCmd) : State → Prop where
  | kept {t : State} (h : StoreKept s t) (hq : s.Quiet t) : EditEffect s c t
  | created {t : State} (n : Nat) (label : List Byte) (first last : Nat) (hn : 1 ≤ n ∧ n ≤ 64)
      (hm : s.move n = none) (hs : spanOk first last = true)
      (ht : StoreKept (s.setMove n (some (Move.fresh label first last))) t) (hx : State.OnlySlot n s t) :
      EditEffect s c t
  | altered {u t : State} (n : Nat) (m k : Move) (hu : StoreKept s u) (hm : u.move n = some m)
      (hh : m.heldFast = false) (hk : m.Altered k) (ht : StoreKept (u.setMove n (some k)) t)
      (hx : State.OnlySlot n s t) (hl : s.Loose n) : EditEffect s c t
  | guarded {t : State} (n : Nat) (m : Move) (b : Bool) (g : Nat) (hm : s.move n = some m)
      (hb : b = true ∨ ∃ e, c = some (.moveUnprotect n e))
      (ht : StoreKept (s.setMove n (some { m with isProtected := b, generation := g })) t)
      (hx : (s.setMove n (some { m with isProtected := b, generation := g })).Quiet t) : EditEffect s c t
  | begun {u : State} (r : EditRun) (m : Move) (hu : StoreKept s u) (hm : u.move r.op.changes = some m)
      (hh : m.heldFast = false) (hr : u.OpReady m r.op) (hx : State.OnlySlot r.op.changes s u)
      (hl : s.Loose r.op.changes) : EditEffect s c { u with edit := some r }
  | copies {u : State} (r : EditRun) (src dst : Nat) (m : Move) (hop : r.op = .moveCopy src dst)
      (hn : 1 ≤ dst ∧ dst ≤ 64) (hm : s.move src = some m) (hd : s.move dst = none) (hb : m.blocks ≤ s.free)
      (hu : StoreKept (s.setMove dst (some (Move.fresh m.label m.first m.last))) u)
      (hx : State.OnlySlot dst s u) : EditEffect s c { u with edit := some r }

variable {s l}

theorem Move.heldFast_eq_false {m : Move} (hb : m.state ≠ .bound) (hp : m.isProtected ≠ true) :
    m.heldFast = false := by simp [Move.heldFast, hb, hp]

theorem Move.heldFast_of_core {m k : Move} (hc : k.core = m.core) (hs : k.state = .bound → m.state = .bound)
    (h : m.heldFast = false) : k.heldFast = false := by
  have hp := (Move.core_eq_iff.1 hc).2
  simp only [Move.heldFast, Bool.or_eq_false_iff, decide_eq_false_iff_not] at h ⊢
  exact ⟨fun e => h.1 (hs e), hp.trans h.2⟩

/-- A move that is not held is not held after an operation that keeps the store. -/
theorem StoreKept.move_notHeld {t : State} (h : StoreKept s t) {n : Nat} {m : Move} (hm : s.move n = some m)
    (hh : m.heldFast = false) : ∃ k, t.move n = some k ∧ k.core = m.core ∧ k.heldFast = false := by
  obtain ⟨k, hk, hc⟩ := h.toMovesKept.move_some hm
  refine ⟨k, hk, hc, Move.heldFast_of_core hc (fun e => ?_) hh⟩
  obtain ⟨m', hm', hst⟩ := State.stateOf_eq_some.1 (h.bound n (State.stateOf_eq_some.2 ⟨k, hk, e⟩))
  rw [hm] at hm'
  cases hm'
  exact hst

/-- What `judge` decides stands for: nothing, an edit that ends at once, or an operation that begins once marks and
such, outside the store, are written. -/
def Verdict.Effect (s : State) (c : EditCmd) (v : Verdict) : Prop :=
  match v with
  | .refuse _ _ => True
  | .accept t _ => ∀ u, StoreKept t u → t.Quiet u → EditEffect s (some c) u
  | .timed t op => ∀ u, StoreKept t u → t.Quiet u → ∀ r : EditRun, r.op = op →
      EditEffect s (some c) { u with edit := some r }

theorem State.lowestEmpty_some {n : Nat} (h : s.lowestEmpty = some n) :
    (1 ≤ n ∧ n ≤ 64) ∧ s.move n = none := by
  unfold State.lowestEmpty at h
  exact ⟨mem_allSlots.1 (List.mem_of_find?_eq_some h), by simpa using List.find?_some h⟩

theorem State.setMove_eq_onMove {n : Nat} {m : Move} (hm : s.move n = some m) (f : Move → Move) :
    s.onMove n f = s.setMove n (some (f m)) := by
  unfold State.onMove; rw [hm]; rfl

theorem State.takeMoveNew_effect (slot first last : Nat) (label : List Byte) :
    (s.takeMoveNew slot first last label).Effect s (.moveNew slot first last label) := by
  unfold State.takeMoveNew
  split
  · trivial
  · next hr =>
    simp only [Bool.not_eq_true', Bool.not_eq_false, Bool.and_eq_true, decide_eq_true_eq] at hr
    obtain ⟨⟨h64, hspan⟩, -⟩ := hr
    split
    · split
      · trivial
      · next n hn =>
        obtain ⟨hb, hm⟩ := State.lowestEmpty_some hn
        exact fun u hu hq => .created n label first last hb hm hspan hu ((State.onlySlot_setMove _).quiet hq)
    · next h0 =>
      split
      · trivial
      · next hm =>
        exact fun u hu hq => .created slot label first last ⟨by omega, h64⟩ (by simpa using hm) hspan hu
          ((State.onlySlot_setMove _).quiet hq)

/-- A change of the span or the label, after the move has lost its certification or its check (R28). -/
theorem EditEffect.changed {slot : Nat} {c : Option EditCmd} {m : Move} (hm : s.move slot = some m)
    (hh : m.heldFast = false) (f : Move → Move)
    (hf : ∀ k : Move, k.core = m.core → k.Altered (Move.changed f k)) :
    ∀ u, StoreKept ((s.contentChange slot).onMove slot (Move.changed f)) u →
      ((s.contentChange slot).onMove slot (Move.changed f)).Quiet u → EditEffect s c u := by
  have hx := State.onlySlot_contentChange.trans (State.onlySlot_onMove (s := s.contentChange slot) (n := slot)
    (Move.changed f))
  have hu := s.contentChange_kept slot
  obtain ⟨k, hk, hc, hkh⟩ := hu.move_notHeld hm hh
  rw [State.setMove_eq_onMove hk] at hx ⊢
  exact fun u ht hq => .altered slot k _ hu hk hkh (hf k hc) ht (hx.quiet hq) ⟨m, hm, hh⟩

theorem Move.outside_of_core {m k : Move} (hc : k.core = m.core) (first last : Nat) :
    k.outside first last = m.outside first last := congrArg (fun x => x.outside first last) hc

theorem State.takeMoveSpan_effect (slot first last : Nat) (e : Option Nat) :
    (s.takeMoveSpan slot first last e).Effect s (.moveSpan slot first last e) := by
  unfold State.takeMoveSpan
  split
  · trivial
  rename_i hr
  simp only [Bool.not_eq_true', Bool.not_eq_false, Bool.and_eq_true] at hr
  split
  · trivial
  rename_i m hm
  split
  · trivial
  split
  · trivial
  rename_i hb
  split
  · trivial
  rename_i ho
  split
  · trivial
  rename_i hp
  split
  · exact fun u hu hq => .kept hu hq
  · exact EditEffect.changed hm (Move.heldFast_eq_false hb hp) _ (fun k hc =>
      ⟨rfl, rfl, rfl, .inr ⟨hr.2, (Move.outside_of_core hc first last).trans ho⟩⟩)

theorem State.takeMoveLabel_effect (slot : Nat) (label : List Byte) (e : Option Nat) :
    (s.takeMoveLabel slot label e).Effect s (.moveLabel slot label e) := by
  unfold State.takeMoveLabel
  split
  · trivial
  split
  · trivial
  rename_i m hm
  split
  · trivial
  split
  · trivial
  rename_i hb
  split
  · trivial
  rename_i hp
  split
  · exact fun u hu hq => .kept hu hq
  · exact EditEffect.changed hm (Move.heldFast_eq_false hb hp) _ (fun k _ => ⟨rfl, rfl, rfl, .inl ⟨rfl, rfl⟩⟩)

/-- Only the link's own marks or transfer are written. -/
theorem EditEffect.onLink {c : Option EditCmd} (f : Link → Link)
    (hf : ∀ k h, (f k).held = some h → k.held = some h) :
    ∀ u, StoreKept (s.onLink l f) u → (s.onLink l f).Quiet u → EditEffect s c u :=
  fun _ hu hq => .kept ((s.onLink_kept l f).trans hu) ((State.quiet_onLink f hf).trans hq)

theorem State.takeKeysPut_effect (slot track : Nat) (e : Option Nat) :
    (s.takeKeysPut l slot track e).Effect s (.keysPut slot track e) := by
  unfold State.takeKeysPut
  split
  · trivial
  split
  · trivial
  split
  · trivial
  split
  · trivial
  split
  · trivial
  split
  · trivial
  split
  · trivial
  split
  · trivial
  exact EditEffect.onLink _ (fun _ _ h => h)

theorem State.takeMarkFirst_effect (slot track frame : Nat) (e : Option Nat) :
    (s.takeMarkFirst l slot track frame e).Effect s (.keyMarkFirst slot track frame e) := by
  unfold State.takeMarkFirst
  split
  · trivial
  split
  · trivial
  split
  · trivial
  split
  · trivial
  exact EditEffect.onLink _ (fun _ _ h => h)

theorem State.takeMarkLast_effect (frame : Nat) :
    (s.takeMarkLast l frame).Effect s (.keyMarkLast frame) := by
  unfold State.takeMarkLast
  split
  · trivial
  all_goals
    split
    · trivial
    · exact EditEffect.onLink _ (fun _ _ h => h)

theorem State.takeProtect_effect (slot : Nat) (e : Option Nat) :
    (s.takeProtect slot e).Effect s (.moveProtect slot e) := by
  unfold State.takeProtect
  split
  · trivial
  split
  · trivial
  rename_i m hm
  split
  · trivial
  split
  · trivial
  split
  · exact fun u hu hq => .kept hu hq
  · rw [State.setMove_eq_onMove hm]
    exact fun u hu hq => .guarded slot m true (nextGeneration m.generation) hm (.inl rfl) hu hq

theorem State.takeUnprotect_effect (slot : Nat) (e : Option Nat) :
    (s.takeUnprotect slot e).Effect s (.moveUnprotect slot e) := by
  unfold State.takeUnprotect
  split
  · trivial
  split
  · trivial
  rename_i m hm
  split
  · trivial
  split
  · rw [State.setMove_eq_onMove hm]
    exact fun u hu hq => .guarded slot m false (nextGeneration m.generation) hm (.inr ⟨e, rfl⟩) hu hq
  · exact fun u hu hq => .kept hu hq

/-- An operation that needs nothing more ready begins on a move that is not held. -/
theorem EditEffect.begins {slot : Nat} {c : Option EditCmd} {m : Move} {u : State} {r : EditRun}
    (hm : s.move slot = some m) (hh : m.heldFast = false) (hu : StoreKept s u)
    (hx : State.OnlySlot slot s u) (hc : r.op.changes = slot)
    (hr : ∀ k, u.move slot = some k → u.OpReady k r.op) : EditEffect s c { u with edit := some r } := by
  obtain ⟨k, hk, -, hkh⟩ := hu.move_notHeld hm hh
  exact .begun r k hu (hc ▸ hk) hkh (hr k hk) (hc ▸ hx) ⟨m, hc ▸ hm, hh⟩

theorem State.takeKeyDrop_effect (e : Option Nat) : (s.takeKeyDrop l e).Effect s (.keyDrop e) := by
  unfold State.takeKeyDrop
  split
  · trivial
  · trivial
  rename_i slot t first last hmk
  split
  · trivial
  rename_i m hm
  split
  · trivial
  split
  · trivial
  rename_i hb
  split
  · trivial
  split
  · trivial
  rename_i hp
  intro u hu hq r hop
  refine .begins hm (Move.heldFast_eq_false hb hp) (.trans ?_ hu) (.quiet ?_ hq) (by rw [hop]; rfl)
    (fun k _ => by rw [hop]; trivial)
  · split
    · exact s.contentChange_kept slot
    · exact .refl s
  · split
    · exact State.onlySlot_contentChange
    · exact (State.Quiet.refl s).onlySlot slot

theorem State.takeTrackClear_effect (slot track : Nat) (e : Option Nat) :
    (s.takeTrackClear l slot track e).Effect s (.trackClear slot track e) := by
  unfold State.takeTrackClear
  split
  · trivial
  split
  · trivial
  split
  · trivial
  rename_i m hm
  split
  · trivial
  split
  · trivial
  rename_i hb
  split
  · trivial
  split
  · trivial
  rename_i hp
  intro u hu hq r hop
  refine .begins hm (Move.heldFast_eq_false hb hp) (.trans ?_ hu) (.quiet ?_ hq) (by rw [hop]; rfl)
    (fun k _ => by rw [hop]; trivial)
  · split
    · exact .refl s
    · exact s.contentChange_kept slot
  · split
    · exact (State.Quiet.refl s).onlySlot slot
    · exact State.onlySlot_contentChange

theorem State.takeCopy_effect (src dst : Nat) (e : Option Nat) :
    (s.takeCopy src dst e).Effect s (.moveCopy src dst e) := by
  unfold State.takeCopy
  split
  · trivial
  rename_i hr
  simp only [Bool.not_eq_true', Bool.not_eq_false, Bool.and_eq_true, slotOk_iff] at hr
  split
  · trivial
  rename_i m hm
  generalize hblocks : m.blocks = b
  split
  · trivial
  split
  · trivial
  rename_i hd
  split
  · trivial
  rename_i hf
  intro u hu hq r hop
  have hd' : s.move dst = none := by simpa using hd
  exact EditEffect.copies r src dst m hop hr.2 hm hd' (by omega) hu
    ((State.onlySlot_setMove _).quiet hq)

theorem State.cancelCheck_move (slot n : Nat) :
    (s.cancelCheck slot).move n = if n = slot then (s.move n).map Move.cancel else s.move n :=
  State.onMove_move _ _ _ _

theorem State.takeRetire_effect (slot : Nat) (e : Option Nat) :
    (s.takeRetire slot e).Effect s (.moveRetire slot e) := by
  unfold State.takeRetire
  split
  · trivial
  split
  · trivial
  rename_i m hm
  split
  · trivial
  split
  · trivial
  rename_i hb
  split
  · trivial
  split
  · trivial
  rename_i hp
  intro u hu hq r hop
  have hcancel : StoreKept s (if m.state = .checking then s.cancelCheck slot else s) ∧
      ∀ k, (if m.state = .checking then s.cancelCheck slot else s).move slot = some k →
        k.state ≠ .checking := by
    split
    · next hst =>
      refine ⟨s.cancelCheck_kept slot (State.stateOf_eq_some.2 ⟨m, hm, hst⟩), fun k hk => ?_⟩
      rw [State.cancelCheck_move, if_pos rfl, hm] at hk
      cases hk
      simp [Move.cancel]
    · next hst =>
      refine ⟨.refl s, fun k hk => ?_⟩
      rw [hm] at hk
      cases hk
      exact hst
  have hx : State.OnlySlot slot s (if m.state = .checking then s.cancelCheck slot else s) := by
    split
    · exact State.onlySlot_cancelCheck
    · exact (State.Quiet.refl s).onlySlot slot
  refine .begins hm (Move.heldFast_eq_false hb hp) ((hcancel.1.trans (State.onLinks_kept _ _)).trans hu)
    (.quiet (hx.quiet (State.quiet_onLinks _ ?_)) hq) (by rw [hop]; rfl) (fun k hk => ?_)
  · exact fun _ _ h => h
  rw [hop]
  rw [State.move_congr hq.slots] at hk
  exact hcancel.2 k hk

/-- The edit unit's decision, said once for all twelve store edits. -/
theorem State.judge_effect (c : EditCmd) : (s.judge l c).Effect s c := by
  cases c with
  | moveNew slot first last label => exact State.takeMoveNew_effect slot first last label
  | moveSpan slot first last e => exact State.takeMoveSpan_effect slot first last e
  | moveLabel slot label e => exact State.takeMoveLabel_effect slot label e
  | keysPut slot track e => exact State.takeKeysPut_effect slot track e
  | keyMarkFirst slot track frame e => exact State.takeMarkFirst_effect slot track frame e
  | keyMarkLast frame => exact State.takeMarkLast_effect frame
  | keyDrop e => exact State.takeKeyDrop_effect e
  | trackClear slot track e => exact State.takeTrackClear_effect slot track e
  | moveCopy src dst e => exact State.takeCopy_effect src dst e
  | moveRetire slot e => exact State.takeRetire_effect slot e
  | moveProtect slot e => exact State.takeProtect_effect slot e
  | moveUnprotect slot e => exact State.takeUnprotect_effect slot e

/-! ### A data block's keys and its frames (R35) -/

theorem map_of_allSome {α β γ : Type} {f : α → Option β} {g : β → γ} {h : α → γ}
    (hf : ∀ x y, f x = some y → g y = h x) {xs : List α} {ys : List β} (hs : allSome f xs = some ys) :
    ys.map g = xs.map h := by
  induction xs generalizing ys with
  | nil => cases hs; rfl
  | cons x xs ih =>
    unfold allSome at hs
    split at hs
    · next y zs hy hzs =>
      cases hs
      rw [List.map_cons, List.map_cons, ih hzs, hf x y hy]
    · cases hs

theorem axisKeyOf_frame {k : RawAxisKey} {x : AxisKey} (h : axisKeyOf k = some x) : x.frame = k.frame := by
  unfold axisKeyOf at h
  split at h
  · split at h <;> cases h <;> rfl
  · cases h

theorem speedKeyOf_frame {k x : SpeedKey} (h : speedKeyOf k = some x) : x.frame = k.frame := by
  unfold speedKeyOf at h
  split at h
  · cases h; rfl
  · cases h

/-- The keys of a block stand at the frames the block names. -/
theorem DataBlock.keys_frames {b : DataBlock} {t : TrackId} {ks : BlockKeys} (h : b.keys t = some ks) :
    ks.frames = b.frames t := by
  cases t with
  | axis a =>
    obtain ⟨xs, hxs, rfl⟩ := Option.map_eq_some_iff.1 h
    have := map_of_allSome (g := (·.frame)) (h := (·.frame)) (fun _ _ => axisKeyOf_frame) hxs
    rw [List.map_map] at this
    exact this
  | speed =>
    obtain ⟨xs, hxs, rfl⟩ := Option.map_eq_some_iff.1 h
    have := map_of_allSome (g := (·.frame)) (h := (·.frame)) (fun _ _ => speedKeyOf_frame) hxs
    rw [List.map_map] at this
    exact this

theorem framesWithin_iff {first last : Nat} {fs : List Nat} :
    framesWithin first last fs = true ↔ ∀ f ∈ fs, first ≤ f ∧ f ≤ last := by simp [framesWithin]

/-- A block past the tests of R35 is ready to be merged into its move. -/
theorem State.judgeBlock_ready {b : DataBlock} {op : EditOp} (h : s.judgeBlock l b = .inr op) :
    ∃ m, s.move op.changes = some m ∧ op.slot = op.changes ∧ m.heldFast = false ∧ s.OpReady m op ∧
      ∃ t ks, op = .dataBlock op.changes t ks := by
  unfold State.judgeBlock at h
  split at h
  · cases h
  · cases h
  split at h
  · cases h
  rename_i m hm
  split at h
  · cases h
  rename_i hb
  split at h
  · cases h
  rename_i hinc
  split at h
  · cases h
  rename_i hspan
  split at h
  · cases h
  rename_i ks hks
  split at h
  · cases h
  rename_i hfull
  split at h
  · cases h
  rename_i hp
  cases h
  have hfr := DataBlock.keys_frames hks
  refine ⟨m, hm, rfl, Move.heldFast_eq_false hb hp, ⟨?_, ?_, ?_⟩, _, _, rfl⟩
  · rw [hfr]; simpa using hinc
  · rw [hfr, framesWithin_iff]
    intro f hf
    simp only [List.any_eq_true, decide_eq_true_eq, not_exists, not_and, not_or, not_lt] at hspan
    exact hspan f hf
  · simpa using hfull

theorem Move.tooFull_of_core {m k : Move} (hc : k.core = m.core) (free : Nat) (t : TrackId) (ks : BlockKeys) :
    k.tooFull free t ks = m.tooFull free t ks := by
  have h : ∀ x : Move, x.tooFull free t ks = x.core.tooFull free t ks := by
    intro x
    cases t <;> cases ks <;> rfl
  rw [h k, h m, hc]

theorem Move.span_of_core {m k : Move} (hc : k.core = m.core) : k.first = m.first ∧ k.last = m.last :=
  ⟨(congrArg Move.first hc :), (congrArg Move.last hc :)⟩

/-- A block is as ready for a move of the same core, with the same free blocks. -/
theorem State.OpReady.of_core {t : State} {m k : Move} {op : EditOp} {n : Nat} {tr : TrackId} {ks : BlockKeys}
    (hop : op = .dataBlock n tr ks) (h : s.OpReady m op) (hc : k.core = m.core) (hf : t.free = s.free) :
    t.OpReady k op := by
  subst hop
  obtain ⟨hinc, hin, hfull⟩ := h
  obtain ⟨h1, h2⟩ := Move.span_of_core hc
  exact ⟨hinc, by rw [h1, h2]; exact hin, by rw [hf, Move.tooFull_of_core hc]; exact hfull⟩

/-- What the edit unit can do to the store as it takes a data block. -/
theorem State.takeBlock_effect (b : DataBlock) (due : Bool) : EditEffect s none (s.takeBlock l b due) := by
  unfold State.takeBlock
  split
  · exact .kept (s.acknowledge_kept l due _) (State.quiet_acknowledge due _)
  · next op hop =>
    obtain ⟨m, hm, hslot, hh, hready, t, ks, hd⟩ := State.judgeBlock_ready hop
    have hu := s.contentChange_kept op.slot
    obtain ⟨k, hk, hc, hkh⟩ := hu.move_notHeld hm hh
    exact .begun _ k hu (hslot ▸ hk) hkh (hready.of_core hd hc hu.free) (hslot ▸ State.onlySlot_contentChange)
      ⟨m, hm, hh⟩

/-- What the edit unit can do to the store as it takes a store edit. -/
theorem State.takeEdit_effect (c : EditCmd) : EditEffect s (some c) (s.takeEdit l c) := by
  have h := State.judge_effect (s := s) (l := l) c
  unfold State.takeEdit
  split
  · exact .kept ((s.afterMarks_kept l c _).trans (State.refuseWith_kept _ l _ _ _))
      ((State.quiet_afterMarks c _).trans (State.quiet_answer _))
  · next t res hj =>
    rw [hj] at h
    exact h _ ((t.afterMarks_kept l c _).trans (State.accept_kept _ l _ _))
      ((State.quiet_afterMarks c _).trans (State.quiet_answer _))
  · next t op hj =>
    rw [hj] at h
    exact h _ (t.afterMarks_kept l c _) (State.quiet_afterMarks c _) _ rfl

end Sys2Proof.Machine
end

section
/-! SUPPORT. What a command can do to the store, said once, and what every step keeps: a property that the few
operations on the store keep. -/

namespace Sys2Proof.Machine

variable (s : State) (l : LinkId)

/-! ### The links' own work, as the moves and the held items see it -/

section
variable {s : State} {l : LinkId}

theorem State.quiet_deselect : s.Quiet (s.deselect l) :=
  (State.quiet_onLink (s := s) (l := l) _ (fun _ _ h => absurd h (by simp))).trans (.of_same rfl rfl rfl)

theorem State.quiet_closeGet : s.Quiet (s.closeGet l) := State.quiet_onLink _ (fun _ _ h => h)

theorem State.quiet_endGet (x : Answer) : s.Quiet (s.endGet l x) := by
  have h : s.Quiet { s with freeIx := s.freeIx + 1 } := .of_same rfl rfl rfl
  unfold State.endGet
  dsimp only
  split
  · exact (h.trans State.quiet_closeGet).trans (State.quiet_answer x)
  · refine (h.trans (State.quiet_onLink _ ?_)).trans (State.quiet_answer x)
    exact fun _ _ h => h

theorem State.quiet_compareGet (slot : Nat) (t : TrackId) (g p n : Nat) (b : Bool) :
    s.Quiet (s.compareGet l slot t g p n b) := by
  unfold State.compareGet
  split
  · exact State.quiet_endGet _
  · split
    · exact State.quiet_endGet _
    · split
      · exact State.quiet_endGet _
      · refine (State.quiet_onLink _ ?_).trans (State.quiet_answer _)
        exact fun _ _ h => h

theorem State.quiet_serveCollection : s.Quiet (s.serveCollection l) := by
  unfold State.serveCollection
  split
  · split
    · exact .refl s
    · exact State.quiet_compareGet _ _ _ _ _ _
  · exact .refl s

theorem State.quiet_serveCollections : s.Quiet s.serveCollections :=
  State.quiet_serveCollection.trans State.quiet_serveCollection

theorem State.quiet_answerOp (t : State) (r : EditRun) : t.Quiet (t.answerOp r s) := by
  unfold State.answerOp
  split
  · exact State.quiet_acknowledge _ _
  all_goals
    split
    · exact State.quiet_answer _
    · exact .refl t

theorem State.quiet_transferTimesOut : s.Quiet (s.transferTimesOut l) := by
  refine State.quiet_closeGet.trans (State.quiet_onLink (Link.raise _) ?_)
  exact fun _ _ h => h

theorem State.quiet_tickLink : s.Quiet (s.tickLink l) := by
  unfold State.tickLink
  split
  · exact .refl s
  · split
    · exact .refl s
    · split
      · exact State.quiet_transferTimesOut
      · exact State.quiet_onLink _ (fun _ _ h => h)

theorem State.quiet_tickInit : s.Quiet s.tickInit := by
  unfold State.tickInit
  split
  · exact .refl s
  · split
    · unfold State.initializationEnds
      split
      · have h : s.Quiet { s with phase := .serving, initTicks := 0 } := .of_same rfl rfl rfl
        exact h.trans (State.quiet_raise _)
      · exact .refl s
    · exact .of_same rfl rfl rfl

end

/-! ### Every command, by what it does to the store -/

/-- What a command other than HARD_RESET can do to the store. -/
inductive StoreChange (s : State) : State → Prop where
  | kept {t : State} (h : StoreKept s t) : StoreChange s t
  | edit {u t : State} (c : Option EditCmd) (hu : StoreKept s u) (hq : s.Quiet u) (he : u.edit = none)
      (ht : EditEffect u c t) : StoreChange s t
  | finish {u t : State} (hu : StoreKept s u) (hq : s.Quiet u) (ht : StoreKept u.finishEdit t) : StoreChange s t
  | reset {u : State} (hu : StoreKept s u) (he : u.edit = none) : StoreChange s u.softReset
  | complete (r : EditRun) (he : s.edit = some r) : StoreChange s (s.completeOp r).softReset
  | armed {u t : State} (r : PassRecord) (m : Move) (hu : StoreKept s u) (hi : u.pass.state = .idle)
      (hn : u.isTarget r.slot = false) (hm : u.move r.slot = some m) (hst : m.state = .ready)
      (ht : StoreKept (u.arm r) t) : StoreChange s t
  | disarmed {u t : State} (r : PassRecord) (hu : StoreKept s u) (hr : u.pass.record = some r)
      (ht : StoreKept (u.disarm r) t) : StoreChange s t

variable {s l}

theorem StoreChange.taken_kept {body : State → State} (h : ∀ t, StoreKept t (body t)) :
    StoreChange s (s.taken l body) := .kept (s.taken_kept l body h)

/-- A command is taken: during initialization it is only answered, and in SERVING its body runs. -/
theorem StoreChange.taken {body : State → State}
    (h : ∀ u, StoreKept s u → s.Quiet u → StoreChange s (body u)) :
    StoreChange s (s.taken l body) := by
  cases hp : s.phase with
  | initializing =>
    rw [State.taken_initializing s l hp]
    exact .kept ((s.deselect_kept l).trans (State.answer_kept _ _ _))
  | serving =>
    rw [State.taken_serving s l hp]
    exact h _ (s.deselect_kept l) State.quiet_deselect

theorem State.storeEdit_change {u : State} (hu : StoreKept s u) (hq : s.Quiet u) (c : EditCmd) :
    StoreChange s (u.storeEdit l c) := by
  unfold State.storeEdit
  split
  · next he => exact .edit (some c) hu hq he (State.takeEdit_effect c)
  · split
    · exact .kept (hu.trans (u.onLink_kept l _))
    · exact .kept ((hu.trans (u.afterMarks_kept l c _)).trans (State.refuseWith_kept _ l _ _ _))

theorem StoreChange.storeEdit (c : EditCmd) : StoreChange s (s.taken l (fun t => t.storeEdit l c)) :=
  .taken (fun _ hu hq => State.storeEdit_change hu hq c)

theorem State.takeReset_change {u : State} (hu : StoreKept s u) : StoreChange s (u.takeReset l) := by
  have h1 := hu.trans (u.onLink_kept l (fun k => { k with resetDue := true }))
  unfold State.takeReset
  dsimp only
  split
  · next he => exact .reset h1 (by rw [State.onLink_edit]; exact he)
  · exact .kept (h1.trans (.of_pass rfl rfl rfl rfl rfl))

theorem State.softResetMoment_change : StoreChange s s.softResetMoment := by
  unfold State.softResetMoment
  split
  · exact .kept (.refl s)
  · split
    · next he => exact .reset (.refl s) he
    · next r he => exact .complete r he

theorem State.finishIf_change (f : EditRun → Bool) : StoreChange s (s.finishIf f) := by
  unfold State.finishIf
  split
  · split
    · exact .finish (.refl s) (.refl s) (.refl _)
    · exact .kept (.refl s)
  · exact .kept (.refl s)

theorem State.blockReceived_change {u : State} (hu : StoreKept s u) (hq : s.Quiet u) (b : DataBlock) :
    StoreChange s (u.blockReceived l b) := by
  unfold State.blockReceived
  split
  · exact .kept (hu.trans (u.answer_kept l _))
  · split
    · exact .kept (hu.trans (u.acknowledge_kept l true _))
    · split
      · next he => exact .edit none hu hq he (State.takeBlock_effect b true)
      · exact .kept (hu.trans (u.onLink_kept l _))

theorem State.selection_change (bs : List Byte) : StoreChange s (s.selection l bs) := by
  unfold State.selection
  split
  · exact .kept (s.deselect_kept l)
  · split
    · exact .kept (s.frameRejected_kept l _)
    · unfold State.blockArrives
      dsimp only
      split
      · exact .kept ((s.deselect_kept l).trans (State.onLink_kept _ l _))
      · exact .kept ((s.deselect_kept l).trans (State.acknowledge_kept _ l true _))
      · exact State.blockReceived_change (s.deselect_kept l) State.quiet_deselect _
    · exact .kept (s.endMarkerSelected_kept l)
    · exact .kept (s.collectSelected_kept l)
    · exact .kept (s.deselect_kept l)

/-! ### The servo tick -/

/-- The part of a servo tick that comes before the edit unit's own. -/
theorem State.beforeEdit_kept : StoreKept s ((s.nextTick.tickLink .a).tickLink .b).tickInit := by
  have h : StoreKept s s.nextTick := .of_pass rfl rfl rfl rfl rfl
  exact ((h.trans (State.tickLink_kept _ .a)).trans (State.tickLink_kept _ .b)).trans (State.tickInit_kept _)

theorem State.quiet_beforeEdit : s.Quiet ((s.nextTick.tickLink .a).tickLink .b).tickInit := by
  have h : s.Quiet s.nextTick := .of_same rfl rfl rfl
  exact ((h.trans State.quiet_tickLink).trans State.quiet_tickLink).trans State.quiet_tickInit

/-- The part of a servo tick that comes after the edit unit's own. -/
theorem State.afterEdit_kept :
    StoreKept s (s.tickCheck.compareSupply.tickLoss.tickPass.tickPark.tickHomes.tickOutput) := by
  refine .trans ?_ (State.tickOutput_kept _)
  refine .trans ?_ (forAxes_kept _ _ (fun a t => t.tickHome_kept a) _)
  refine .trans ?_ (State.tickPark_kept _)
  refine .trans ?_ (State.tickPass_kept _)
  refine .trans (s.tickCheck_kept.trans (State.compareSupply_kept _)) ?_
  unfold State.tickLoss
  split
  · split
    · exact State.followerExpires_kept _
    · exact .refl _
  · exact .refl _

theorem State.servoTick_change : StoreChange s s.servoTick := by
  have hu := s.beforeEdit_kept
  have hq := State.quiet_beforeEdit (s := s)
  unfold State.servoTick State.beforeOutput
  generalize ((s.nextTick.tickLink .a).tickLink .b).tickInit = u at hu hq
  unfold State.tickEdit
  split
  · exact .kept (hu.trans (State.afterEdit_kept))
  · next r he =>
    split
    · exact .finish hu hq State.afterEdit_kept
    · refine .kept (hu.trans (.trans ?_ State.afterEdit_kept))
      exact .of_same rfl rfl (by rw [he]; rfl) rfl rfl (fun h => h)

/-! ### The bodies of the commands that test before they act -/

section
variable (l : LinkId) (s : State)

theorem execEventsClear_change (kinds : WireEvents) :
    ∃ t, execEventsClear l kinds s = .next t ∧ StoreChange s t := by
  refine ⟨_, rfl, .taken_kept (fun t => ?_)⟩
  split
  · exact t.refuse_kept l _
  · exact (t.onLink_kept l _).trans (State.ok_kept _ l _)

theorem execCrcMode_change (mode : Nat) : ∃ t, execCrcMode l mode s = .next t ∧ StoreChange s t := by
  refine ⟨_, rfl, .taken_kept (fun t => ?_)⟩
  split
  · exact t.refuse_kept l _
  · exact (t.onLink_kept l _).trans (State.ok_kept _ l _)

theorem execMoveInfo_change (slot : Nat) : ∃ t, execMoveInfo l slot s = .next t ∧ StoreChange s t := by
  refine ⟨_, rfl, .taken_kept (fun t => ?_)⟩
  split
  · exact t.refuse_kept l _
  split
  · exact t.ok_kept l _
  split
  · exact t.refuse_kept l _
  split <;> exact t.ok_kept l _

theorem execKeysGet_change (slot track : Nat) : ∃ t, execKeysGet l slot track s = .next t ∧ StoreChange s t := by
  refine ⟨_, rfl, .taken_kept (fun t => ?_)⟩
  split
  · exact t.refuse_kept l _
  split
  · exact t.refuse_kept l _
  split
  · exact t.refuse_kept l _
  split
  · exact t.refuse_kept l _
  split
  · exact t.refuse_kept l _
  split
  · exact t.refuse_kept l _
  · exact (t.onLink_kept l _).trans (State.ok_kept _ l _)

theorem execMoveCheck_change (slot : Nat) (e : Option Nat) :
    ∃ t, execMoveCheck l slot e s = .next t ∧ StoreChange s t := by
  refine ⟨_, rfl, .taken_kept (fun t => ?_)⟩
  split
  · exact t.refuse_kept l _
  split
  · exact t.refuse_kept l _
  rename_i m hm
  split
  · exact t.refuse_kept l _
  rename_i htarget
  split
  · exact t.refuseWith_kept l _ _ _
  split
  · exact t.refuse_kept l _
  rename_i hopen
  split
  · exact t.refuse_kept l _
  rename_i hcheck
  exact (t.beginCheck_kept slot m hm (by simpa using hopen) (by simpa using htarget)
    (by simpa using hcheck)).trans (State.ok_kept _ l _)

theorem execAxisSet_change (axis : Nat) (rec : RecordArgs) :
    ∃ t, execAxisSet l axis rec s = .next t ∧ StoreChange s t := by
  refine ⟨_, rfl, .taken_kept (fun t => ?_)⟩
  split
  · exact t.takeRecord_kept l _ _
  · exact t.refuse_kept l _

theorem execAxisGet_change (axis : Nat) : ∃ t, execAxisGet l axis s = .next t ∧ StoreChange s t := by
  refine ⟨_, rfl, .taken_kept (fun t => ?_)⟩
  split
  · exact t.refuse_kept l _
  · exact t.ok_kept l _

theorem execAxisEnable_change (axis : Nat) : ∃ t, execAxisEnable l axis s = .next t ∧ StoreChange s t := by
  refine ⟨_, rfl, .taken_kept (fun t => ?_)⟩
  split
  · exact t.refuse_kept l _
  split
  · exact t.refuse_kept l _
  split
  · exact t.refuse_kept l _
  · exact (t.onAxis_kept _ _).trans (State.ok_kept _ l _)

theorem execAxisDisable_change (axis : Nat) : ∃ t, execAxisDisable l axis s = .next t ∧ StoreChange s t := by
  refine ⟨_, rfl, .taken_kept (fun t => ?_)⟩
  split
  · exact t.refuse_kept l _
  split
  · exact t.refuse_kept l _
  · exact (t.onAxis_kept _ _).trans (State.ok_kept _ l _)

theorem execAxisHome_change (axis : Nat) : ∃ t, execAxisHome l axis s = .next t ∧ StoreChange s t := by
  refine ⟨_, rfl, .taken_kept (fun t => ?_)⟩
  split
  · exact t.refuse_kept l _
  split
  · exact t.refuse_kept l _
  split
  · exact t.refuse_kept l _
  · exact (t.onAxis_kept _ _).trans (State.ok_kept _ l _)

theorem execAxisPark_change (targets : List (Nat × Int)) :
    ∃ t, execAxisPark l targets s = .next t ∧ StoreChange s t := by
  refine ⟨_, rfl, .taken_kept (fun t => ?_)⟩
  split
  · exact t.refuse_kept l _
  split
  · exact t.refuse_kept l _
  split
  · exact t.refuse_kept l _
  split
  · exact t.refuse_kept l _
  split
  · exact t.refuse_kept l _
  split
  · exact t.refuse_kept l _
  split
  · exact t.refuse_kept l _
  · exact (t.beginPark_kept _ _).trans (State.ok_kept _ l _)

theorem execAxisStop_change (axis : Nat) : ∃ t, execAxisStop l axis s = .next t ∧ StoreChange s t := by
  refine ⟨_, rfl, .taken_kept (fun t => ?_)⟩
  split
  · exact t.refuse_kept l _
  split
  · exact t.refuse_kept l _
  · exact t.ok_kept l _
  · split
    · exact t.ok_kept l _
    · exact (t.onAxis_kept _ _).trans (State.ok_kept _ l _)
  · exact t.stopPark_kept.trans (State.ok_kept _ l _)

theorem execPassArm_change (args : PassArgs) : ∃ t, execPassArm l args s = .next t ∧ StoreChange s t := by
  refine ⟨_, rfl, .taken (fun u hu _ => ?_)⟩
  split
  · exact .kept (hu.trans (u.refuse_kept l _))
  rename_i hidle
  split
  · exact .kept (hu.trans (u.refuse_kept l _))
  split
  · exact .kept (hu.trans (u.refuse_kept l _))
  rename_i htarget
  split
  · exact .kept (hu.trans (u.refuse_kept l _))
  rename_i m hm
  split
  · rename_i sum hready hsum
    split
    · exact .kept (hu.trans (u.refuse_kept l _))
    · exact .armed _ m hu (by simpa using hidle) (by simpa using htarget) hm hready (State.ok_kept _ l _)
  · exact .kept (hu.trans (u.refuse_kept l _))

theorem execPassGoStart_change : ∃ t, execPassGoStart l s = .next t ∧ StoreChange s t := by
  refine ⟨_, rfl, .taken_kept (fun t => ?_)⟩
  split
  · exact t.refuse_kept l _
  rename_i r hr
  split
  · exact t.refuse_kept l _
  split
  · exact t.refuse_kept l _
  split
  · exact t.refuse_kept l _
  split
  · exact t.refuse_kept l _
  refine .trans ?_ (State.ok_kept _ l _)
  unfold State.beginApproach
  split
  · exact t.atStart_kept (t.engaged_of_record hr)
  · exact t.withPass_kept_of_engaged _ rfl (t.engaged_of_record hr) (by simp)

theorem execPassRun_change : ∃ t, execPassRun l s = .next t ∧ StoreChange s t := by
  refine ⟨_, rfl, .taken_kept (fun t => ?_)⟩
  split
  · exact t.refuse_kept l _
  rename_i r hr
  split
  · exact t.refuse_kept l _
  split
  · exact t.refuse_kept l _
  split
  · exact t.refuse_kept l _
  · exact (t.roll_kept r (by rw [hr]; simp)).trans (State.ok_kept _ l _)

theorem State.hold_kept (t : State) {r : PassRecord} (hr : t.pass.record = some r) : StoreKept t (t.hold r) := by
  refine .trans ?_ (State.note_kept _ _)
  exact .of_engaged rfl rfl rfl rfl rfl (t.engaged_of_record hr) (by simp)

theorem State.resume_kept (t : State) {r : PassRecord} (hr : t.pass.record = some r) :
    StoreKept t (t.resume r) :=
  .of_engaged rfl rfl rfl rfl rfl (t.engaged_of_record hr) (by simp [State.resume])

theorem execPassHold_change : ∃ t, execPassHold l s = .next t ∧ StoreChange s t := by
  refine ⟨_, rfl, .taken_kept (fun t => ?_)⟩
  split
  · exact t.refuse_kept l _
  rename_i r hr
  split
  · exact t.refuse_kept l _
  split
  · exact t.refuse_kept l _
  split
  · exact t.refuse_kept l _
  · exact (t.hold_kept hr).trans (State.ok_kept _ l _)

theorem execPassResume_change : ∃ t, execPassResume l s = .next t ∧ StoreChange s t := by
  refine ⟨_, rfl, .taken_kept (fun t => ?_)⟩
  split
  · exact t.refuse_kept l _
  rename_i r hr
  split
  · exact t.refuse_kept l _
  split
  · exact t.refuse_kept l _
  split
  · exact t.refuse_kept l _
  · exact (t.resume_kept hr).trans (State.ok_kept _ l _)

theorem State.stopApproach_kept (t : State) (h : t.engaged) : StoreKept t t.stopApproach := by
  unfold State.stopApproach
  split
  · exact .refl t
  split
  · exact .refl t
  split
  · exact t.approachGivenUp_kept h
  · refine .trans ?_ (State.handToCreep_kept _ _)
    exact t.withPass_kept _ rfl rfl

theorem State.abortRun_kept (t : State) (r : PassRecord) (hr : t.pass.record ≠ none) :
    StoreKept t (t.abortRun r) := by
  refine StoreKept.finish ?_ hr _
  refine .trans ?_ (State.stopRequest_kept _ r.stopRamp)
  exact t.withPass_kept_of_engaged _ rfl (fun _ => hr) (by simp)

theorem State.requestStepAbort_kept (t : State) : StoreKept t t.requestStepAbort := by
  unfold State.requestStepAbort
  split
  · exact .refl t
  · exact t.withStepping_kept _

theorem execPassAbort_change : ∃ t, execPassAbort l s = .next t ∧ StoreChange s t := by
  refine ⟨_, rfl, .taken_kept (fun t => ?_)⟩
  split
  · exact t.refuse_kept l _
  rename_i r hr
  have he := t.engaged_of_record hr
  have hr' : t.pass.record ≠ none := by rw [hr]; simp
  split
  case h_5 => exact (t.stopApproach_kept he).trans (State.ok_kept _ l _)
  case h_12 => exact t.ok_kept l _
  case h_13 => exact t.requestStepAbort_kept.trans (State.ok_kept _ l _)
  case h_1 | h_2 | h_3 | h_4 => exact t.refuse_kept l _
  case h_14 | h_15 | h_16 => exact (t.endRun_kept _ _ he).trans (State.ok_kept _ l _)
  all_goals exact (t.abortRun_kept r hr').trans (State.ok_kept _ l _)

theorem execPassDisarm_change : ∃ t, execPassDisarm l s = .next t ∧ StoreChange s t := by
  refine ⟨_, rfl, .taken (fun u hu _ => ?_)⟩
  split
  · exact .kept (hu.trans (u.refuse_kept l _))
  rename_i r hr
  split
  · exact .kept (hu.trans (u.refuse_kept l _))
  split <;> exact .disarmed r hu hr (State.ok_kept _ l _)

theorem State.askSteps_kept (t : State) (r : PassRecord) (f : StepFields) (n : Nat) (d : Direction)
    (hr : t.pass.record ≠ none) : StoreKept t (t.askSteps r f n d) := by
  have h1 : StoreKept t (if t.pass.state = .atStart then t.beginStepRun r else t) := by
    split
    · exact t.beginStepRun_kept r
    · exact .refl t
  unfold State.askSteps
  dsimp only
  generalize (if t.pass.state = .atStart then t.beginStepRun r else t) = u at h1
  have h2 := h1.trans (u.withStepping_kept
    { u.pass.stepping with pending := u.pass.stepping.pending + n, direction := some d })
  split
  · exact h2.trans (State.beginStep_kept _ f (h2.hasRecord hr))
  · exact h2

theorem execPassStep_change (count direction : Nat) :
    ∃ t, execPassStep l count direction s = .next t ∧ StoreChange s t := by
  refine ⟨_, rfl, .taken_kept (fun t => ?_)⟩
  split
  · exact t.refuse_kept l _
  rename_i r hr
  split
  · exact t.refuse_kept l _
  split
  · exact t.refuse_kept l _
  split
  · unfold State.takeSteps
    split
    · exact t.refuse_kept l _
    · exact (t.askSteps_kept r _ count _ (by rw [hr]; simp)).trans (State.ok_kept _ l _)
    · exact t.refuse_kept l _
  · exact t.refuse_kept l _

theorem State.expose_kept (t : State) (r : PassRecord) (f : StepFields) (hr : t.pass.record ≠ none) :
    StoreKept t (t.expose r f) := by
  unfold State.expose
  split
  · have h := t.beginStepRun_kept r
    exact h.trans (State.beginExposure_kept _ f (h.hasRecord hr))
  · exact t.beginExposure_kept f hr

theorem execPassExpose_change : ∃ t, execPassExpose l s = .next t ∧ StoreChange s t := by
  refine ⟨_, rfl, .taken_kept (fun t => ?_)⟩
  split
  · exact t.refuse_kept l _
  rename_i r hr
  split
  · exact t.refuse_kept l _
  split
  · split
    · exact (t.expose_kept r _ (by rw [hr]; simp)).trans (State.ok_kept _ l _)
    · exact t.refuse_kept l _
  · exact t.refuse_kept l _

theorem execSupplySet_change (level action : Nat) :
    ∃ t, execSupplySet l level action s = .next t ∧ StoreChange s t := by
  refine ⟨_, rfl, .taken_kept (fun t => ?_)⟩
  split
  · exact t.refuse_kept l _
  split
  · exact t.refuse_kept l _
  · exact (t.setSupply_kept _ _).trans (State.ok_kept _ l _)

end

/-! ### The events -/

section
variable (s : State) (a : AxisId)

/-- An event that is due does its part of the tick, and otherwise nothing. -/
theorem ite_kept (b : Prop) [Decidable b] {t : State} (h : StoreKept s t) : StoreKept s (if b then t else s) := by
  split
  · exact h
  · exact .refl s

theorem ite_kept_else (b : Prop) [Decidable b] {t : State} (h : StoreKept s t) : StoreKept s (if b then s else t) := by
  split
  · exact .refl s
  · exact h

theorem execDriveSettleEnd_change : ∃ t, execDriveSettleEnd a s = .next t ∧ StoreChange s t := by
  refine ⟨_, rfl, .kept ?_⟩
  split
  · exact ite_kept s _ (s.onAxis_kept a _)
  all_goals exact .refl s

theorem State.approachEaseDue_engaged (h : s.approachEaseDue = true) : s.engaged := by
  unfold State.approachEaseDue at h
  split at h
  · simp only [Bool.and_eq_true, decide_eq_true_eq] at h
    exact s.engaged_of_state (by rw [h.1.1]; simp)
  · cases h

theorem State.approachRestDue_engaged (h : s.approachRestDue = true) : s.engaged := by
  unfold State.approachRestDue at h
  split at h
  · simp only [Bool.and_eq_true, decide_eq_true_eq] at h
    exact s.engaged_of_state (by rw [h.1.1]; simp)
  · cases h

theorem execApproachEaseEnd_change : ∃ t, execApproachEaseEnd s = .next t ∧ StoreChange s t := by
  refine ⟨_, rfl, .kept ?_⟩
  split
  · next h => exact s.tickApproach_kept (s.approachEaseDue_engaged h)
  · exact .refl s

theorem execApproachStopAtRest_change : ∃ t, execApproachStopAtRest s = .next t ∧ StoreChange s t := by
  refine ⟨_, rfl, .kept ?_⟩
  split
  · next h => exact s.tickApproach_kept (s.approachRestDue_engaged h)
  · exact .refl s

theorem execRollTriggerEdge_change : ∃ t, execRollTriggerEdge s = .next t ∧ StoreChange s t := by
  refine ⟨_, rfl, .kept ?_⟩
  split
  · exact .refl s
  · next r hr => exact ite_kept s _ (s.roll_kept r (by rw [hr]; simp))

theorem execStepAdvanceEdge_change : ∃ t, execStepAdvanceEdge s = .next t ∧ StoreChange s t := by
  refine ⟨_, rfl, .kept ?_⟩
  split
  · exact .refl s
  · next r hr =>
    split
    · exact .refl s
    · exact ite_kept s _ (s.askSteps_kept r _ 1 _ (by rw [hr]; simp))

theorem State.exposing_record {r : PassRecord} {f : StepFields} (h : s.exposing = some (r, f)) :
    s.pass.record = some r := by
  unfold State.exposing at h
  split at h
  · split at h
    · next r' hr =>
      obtain ⟨f', -, hf⟩ := Option.map_eq_some_iff.1 h
      cases hf
      exact hr
    · cases h
  · cases h

theorem execExposureDoneEdge_change : ∃ t, execExposureDoneEdge s = .next t ∧ StoreChange s t := by
  refine ⟨_, rfl, .kept ?_⟩
  split
  · exact .refl s
  · next r f h =>
    split
    · exact s.exposureCompleted_kept r f (by rw [s.exposing_record h]; simp)
    · exact .refl s

theorem execExposureTimeEnd_change : ∃ t, execExposureTimeEnd s = .next t ∧ StoreChange s t := by
  refine ⟨_, rfl, .kept ?_⟩
  split
  · exact .refl s
  · split
    · exact ite_kept s _ s.tickPass_kept
    · exact .refl s

theorem execExposureTimeout_change : ∃ t, execExposureTimeout s = .next t ∧ StoreChange s t := by
  refine ⟨_, rfl, .kept ?_⟩
  split
  · exact .refl s
  · split
    · exact ite_kept s _ s.tickPass_kept
    · exact .refl s

theorem State.supplyRead_kept (n : Nat) : StoreKept s ({ s with supplyTenths := n } : State).compareSupply := by
  refine .trans ?_ (State.compareSupply_kept _)
  exact .of_pass rfl rfl rfl rfl rfl

theorem execEstopRelease_change : ∃ t, execEstopRelease s = .next t ∧ StoreChange s t := by
  refine ⟨_, rfl, .kept (ite_kept s _ ?_)⟩
  refine .trans ?_ (State.raise_kept _ _)
  exact .of_pass rfl rfl rfl rfl rfl

end

/-- Every command but HARD_RESET answers a next state, and what it does to the store is one of the changes above. -/
theorem exec_change (i : Instr) (hi : i ≠ .hardReset) (s : State) : ∃ t, exec i s = .next t ∧ StoreChange s t := by
  cases i with
  | hardReset => exact absurd rfl hi
  | initializationEnd => exact ⟨_, rfl, .kept s.initializationEnds_kept⟩
  | softReset => exact ⟨_, rfl, State.softResetMoment_change⟩
  | status l => exact ⟨_, rfl, .kept ((s.deselect_kept l).trans (State.ok_kept _ l _))⟩
  | eventsRead l => exact ⟨_, rfl, .kept ((s.deselect_kept l).trans (State.ok_kept _ l _))⟩
  | eventsMask l mask =>
    exact ⟨_, rfl, .taken_kept (fun t => (t.onLink_kept l _).trans (State.ok_kept _ l _))⟩
  | eventsClear l kinds => exact execEventsClear_change l s kinds
  | crcMode l mode => exact execCrcMode_change l s mode
  | reset l => exact ⟨_, rfl, .taken (fun _ hu _ => State.takeReset_change hu)⟩
  | faultStatus l => exact ⟨_, rfl, .taken_kept (fun t => t.ok_kept l _)⟩
  | moveInfo l slot => exact execMoveInfo_change l s slot
  | keysGet l slot track => exact execKeysGet_change l s slot track
  | moveNew l slot first last label exp => exact ⟨_, rfl, .storeEdit _⟩
  | moveSpan l slot first last exp => exact ⟨_, rfl, .storeEdit _⟩
  | moveLabel l slot label exp => exact ⟨_, rfl, .storeEdit _⟩
  | keysPut l slot track exp => exact ⟨_, rfl, .storeEdit _⟩
  | keyMarkFirst l slot track frame exp => exact ⟨_, rfl, .storeEdit _⟩
  | keyMarkLast l frame exp => exact ⟨_, rfl, .storeEdit _⟩
  | keyDrop l exp => exact ⟨_, rfl, .storeEdit _⟩
  | trackClear l slot track exp => exact ⟨_, rfl, .storeEdit _⟩
  | moveCopy l src dst exp => exact ⟨_, rfl, .storeEdit _⟩
  | moveRetire l slot exp => exact ⟨_, rfl, .storeEdit _⟩
  | moveProtect l slot exp => exact ⟨_, rfl, .storeEdit _⟩
  | moveUnprotect l slot exp => exact ⟨_, rfl, .storeEdit _⟩
  | moveCheck l slot exp => exact execMoveCheck_change l s slot exp
  | axisSet l axis rec => exact execAxisSet_change l s axis rec
  | axisGet l axis => exact execAxisGet_change l s axis
  | axisEnable l axis => exact execAxisEnable_change l s axis
  | axisDisable l axis => exact execAxisDisable_change l s axis
  | axisHome l axis => exact execAxisHome_change l s axis
  | axisPark l targets => exact execAxisPark_change l s targets
  | axisStop l axis => exact execAxisStop_change l s axis
  | passArm l args => exact execPassArm_change l s args
  | passGoStart l => exact execPassGoStart_change l s
  | passRun l => exact execPassRun_change l s
  | passHold l => exact execPassHold_change l s
  | passResume l => exact execPassResume_change l s
  | passAbort l => exact execPassAbort_change l s
  | passDisarm l => exact execPassDisarm_change l s
  | passStep l count direction => exact execPassStep_change l s count direction
  | passExpose l => exact execPassExpose_change l s
  | passStatus l => exact ⟨_, rfl, .taken_kept (fun t => t.ok_kept l _)⟩
  | clockStatus l => exact ⟨_, rfl, .taken_kept (fun t => t.ok_kept l _)⟩
  | supplySet l level action => exact execSupplySet_change l s level action
  | commandFrameRejected l bytes => exact ⟨_, rfl, State.selection_change bytes⟩
  | dataBlock l bytes => exact ⟨_, rfl, State.selection_change bytes⟩
  | endMarker l => exact ⟨_, rfl, .kept (s.endMarkerSelected_kept l)⟩
  | collectRequest l => exact ⟨_, rfl, .kept (s.collectSelected_kept l)⟩
  | linkDeselect l => exact ⟨_, rfl, .kept (s.deselect_kept l)⟩
  | dataBlockApplied => exact ⟨_, rfl, State.finishIf_change _⟩
  | keyDropEnd => exact ⟨_, rfl, State.finishIf_change _⟩
  | trackClearEnd => exact ⟨_, rfl, State.finishIf_change _⟩
  | moveCopyEnd => exact ⟨_, rfl, State.finishIf_change _⟩
  | moveRetireEnd => exact ⟨_, rfl, State.finishIf_change _⟩
  | checkEnd => exact ⟨_, rfl, .kept s.endCheck_kept⟩
  | servoTick => exact ⟨_, rfl, State.servoTick_change⟩
  | driveSettleEnd axis => exact execDriveSettleEnd_change s axis
  | putTransferTimeout l => exact ⟨_, rfl, .kept (ite_kept s _ (s.transferTimesOut_kept l))⟩
  | getTransferTimeout l => exact ⟨_, rfl, .kept (ite_kept s _ (s.transferTimesOut_kept l))⟩
  | parkEaseEnd => exact ⟨_, rfl, .kept (ite_kept s _ s.tickPark_kept)⟩
  | parkStopAtRest => exact ⟨_, rfl, .kept (ite_kept s _ s.tickPark_kept)⟩
  | approachEaseEnd => exact execApproachEaseEnd_change s
  | approachStopAtRest => exact execApproachStopAtRest_change s
  | homeBrakingAtRest axis => exact ⟨_, rfl, .kept (ite_kept s _ (s.tickHome_kept axis))⟩
  | homeFinishingAtRest axis => exact ⟨_, rfl, .kept (ite_kept s _ (s.tickHome_kept axis))⟩
  | homeStopReached axis => exact ⟨_, rfl, .kept (ite_kept s _ (s.stopReached_kept axis))⟩
  | homeTravelExceeded axis => exact ⟨_, rfl, .kept (ite_kept s _ (s.tickHome_kept axis))⟩
  | homeAbandonAtRest axis => exact ⟨_, rfl, .kept (ite_kept s _ (s.tickHome_kept axis))⟩
  | holdRampEnd => exact ⟨_, rfl, .kept (ite_kept s _ s.tickPass_kept)⟩
  | resumeRampEnd => exact ⟨_, rfl, .kept (ite_kept s _ s.tickPass_kept)⟩
  | stopRampEnd => exact ⟨_, rfl, .kept (ite_kept s _ s.tickPass_kept)⟩
  | syncLossTimeout => exact ⟨_, rfl, .kept (ite_kept s _ s.loseSync_kept)⟩
  | lockTimeout => exact ⟨_, rfl, .kept (ite_kept s _ s.loseLock_kept)⟩
  | stepEaseEnd => exact ⟨_, rfl, .kept (ite_kept s _ s.tickPass_kept)⟩
  | stepSettleEnd => exact ⟨_, rfl, .kept (ite_kept s _ s.tickPass_kept)⟩
  | exposureTimeEnd => exact execExposureTimeEnd_change s
  | exposureTimeout => exact execExposureTimeout_change s
  | cameraFrameEdge offset => exact ⟨_, rfl, .kept (s.cameraEdge_kept _)⟩
  | rollTriggerEdge => exact execRollTriggerEdge_change s
  | stepAdvanceEdge => exact execStepAdvanceEdge_change s
  | exposureDoneEdge => exact execExposureDoneEdge_change s
  | estopAssert => exact ⟨_, rfl, .kept (ite_kept_else s _ s.estopAsserted_kept)⟩
  | estopRelease => exact execEstopRelease_change s
  | supplyMonitorLow tenths => exact ⟨_, rfl, .kept (s.supplyRead_kept tenths)⟩
  | supplyMonitorOk tenths => exact ⟨_, rfl, .kept (s.supplyRead_kept tenths)⟩
  | homeSwitchAssert axis => exact ⟨_, rfl, .kept (ite_kept_else s _ (s.onAxis_kept axis _))⟩
  | homeSwitchRelease axis => exact ⟨_, rfl, .kept (ite_kept s _ (s.onAxis_kept axis _))⟩
  | encoderTransition axis positive => exact ⟨_, rfl, .kept (s.onAxis_kept axis _)⟩
  | getDataBlockSent l => exact ⟨_, rfl, .kept (s.blockSent_kept l)⟩

/-! ### The end of an operation -/

theorem StoreKept.edit_none {s t : State} (h : StoreKept s t) (he : s.edit = none) : t.edit = none := by
  have := h.op
  rw [he] at this
  simpa using this

/-- An operation ends: a waiting soft reset takes effect, or the arbiter takes the items that wait. -/
theorem State.finishEdit_cases {s : State} {r : EditRun} (h : s.edit = some r) :
    s.finishEdit = (s.completeOp r).softReset ∨
    ∃ u, StoreKept (s.completeOp r) u ∧ (s.completeOp r).Quiet u ∧ u.edit = none ∧
      s.finishEdit = u.arbitrate 4 r.link := by
  unfold State.finishEdit
  rw [h]
  dsimp only
  split
  · exact .inl rfl
  · have hk := (s.answerOp_kept (s.completeOp r) r).trans (State.serveCollections_kept _)
    exact .inr ⟨_, hk, (State.quiet_answerOp _ r).trans State.quiet_serveCollections, hk.edit_none rfl, rfl⟩

/-- The item the arbiter takes of a link: a data block, a held edit or an end marker. -/
theorem State.takeWaiting_cases {s t : State} {l : LinkId} (h : s.takeWaiting l = some t) (he : s.edit = none) :
    ∃ u c, StoreKept s u ∧ s.Quiet u ∧ u.edit = none ∧ EditEffect u c t ∧
      ∀ e, c = some e → (s.link l).held = some (.command e) := by
  unfold State.takeWaiting at h
  split at h
  · cases h
    refine ⟨_, none, s.onLink_kept l _, State.quiet_onLink _ ?_, by rw [State.onLink_edit, he],
      State.takeBlock_effect _ _, by simp⟩
    exact fun _ _ h => h
  · next c hb hc =>
    cases h
    exact ⟨_, some c, s.onLink_kept l _, State.quiet_onLink _ (fun _ _ h => absurd h (by simp)),
      by rw [State.onLink_edit, he], State.takeEdit_effect c, fun e hce => by rw [hc, Option.some.inj hce]⟩
  · cases h
    exact ⟨_, none, s.onLink_kept l _, State.quiet_onLink _ (fun _ _ h => absurd h (by simp)),
      by rw [State.onLink_edit, he], .kept (State.takeEndMarker_kept _ l) State.quiet_takeEndMarker, by simp⟩
  · cases h

/-! ### What every step keeps -/

/-- A property of the store that every step keeps, from the operations that write the store. -/
structure StoreInvariant (P : State → Prop) : Prop where
  kept : ∀ {s t : State}, StoreKept s t → P s → P t
  edit : ∀ {s t : State} {c : Option EditCmd}, s.edit = none → EditEffect s c t → P s → P t
  complete : ∀ {s : State} {r : EditRun}, s.edit = some r → P s → P (s.completeOp r)
  softReset : ∀ {s : State}, s.edit = none → P s → P s.softReset
  arm : ∀ {s : State} {r : PassRecord} {m : Move}, s.pass.state = .idle → s.isTarget r.slot = false →
    s.move r.slot = some m → m.state = .ready → P s → P (s.arm r)
  disarm : ∀ {s : State} {r : PassRecord}, s.pass.record = some r → P s → P (s.disarm r)
  hardReset : ∀ s : State, P s.hardReset

variable {P : State → Prop}

theorem StoreInvariant.arbitrate (hP : StoreInvariant P) (n : Nat) (l : LinkId) (s : State) (h : P s) :
    P (s.arbitrate n l) := by
  have htake : ∀ {s t : State} {k : LinkId}, s.edit = none → s.takeWaiting k = some t → P s → P t := by
    intro s t k he ht h
    obtain ⟨u, c, hu, -, heu, hc, -⟩ := State.takeWaiting_cases ht he
    exact hP.edit heu hc (hP.kept hu h)
  induction n generalizing l s with
  | zero => exact h
  | succ n ih =>
    unfold State.arbitrate
    split
    · exact h
    · next he =>
      have he' : s.edit = none := by simpa using he
      split
      · next t ht => exact ih _ _ (htake he' ht h)
      · split
        · next t ht => exact ih _ _ (htake he' ht h)
        · exact h

theorem StoreInvariant.finishEdit (hP : StoreInvariant P) (s : State) (h : P s) : P s.finishEdit := by
  cases he : s.edit with
  | none =>
    unfold State.finishEdit
    rw [he]
    exact h
  | some r =>
    rcases State.finishEdit_cases he with hf | ⟨u, hu, -, -, hf⟩
    · rw [hf]
      exact hP.softReset rfl (hP.complete he h)
    · rw [hf]
      exact hP.arbitrate _ _ _ (hP.kept hu (hP.complete he h))

theorem StoreInvariant.change (hP : StoreInvariant P) {s t : State} (hc : StoreChange s t) (h : P s) : P t := by
  cases hc with
  | kept hk => exact hP.kept hk h
  | edit c hu hq he ht => exact hP.edit he ht (hP.kept hu h)
  | finish hu hq ht => exact hP.kept ht (hP.finishEdit _ (hP.kept hu h))
  | reset hu he => exact hP.softReset he (hP.kept hu h)
  | complete r he => exact hP.softReset rfl (hP.complete he h)
  | armed r m hu hi hn hm hst ht => exact hP.kept ht (hP.arm hi hn hm hst (hP.kept hu h))
  | disarmed r hu hr ht => exact hP.kept ht (hP.disarm hr (hP.kept hu h))

/-- A property of the store that its operations keep is kept by every step. -/
theorem StoreInvariant.step (hP : StoreInvariant P) {s t : State} (hs : step s = .next t) (h : P s) : P t := by
  unfold Machine.step at hs
  split at hs
  · cases hs
    exact h
  · next c rest hp =>
    have hk : StoreKept s (s.withPending rest) := .of_pass rfl rfl rfl rfl rfl
    by_cases hi : c = .hardReset
    · subst hi
      cases hs
      exact hP.hardReset _
    · obtain ⟨u, hu, hc⟩ := exec_change c hi (s.withPending rest)
      rw [hu] at hs
      cases hs
      exact hP.change hc (hP.kept hk h)

end Sys2Proof.Machine
end

section
/-! SUPPORT. What the resets, PASS_ARM and PASS_DISARM do to the store; and the key pool (R7, R8, R25). -/

namespace Sys2Proof.Machine

variable {s t : State}

/-! ### The resets, PASS_ARM and PASS_DISARM: what they keep -/

theorem Move.release_core (m : Move) : m.release.core = m.core := by
  unfold Move.release
  split
  · split <;> rfl
  all_goals rfl

theorem State.releaseMove_movesKept (s : State) : MovesKept s s.releaseMove := by
  unfold State.releaseMove
  split
  · exact .refl s
  · exact .of_onMove s _ _ Move.release_core

theorem State.releaseMove_edit (s : State) : s.releaseMove.edit = s.edit := by
  unfold State.releaseMove
  split
  · rfl
  · exact s.onMove_edit _ _

/-- The state under a soft reset once the move is released and the pass, the clock and the park are reset. -/
def State.resetOwners (s : State) : State :=
  { s with pass := s.pass.softReset, clock := Clock.reset, park := none }

/-- After that the soft reset keeps the store, but for the operation in progress, which is gone. -/
theorem State.softReset_cases (s : State) : ∃ u, StoreKept s.resetCheck.releaseMove.resetOwners u ∧
    StoreKept { u with edit := none, resetWaiting := false } s.softReset := by
  refine ⟨_, ?_, (State.answerReset_kept _ .a).trans (State.answerReset_kept _ .b)⟩
  refine .trans ?_ (State.onLinks_kept _ _)
  refine .trans ?_ (State.applyStagedAll_kept _ _)
  exact State.onAxes_kept _ _

theorem State.softReset_movesKept (s : State) : MovesKept s s.softReset := by
  obtain ⟨u, hu, hs⟩ := s.softReset_cases
  have h1 : MovesKept s s.resetCheck.releaseMove :=
    s.resetCheck_kept.toMovesKept.trans (State.releaseMove_movesKept _)
  have h2 : MovesKept s.resetCheck.releaseMove s.resetCheck.releaseMove.resetOwners := .of_slots rfl rfl
  have h3 : MovesKept u { u with edit := none, resetWaiting := false } := .of_slots rfl rfl
  exact ((h1.trans h2).trans hu.toMovesKept).trans (h3.trans hs.toMovesKept)

theorem State.softReset_edit (s : State) : s.softReset.edit = none := by
  obtain ⟨u, -, hs⟩ := s.softReset_cases
  exact hs.edit_none rfl

/-- The pass axes take their owner, one after another, and the record is written. -/
theorem State.arm_cases (s : State) (r : PassRecord) :
    ∃ u, StoreKept (s.onMove r.slot (fun m => { m with state := .bound })) u ∧
      s.arm r = u.withPass { u.pass with state := .armed, record := some r } :=
  ⟨_, forAxes_onAxis_kept _ _ _, rfl⟩

theorem State.arm_movesKept (s : State) (r : PassRecord) : MovesKept s (s.arm r) := by
  obtain ⟨u, hu, he⟩ := s.arm_cases r
  have h1 : MovesKept s (s.onMove r.slot (fun m => { m with state := .bound })) := by
    refine .of_onMove s _ _ ?_
    exact fun _ => rfl
  rw [he]
  exact (h1.trans hu.toMovesKept).trans (.of_slots rfl rfl)

theorem State.arm_op (s : State) (r : PassRecord) : (s.arm r).edit.map (·.op) = s.edit.map (·.op) := by
  obtain ⟨u, hu, he⟩ := s.arm_cases r
  rw [he]
  exact hu.op.trans (by rw [State.onMove_edit])

/-- The move is released, then the axes, and the record is dropped. -/
theorem State.disarm_cases (s : State) (r : PassRecord) :
    ∃ u, StoreKept (s.withClock s.clock.disarmed).releaseMove u ∧
      s.disarm r = u.withPass { u.pass with
        state := .idle, record := none, stopCause := none, endReached := none, approach := none
        stepping := .reset } :=
  ⟨_, (forAxes_onAxis_kept _ _ _).trans (State.applyStagedAll_kept _ _), rfl⟩

theorem State.disarm_movesKept (s : State) (r : PassRecord) : MovesKept s (s.disarm r) := by
  obtain ⟨u, hu, he⟩ := s.disarm_cases r
  rw [he]
  have h1 := (s.withClock_kept s.clock.disarmed).toMovesKept.trans (State.releaseMove_movesKept _)
  exact (h1.trans hu.toMovesKept).trans (.of_slots rfl rfl)

theorem State.disarm_op (s : State) (r : PassRecord) : (s.disarm r).edit.map (·.op) = s.edit.map (·.op) := by
  obtain ⟨u, hu, he⟩ := s.disarm_cases r
  rw [he]
  exact hu.op.trans (by rw [State.releaseMove_edit]; rfl)

theorem State.hardReset_store (s : State) : s.hardReset.slots = Vector.replicate 64 none ∧
    s.hardReset.free = 512 ∧ s.hardReset.edit = none ∧ s.hardReset.check = none ∧
    s.hardReset.pass = Pass.reset := by
  unfold State.hardReset
  split <;> exact ⟨rfl, rfl, rfl, rfl, rfl⟩

theorem State.move_none_of_empty (h : s.slots = Vector.replicate 64 none) (n : Nat) : s.move n = none := by
  cases hm : s.move n with
  | none => rfl
  | some m =>
    have hn := s.move_bounds hm
    unfold State.move at hm
    rw [if_pos hn.1, h] at hm
    simp [show n - 1 < 64 by omega] at hm

theorem State.hardReset_move (s : State) (n : Nat) : s.hardReset.move n = none :=
  State.move_none_of_empty s.hardReset_store.1 n

/-- A property of the cores of the moves, the free blocks and the operation in progress, if any. -/
theorem StoreInvariant.of_content {P : State → Prop}
    (hm : ∀ {s t : State}, MovesKept s t → t.edit = none ∨ t.edit.map (·.op) = s.edit.map (·.op) → P s → P t)
    (hedit : ∀ {s t : State} {c : Option EditCmd}, s.edit = none → EditEffect s c t → P s → P t)
    (hcomplete : ∀ {s : State} {r : EditRun}, s.edit = some r → P s → P (s.completeOp r))
    (hhard : ∀ s : State, P s.hardReset) : StoreInvariant P where
  kept h := hm h.toMovesKept (.inr h.op)
  edit := hedit
  complete := hcomplete
  softReset _ := hm (State.softReset_movesKept _) (.inl (State.softReset_edit _))
  arm _ _ _ _ := hm (State.arm_movesKept _ _) (.inr (State.arm_op _ _))
  disarm _ := hm (State.disarm_movesKept _ _) (.inr (State.disarm_op _ _))
  hardReset := hhard

/-! ### Blocks of a move -/

theorem Move.keyCount_of_core {m k : Move} (h : k.core = m.core) (tr : TrackId) : k.keyCount tr = m.keyCount tr := by
  have hx : ∀ x : Move, x.keyCount tr = x.core.keyCount tr := fun x => by cases tr <;> rfl
  rw [hx k, hx m, h]

theorem Move.blocks_congr {m k : Move} (h : ∀ tr, k.keyCount tr = m.keyCount tr) : k.blocks = m.blocks := by
  simp only [Move.blocks, h]

theorem Move.blocks_of_core {m k : Move} (h : k.core = m.core) : k.blocks = m.blocks :=
  Move.blocks_congr (Move.keyCount_of_core h)

/-- Sums over a list that differ at one place of it. -/
theorem sum_map_eq_but_one {α : Type} [DecidableEq α] {l : List α} (hl : l.Nodup) {a : α} (ha : a ∈ l)
    {f g : α → Nat} (h : ∀ b, b ≠ a → g b = f b) : (l.map g).sum + f a = (l.map f).sum + g a := by
  have he : (l.erase a).map g = (l.erase a).map f :=
    List.map_congr_left (fun b hb => h b (hl.mem_erase_iff.1 hb).1)
  have hf := List.sum_map_erase f ha
  have hg := List.sum_map_erase g ha
  rw [he] at hg
  omega

theorem allTracks_nodup : allTracks.Nodup := by decide

theorem mem_allTracks (tr : TrackId) : tr ∈ allTracks := by
  cases tr with
  | axis a => exact List.mem_append_left _ (List.mem_map_of_mem (allAxes_mem a))
  | speed => exact List.mem_append_right _ (List.mem_singleton.2 rfl)

/-- Moves that differ in one track differ in blocks by what that track holds. -/
theorem Move.blocks_eq_but_one {m k : Move} (tr : TrackId) (h : ∀ u, u ≠ tr → k.keyCount u = m.keyCount u) :
    k.blocks + blocksOf (m.keyCount tr) = m.blocks + blocksOf (k.keyCount tr) :=
  sum_map_eq_but_one (f := fun u => blocksOf (m.keyCount u)) (g := fun u => blocksOf (k.keyCount u))
    allTracks_nodup (mem_allTracks tr) (fun u hu => congrArg blocksOf (h u hu))

theorem Move.setAxisTrack_axisTrack (m : Move) (a b : AxisId) (ks : List AxisKey) :
    (m.setAxisTrack a ks).axisTrack b = if b = a then ks else m.axisTrack b := by
  unfold Move.setAxisTrack Move.axisTrack
  by_cases h : b = a
  · subst h; simp
  · have h' : a.val ≠ b.val := fun e => h (Fin.ext e.symm)
    simp [h, h']

/-- A merge leaves the other tracks as they are. -/
theorem Move.merge_keyCount_ne (m : Move) (tr : TrackId) (ks : BlockKeys) {u : TrackId} (hu : u ≠ tr) :
    (m.merge tr ks).keyCount u = m.keyCount u := by
  unfold Move.merge
  split
  · cases u with
    | axis b =>
      have : b ≠ _ := fun e => hu (congrArg TrackId.axis e)
      simp only [Move.keyCount, Move.setAxisTrack_axisTrack, if_neg this]
    | speed => rfl
  · cases u with
    | axis b => rfl
    | speed => exact absurd rfl hu
  · rfl
  · rfl

theorem Move.keep_keyCount (m : Move) (tr : TrackId) (f : Nat → Bool) (u : TrackId) :
    (m.keep tr f).keyCount u ≤ m.keyCount u ∧ (u ≠ tr → (m.keep tr f).keyCount u = m.keyCount u) := by
  unfold Move.keep
  split
  · next a =>
    cases u with
    | axis b =>
      simp only [Move.keyCount, Move.setAxisTrack_axisTrack]
      split
      · next e => subst e; exact ⟨List.length_filter_le _ _, fun hu => absurd rfl hu⟩
      · exact ⟨Nat.le_refl _, fun _ => rfl⟩
    | speed => exact ⟨Nat.le_refl _, fun _ => rfl⟩
  · cases u with
    | axis b => exact ⟨Nat.le_refl _, fun _ => rfl⟩
    | speed => exact ⟨List.length_filter_le _ _, fun hu => absurd rfl hu⟩

theorem blocksOf_mono {n k : Nat} (h : n ≤ k) : blocksOf n ≤ blocksOf k := by
  unfold blocksOf; omega

/-- A removal takes no block. -/
theorem Move.keep_blocks_le (m : Move) (tr : TrackId) (f : Nat → Bool) : (m.keep tr f).blocks ≤ m.blocks := by
  have h1 := Move.blocks_eq_but_one (m := m) (k := m.keep tr f) tr (fun u hu => (m.keep_keyCount tr f u).2 hu)
  have h2 := blocksOf_mono (m.keep_keyCount tr f tr).1
  omega

/-- A block that passed the FULL test has its blocks at hand (R8). -/
theorem Move.merge_blocks_le {m : Move} {free : Nat} {tr : TrackId} {ks : BlockKeys}
    (h : m.tooFull free tr ks = false) : (m.merge tr ks).blocks ≤ free + m.blocks := by
  have h1 := Move.blocks_eq_but_one (m := m) (k := m.merge tr ks) tr (fun u hu => m.merge_keyCount_ne tr ks hu)
  simp only [Move.tooFull, decide_eq_false_iff_not, not_or, not_lt] at h
  omega

theorem Move.merge_of_core {m k : Move} (h : k.core = m.core) (tr : TrackId) (ks : BlockKeys) :
    (k.merge tr ks).core = (m.merge tr ks).core := by
  have hx : ∀ x : Move, (x.merge tr ks).core = (x.core.merge tr ks).core := fun x => by
    cases tr <;> cases ks <;> rfl
  rw [hx k, hx m, h]

theorem Move.fresh_blocks (label : List Byte) (first last : Nat) : (Move.fresh label first last).blocks = 0 := by
  have h : ∀ tr, (Move.fresh label first last).keyCount tr = 0 := by
    intro tr
    cases tr with
    | axis a => simp [Move.keyCount, Move.axisTrack, Move.fresh]
    | speed => rfl
  simp only [Move.blocks, h]
  decide

/-! ### Blocks of the store -/

theorem State.blocksIn_of_move {n : Nat} {m : Move} (h : s.move n = some m) : s.blocksIn n = m.blocks := by
  unfold State.blocksIn; rw [h]

theorem State.blocksIn_of_none {n : Nat} (h : s.move n = none) : s.blocksIn n = 0 := by
  unfold State.blocksIn; rw [h]

theorem State.blocksIn_congr {n : Nat} (h : t.move n = s.move n) : t.blocksIn n = s.blocksIn n := by
  unfold State.blocksIn; rw [h]

theorem MovesKept.blocksIn (h : MovesKept s t) (n : Nat) : t.blocksIn n = s.blocksIn n := by
  cases hm : s.move n with
  | none => rw [State.blocksIn_of_none hm, State.blocksIn_of_none (h.move_none hm)]
  | some m =>
    obtain ⟨k, hk, hc⟩ := h.move_some hm
    rw [State.blocksIn_of_move hm, State.blocksIn_of_move hk, Move.blocks_of_core hc]

theorem State.heldBlocks_congr (h : ∀ n, t.blocksIn n = s.blocksIn n) : t.heldBlocks = s.heldBlocks := by
  unfold State.heldBlocks
  rw [List.map_congr_left (fun n _ => h n)]

theorem allSlots_nodup : allSlots.Nodup :=
  List.Nodup.map (fun _ _ h => Nat.succ.inj h) List.nodup_range

/-- One slot changes what it holds. -/
theorem State.heldBlocks_setMove {n : Nat} (hn : 1 ≤ n ∧ n ≤ 64) (o : Option Move) :
    (s.setMove n o).heldBlocks + s.blocksIn n = s.heldBlocks + (s.setMove n o).blocksIn n :=
  sum_map_eq_but_one allSlots_nodup (mem_allSlots.2 hn)
    (fun _ hk => State.blocksIn_congr (State.setMove_move_ne _ hk _))

/-! ### The pool -/

/-- The free and the held blocks make up the pool. -/
def State.poolSums (s : State) : Prop := s.free + s.heldBlocks = 512

/-- The blocks an operation needs are at hand. -/
def State.Fits (s : State) : EditOp → Prop
  | .dataBlock slot tr ks => ∀ m, s.move slot = some m → (m.merge tr ks).blocks ≤ s.free + m.blocks
  | .moveCopy src dst => ∀ m d, s.move src = some m → s.move dst = some d → m.blocks ≤ s.free ∧ d.blocks = 0
  | .keyDrop _ _ _ _ | .trackClear _ _ | .moveRetire _ => True

theorem State.opFits_iff : s.opFits = true ↔ ∀ op, s.edit.map (·.op) = some op → s.Fits op := by
  unfold State.opFits
  cases s.edit with
  | none => simp
  | some r =>
    simp only [Option.map_some, Option.some.injEq, forall_eq']
    cases r.op with
    | dataBlock slot tr ks => cases hm : s.move slot <;> simp [State.Fits, hm]
    | moveCopy src dst => cases hm : s.move src <;> cases hd : s.move dst <;> simp [State.Fits, hm, hd]
    | keyDrop slot tr first last => simp [State.Fits]
    | trackClear slot tr => simp [State.Fits]
    | moveRetire slot => simp [State.Fits]

theorem State.poolBalanced_iff : s.poolBalanced = true ↔ s.poolSums ∧ s.opFits = true := by
  simp [State.poolBalanced, State.poolSums]

theorem State.opFits_of_none (h : s.edit = none) : s.opFits = true := by
  unfold State.opFits; rw [h]

theorem MovesKept.poolSums (h : MovesKept s t) (hs : s.poolSums) : t.poolSums := by
  unfold State.poolSums at *
  rw [h.free, State.heldBlocks_congr h.blocksIn]
  exact hs

theorem MovesKept.fits (h : MovesKept s t) {op : EditOp} (hs : s.Fits op) : t.Fits op := by
  cases op with
  | dataBlock slot tr ks =>
    intro k hk
    obtain ⟨m, hm, hc⟩ := h.some_of hk
    rw [Move.blocks_of_core (Move.merge_of_core hc tr ks), Move.blocks_of_core hc, h.free]
    exact hs m hm
  | moveCopy src dst =>
    intro k d hk hd
    obtain ⟨m, hm, hc⟩ := h.some_of hk
    obtain ⟨e, he, hc'⟩ := h.some_of hd
    rw [Move.blocks_of_core hc, Move.blocks_of_core hc', h.free]
    exact hs m e hm he
  | keyDrop slot tr first last => trivial
  | trackClear slot tr => trivial
  | moveRetire slot => trivial

theorem MovesKept.opFits (h : MovesKept s t) (he : t.edit = none ∨ t.edit.map (·.op) = s.edit.map (·.op))
    (hs : s.opFits = true) : t.opFits = true := by
  rcases he with he | he
  · exact State.opFits_of_none he
  · rw [State.opFits_iff] at hs ⊢
    rw [he]
    exact fun op hop => h.fits (hs op hop)

theorem MovesKept.poolBalanced (h : MovesKept s t)
    (he : t.edit = none ∨ t.edit.map (·.op) = s.edit.map (·.op)) (hs : s.poolBalanced = true) :
    t.poolBalanced = true := by
  rw [State.poolBalanced_iff] at hs ⊢
  exact ⟨h.poolSums hs.1, h.opFits he hs.2⟩

/-- One slot changes what it holds, and the free blocks make up for it. -/
theorem State.poolSums_of_setMove {n : Nat} (hn : 1 ≤ n ∧ n ≤ 64) (o : Option Move)
    (ht : t.slots = (s.setMove n o).slots)
    (hf : t.free + (s.setMove n o).blocksIn n = s.free + s.blocksIn n) (hs : s.poolSums) : t.poolSums := by
  have h := State.heldBlocks_setMove (s := s) hn o
  have hh : t.heldBlocks = (s.setMove n o).heldBlocks :=
    State.heldBlocks_congr (fun k => State.blocksIn_congr (State.move_congr ht k))
  unfold State.poolSums at *
  omega

theorem State.setMove_blocksIn {n : Nat} (hn : 1 ≤ n ∧ n ≤ 64) (k : Move) :
    (s.setMove n (some k)).blocksIn n = k.blocks := State.blocksIn_of_move (s.setMove_move hn.1 hn.2 _)

/-- A slot takes a record that holds as many blocks as the one before it. -/
theorem State.setMove_poolSums {n : Nat} (hn : 1 ≤ n ∧ n ≤ 64) (k : Move) (hk : k.blocks = s.blocksIn n)
    (hs : s.poolSums) : (s.setMove n (some k)).poolSums :=
  State.poolSums_of_setMove hn (some k) rfl (by rw [State.setMove_free, State.setMove_blocksIn hn, hk]) hs

theorem State.fits_of_ready {m : Move} {op : EditOp} (hm : s.move op.changes = some m) (hr : s.OpReady m op) :
    s.Fits op := by
  cases op with
  | dataBlock slot tr ks =>
    intro k hk
    rw [show s.move slot = some m from hm] at hk
    cases hk
    exact Move.merge_blocks_le hr.2.2
  | moveCopy src dst => exact hr.elim
  | keyDrop slot tr first last => trivial
  | trackClear slot tr => trivial
  | moveRetire slot => trivial

theorem EditEffect.poolBalanced {c : Option EditCmd} (he : s.edit = none) (h : EditEffect s c t)
    (hs : s.poolBalanced = true) : t.poolBalanced = true := by
  have hset : ∀ {u v : State} (n : Nat) (k : Move), StoreKept s u → 1 ≤ n ∧ n ≤ 64 → k.blocks = u.blocksIn n →
      StoreKept (u.setMove n (some k)) v → v.poolSums ∧ v.opFits = true := by
    intro u v n k hu hn hk hv
    have hsum := State.setMove_poolSums hn k hk (hu.toMovesKept.poolSums (State.poolBalanced_iff.1 hs).1)
    have hev : v.edit = none := hv.edit_none (by rw [State.setMove_edit]; exact hu.edit_none he)
    exact ⟨hv.toMovesKept.poolSums hsum, State.opFits_of_none hev⟩
  cases h with
  | kept h => exact h.toMovesKept.poolBalanced (.inr h.op) hs
  | created n label first last hn hm hsp ht =>
    exact State.poolBalanced_iff.2 (hset n _ (.refl s) hn
      (by rw [Move.fresh_blocks, State.blocksIn_of_none hm]) ht)
  | altered n m k hu hm hh hk ht =>
    refine State.poolBalanced_iff.2 (hset n k hu (State.move_bounds _ hm) ?_ ht)
    rw [State.blocksIn_of_move hm]
    refine Move.blocks_congr (fun tr => ?_)
    cases tr with
    | axis a => simp only [Move.keyCount, Move.axisTrack, hk.axisTracks]
    | speed => simp only [Move.keyCount, hk.speedTrack]
  | guarded n m b g hm hb ht =>
    refine State.poolBalanced_iff.2 (hset n _ (.refl s) (State.move_bounds _ hm) ?_ ht)
    rw [State.blocksIn_of_move hm]
    exact Move.blocks_congr (fun tr => by cases tr <;> rfl)
  | begun r m hu hm hh hr =>
    exact State.poolBalanced_iff.2 ⟨hu.toMovesKept.poolSums (State.poolBalanced_iff.1 hs).1,
      State.opFits_iff.2 (fun op hop => Option.some.inj hop ▸ State.fits_of_ready hm hr)⟩
  | copies r src dst m hop hn hm hd hb hu =>
    rename_i u
    obtain ⟨hsum, -⟩ := hset dst _ (.refl s) hn (by rw [Move.fresh_blocks, State.blocksIn_of_none hd]) hu
    refine State.poolBalanced_iff.2 ⟨hsum, State.opFits_iff.2 (fun op hop' => ?_)⟩
    have hop'' : op = .moveCopy src dst := (Option.some.inj hop').symm.trans hop
    rw [hop'']
    have hfit : (s.setMove dst (some (Move.fresh m.label m.first m.last))).Fits (.moveCopy src dst) := by
      intro k d hk hd'
      rw [State.setMove_move_ne _ (fun e => by rw [e, hd] at hm; cases hm), hm] at hk
      rw [State.setMove_move _ hn.1 hn.2] at hd'
      cases hk
      cases hd'
      exact ⟨by rw [State.setMove_free]; exact hb, Move.fresh_blocks _ _ _⟩
    exact (hu.toMovesKept.trans (.of_slots rfl rfl)).fits hfit

/-! ### The ends of the operations -/

theorem State.rewrite_slots (s : State) (slot : Nat) (m n : Move) : (s.rewrite slot m n).slots =
    (s.setMove slot (some { n with generation := nextGeneration m.generation })).slots := by
  unfold State.rewrite; rfl

theorem State.rewrite_free (s : State) (slot : Nat) (m n : Move) :
    (s.rewrite slot m n).free = s.free + m.blocks - n.blocks := by
  unfold State.rewrite; rfl

theorem State.rewrite_poolSums {slot : Nat} {m n : Move} (hm : s.move slot = some m)
    (hb : n.blocks ≤ s.free + m.blocks) (hs : s.poolSums) : (s.rewrite slot m n).poolSums := by
  have hn := s.move_bounds hm
  have hcore : ({ n with generation := nextGeneration m.generation } : Move).blocks = n.blocks :=
    Move.blocks_of_core rfl
  refine State.poolSums_of_setMove (s := s) hn _ (s.rewrite_slots slot m n) ?_ hs
  rw [State.setMove_blocksIn hn, hcore, State.blocksIn_of_move hm, State.rewrite_free, Nat.sub_add_cancel hb]

theorem State.remove_poolSums (slot : Nat) (tr : TrackId) (f : Nat → Bool) (hs : s.poolSums) :
    (s.remove slot tr f).poolSums := by
  unfold State.remove
  split
  · exact hs
  · next m hm =>
    split
    · exact State.rewrite_poolSums hm (Nat.le_add_left_of_le (m.keep_blocks_le tr _)) hs
    · exact hs

theorem State.endBlock_poolSums {l : LinkId} {slot : Nat} {tr : TrackId} {ks : BlockKeys}
    (hf : s.Fits (.dataBlock slot tr ks)) (hs : s.poolSums) : (s.endBlock l slot tr ks).poolSums := by
  refine (State.onLink_kept _ l _).toMovesKept.poolSums ?_
  split
  · next m hm => exact State.rewrite_poolSums hm (hf m hm) hs
  · exact hs

theorem State.endCopy_poolSums {src dst : Nat} (hf : s.Fits (.moveCopy src dst)) (hs : s.poolSums) :
    (s.endCopy src dst).poolSums := by
  unfold State.endCopy
  split
  · next m d hm hd =>
    obtain ⟨hmf, hd0⟩ := hf m d hm hd
    have hn := s.move_bounds hd
    refine State.poolSums_of_setMove (s := s) hn (some { d with axisTracks := m.axisTracks, speedTrack := m.speedTrack })
      rfl ?_ hs
    have hkeys : ({ d with axisTracks := m.axisTracks, speedTrack := m.speedTrack } : Move).blocks = m.blocks :=
      Move.blocks_congr (fun tr => by cases tr <;> rfl)
    rw [State.setMove_blocksIn hn, State.blocksIn_of_move hd, hd0, hkeys]
    exact Nat.sub_add_cancel hmf
  · exact hs

/-- An EMPTY slot made EMPTY holds what it held. -/
theorem State.setMove_none_of_none {slot : Nat} (hm : s.move slot = none) (n : Nat) :
    (s.setMove slot none).move n = s.move n := by
  have h : s.setMove slot none = s.onMove slot id := by unfold State.onMove; rw [hm]; rfl
  rw [h, State.onMove_move]
  split
  · exact Option.map_id_apply
  · rfl

theorem State.endRetire_poolSums (slot : Nat) (hs : s.poolSums) : (s.endRetire slot).poolSums := by
  cases hm : s.move slot with
  | none =>
    refine MovesKept.poolSums (s := s) ⟨?_, fun n => ?_⟩ hs
    · exact congrArg (s.free + ·) (State.blocksIn_of_none hm)
    · exact congrArg (Option.map Move.core) (State.setMove_none_of_none hm n)
  | some m =>
    have hn := s.move_bounds hm
    refine State.poolSums_of_setMove (s := s) hn none rfl ?_ hs
    rw [State.blocksIn_of_none (s.setMove_move hn.1 hn.2 none)]
    rfl

theorem State.applyOp_poolSums {r : EditRun} (hf : s.Fits r.op) (hs : s.poolSums) : (s.applyOp r).poolSums := by
  unfold State.applyOp
  split
  · next hop => exact State.endBlock_poolSums (hop ▸ hf) hs
  · exact State.remove_poolSums _ _ _ hs
  · exact State.remove_poolSums _ _ _ hs
  · next hop => exact State.endCopy_poolSums (hop ▸ hf) hs
  · exact State.endRetire_poolSums _ hs

theorem State.hardReset_poolSums (s : State) : s.hardReset.poolSums := by
  have h0 : s.hardReset.heldBlocks = 0 := by
    unfold State.heldBlocks
    rw [List.map_congr_left (fun n _ => State.blocksIn_of_none (s.hardReset_move n))]
    simp
  unfold State.poolSums
  rw [s.hardReset_store.2.1, h0]

theorem State.completeOp_poolBalanced {r : EditRun} (he : s.edit = some r) (hs : s.poolBalanced = true) :
    (s.completeOp r).poolBalanced = true := by
  obtain ⟨hsum, hf⟩ := State.poolBalanced_iff.1 hs
  have h := State.applyOp_poolSums (State.opFits_iff.1 hf r.op (by rw [he]; rfl)) hsum
  exact State.poolBalanced_iff.2 ⟨h, State.opFits_of_none rfl⟩

theorem State.poolBalanced_invariant : StoreInvariant (fun s => s.poolBalanced = true) :=
  .of_content MovesKept.poolBalanced EditEffect.poolBalanced State.completeOp_poolBalanced
    (fun s => State.poolBalanced_iff.2 ⟨s.hardReset_poolSums, State.opFits_of_none s.hardReset_store.2.2.1⟩)

/-- Settles O52. Every operation on the store keeps the sum of free and held blocks, and an operation begins with the
blocks it will need at hand. -/
theorem thePoolStaysBalanced : Obligations.ThePoolStaysBalanced :=
  fun _ _ h hs => State.poolBalanced_invariant.step hs h

end Sys2Proof.Machine
end

section
/-! SUPPORT. BOUND and CHECKING agree with the pass record and the check engine (R11, R12, R49, R127). -/

namespace Sys2Proof.Machine

variable {s t : State}

/-- The directory agrees with the holders, and the record with the pass state. -/
def State.agreeing (s : State) : Prop := s.Agrees (s.pass.record.map (·.slot)) ∧ s.recordAgrees = true

theorem State.agreeing_iff : s.agreeing ↔ s.directoryAgrees = true ∧ s.recordAgrees = true := by
  rw [State.directoryAgrees_iff]; rfl

theorem StoreKept.agreeing (h : StoreKept s t) (hs : s.agreeing) : t.agreeing :=
  ⟨by rw [h.record]; exact h.agrees _ hs.1, h.idle hs.2⟩

/-- The same moves are BOUND and CHECKING. -/
def State.SameHeld (s t : State) : Prop :=
  ∀ n st, st = .bound ∨ st = .checking → (t.stateOf n = some st ↔ s.stateOf n = some st)

theorem State.Agrees.of_sameHeld {b : Option Nat} (hs : s.Agrees b) (h : s.SameHeld t)
    (hc : t.check = s.check) (he : ∀ n, t.edit.map (·.op) = some (.moveRetire n) →
      s.stateOf n ≠ some .bound ∧ s.stateOf n ≠ some .checking) : t.Agrees b := by
  refine ⟨fun n => (h n _ (.inl rfl)).trans (hs.bound n), fun n => ?_, fun n hn => ?_⟩
  · rw [hc]
    exact (h n _ (.inr rfl)).trans (hs.checking n)
  · rw [Ne, Ne, h n _ (.inl rfl), h n _ (.inr rfl)]
    exact he n hn

theorem State.sameHeld_setMove {n : Nat} (hn : 1 ≤ n ∧ n ≤ 64) (k : Move)
    (hk : ∀ st, st = .bound ∨ st = .checking → (k.state = st ↔ s.stateOf n = some st)) :
    s.SameHeld (s.setMove n (some k)) := by
  intro i st hst
  by_cases hi : i = n
  · subst hi
    rw [← hk st hst]
    simp [State.stateOf, State.setMove_move s hn.1 hn.2]
  · rw [State.stateOf_congr (State.setMove_move_ne s hi _)]

/-- A slot takes a record of the same state, or an OPEN one where it was EMPTY, while the edit unit is IDLE. -/
theorem State.setMove_agreeing {n : Nat} {k : Move} (he : s.edit = none) (hn : 1 ≤ n ∧ n ≤ 64)
    (hk : ∀ st, st = .bound ∨ st = .checking → (k.state = st ↔ s.stateOf n = some st)) (hs : s.agreeing) :
    (s.setMove n (some k)).agreeing := by
  obtain ⟨ha, hr⟩ := hs
  refine ⟨?_, ?_⟩
  · rw [State.setMove_pass]
    refine ha.of_sameHeld (State.sameHeld_setMove hn k hk) (s.setMove_check _ _) (fun i hi => ?_)
    rw [State.setMove_edit, he] at hi
    cases hi
  · rw [State.recordAgrees_iff] at hr ⊢
    rwa [State.setMove_pass]

/-- An operation begins that is no retire, or a retire of a move that is neither BOUND nor CHECKING. -/
theorem State.agreeing_begin (r : EditRun) (hr : ∀ n, r.op = .moveRetire n →
    s.stateOf n ≠ some .bound ∧ s.stateOf n ≠ some .checking) (hs : s.agreeing) :
    ({ s with edit := some r } : State).agreeing :=
  ⟨hs.1.of_sameHeld (t := { s with edit := some r }) (fun _ _ _ => Iff.rfl) rfl
    (fun n hn => hr n (Option.some.inj hn)), hs.2⟩

theorem EditEffect.agreeing {c : Option EditCmd} (he : s.edit = none) (h : EditEffect s c t)
    (hs : s.agreeing) : t.agreeing := by
  have hfresh : ∀ (n : Nat) label first last, s.move n = none →
      ∀ st : MoveState, st = .bound ∨ st = .checking →
      ((Move.fresh label first last).state = st ↔ s.stateOf n = some st) := by
    intro n label first last hm st hst
    rcases hst with rfl | rfl <;> simp [Move.fresh, State.stateOf, hm]
  cases h with
  | kept h => exact h.agreeing hs
  | created n label first last hn hm hsp ht =>
    exact ht.agreeing (State.setMove_agreeing he hn (hfresh n label first last hm) hs)
  | altered n m k hu hm hh hk ht =>
    refine ht.agreeing (State.setMove_agreeing (hu.edit_none he) (State.move_bounds _ hm) (fun st _ => ?_)
      (hu.agreeing hs))
    rw [hk.state]
    simp [State.stateOf, hm]
  | guarded n m b g hm hb ht =>
    refine ht.agreeing (State.setMove_agreeing he (State.move_bounds _ hm) (fun st _ => ?_) hs)
    simp [State.stateOf, hm]
  | begun r m hu hm hh hr =>
    refine State.agreeing_begin r (fun n hop => ?_) (hu.agreeing hs)
    rw [hop] at hm hr
    simp only [Move.heldFast, Bool.or_eq_false_iff, decide_eq_false_iff_not] at hh
    simp only [State.stateOf, show State.move _ n = some m from hm, Option.map_some, Ne, Option.some.injEq]
    exact ⟨hh.1, hr⟩
  | copies r src dst m hop hn hm hd hb hu =>
    refine State.agreeing_begin r (fun n hop' => ?_)
      (hu.agreeing (State.setMove_agreeing he hn (hfresh dst _ _ _ hd) hs))
    rw [hop] at hop'
    cases hop'

/-! ### The ends of the operations -/

theorem State.sameHeld_rewrite {slot : Nat} {m n : Move} (hm : s.move slot = some m) (hn : n.state = m.state) :
    s.SameHeld (s.rewrite slot m n) := by
  intro i st hst
  rw [State.stateOf_congr (State.move_congr (s.rewrite_slots slot m n) i)]
  refine State.sameHeld_setMove (s.move_bounds hm) _ (fun st' _ => ?_) i st hst
  simp [State.stateOf, hm, hn]

theorem Move.merge_state (m : Move) (tr : TrackId) (ks : BlockKeys) : (m.merge tr ks).state = m.state := by
  cases tr <;> cases ks <;> rfl

theorem Move.keep_state (m : Move) (tr : TrackId) (f : Nat → Bool) : (m.keep tr f).state = m.state := by
  cases tr <;> rfl

theorem State.sameHeld_remove (slot : Nat) (tr : TrackId) (f : Nat → Bool) : s.SameHeld (s.remove slot tr f) := by
  unfold State.remove
  split
  · exact fun _ _ _ => Iff.rfl
  · next m hm =>
    split
    · exact State.sameHeld_rewrite hm (m.keep_state tr _)
    · exact fun _ _ _ => Iff.rfl

theorem State.sameHeld_endBlock (l : LinkId) (slot : Nat) (tr : TrackId) (ks : BlockKeys) :
    s.SameHeld (s.endBlock l slot tr ks) := by
  intro n st hst
  unfold State.endBlock
  dsimp only
  rw [State.stateOf_congr (State.onLink_move _ l _ n)]
  split
  · next m hm => exact State.sameHeld_rewrite hm (m.merge_state tr ks) n st hst
  · rfl

/-- The end of a copy writes the destination's keys and the free blocks, or nothing. -/
theorem State.endCopy_cases (s : State) (src dst : Nat) : s.endCopy src dst = s ∨
    ∃ m d, s.move src = some m ∧ s.move dst = some d ∧
      (s.endCopy src dst).slots =
        (s.setMove dst (some { d with axisTracks := m.axisTracks, speedTrack := m.speedTrack })).slots ∧
      (s.endCopy src dst).check = s.check ∧ (s.endCopy src dst).pass = s.pass := by
  unfold State.endCopy
  split
  · next m d hm hd =>
    refine .inr ⟨m, d, hm, hd, ?_, ?_, ?_⟩
    · dsimp only
    · dsimp only
      exact s.setMove_check _ _
    · dsimp only
      exact s.setMove_pass _ _
  · exact .inl rfl

theorem State.sameHeld_endCopy (src dst : Nat) : s.SameHeld (s.endCopy src dst) := by
  rcases s.endCopy_cases src dst with h | ⟨m, d, -, hd, hs, -, -⟩
  · rw [h]
    exact fun _ _ _ => Iff.rfl
  · intro n st hst
    rw [State.stateOf_congr (State.move_congr hs n)]
    exact State.sameHeld_setMove (s.move_bounds hd) _ (fun st _ => by simp [State.stateOf, hd]) n st hst

/-- A retired move is neither BOUND nor CHECKING, so that its end takes neither away. -/
theorem State.sameHeld_endRetire {slot : Nat} (hb : s.stateOf slot ≠ some .bound)
    (hc : s.stateOf slot ≠ some .checking) : s.SameHeld (s.endRetire slot) := by
  intro n st hst
  by_cases hn : n = slot
  · subst hn
    have h0 : (s.endRetire n).stateOf n = none := by
      cases hm : (s.endRetire n).move n with
      | none => simp [State.stateOf, hm]
      | some m =>
        have hb := State.move_bounds _ hm
        rw [show (s.endRetire n).move n = none from s.setMove_move hb.1 hb.2 none] at hm
        cases hm
    rw [h0]
    rcases hst with rfl | rfl <;> simp [hb, hc]
  · exact iff_of_eq (congrArg (· = some st) (State.stateOf_congr (s.setMove_move_ne hn none)))

theorem State.sameHeld_applyOp {r : EditRun} (hr : ∀ n, r.op = .moveRetire n →
    s.stateOf n ≠ some .bound ∧ s.stateOf n ≠ some .checking) : s.SameHeld (s.applyOp r) := by
  unfold State.applyOp
  split
  · exact State.sameHeld_endBlock _ _ _ _
  · exact State.sameHeld_remove _ _ _
  · exact State.sameHeld_remove _ _ _
  · exact State.sameHeld_endCopy _ _
  · next slot hop => exact State.sameHeld_endRetire (hr slot hop).1 (hr slot hop).2

theorem State.rewrite_holders (slot : Nat) (m n : Move) :
    (s.rewrite slot m n).check = s.check ∧ (s.rewrite slot m n).pass = s.pass := by
  unfold State.rewrite
  dsimp only
  exact ⟨s.setMove_check _ _, s.setMove_pass _ _⟩

theorem State.remove_holders (slot : Nat) (tr : TrackId) (f : Nat → Bool) :
    (s.remove slot tr f).check = s.check ∧ (s.remove slot tr f).pass = s.pass := by
  unfold State.remove
  split
  · exact ⟨rfl, rfl⟩
  · split
    · exact State.rewrite_holders _ _ _
    · exact ⟨rfl, rfl⟩

/-- The end of an operation leaves the check and the pass alone. -/
theorem State.applyOp_holders (r : EditRun) : (s.applyOp r).check = s.check ∧ (s.applyOp r).pass = s.pass := by
  unfold State.applyOp
  split
  · unfold State.endBlock
    dsimp only
    rw [State.onLink_check, State.onLink_pass]
    split
    · exact State.rewrite_holders _ _ _
    · exact ⟨rfl, rfl⟩
  · exact State.remove_holders _ _ _
  · exact State.remove_holders _ _ _
  · next src dst _ =>
    rcases s.endCopy_cases src dst with h | ⟨m, d, -, -, -, hc, hp⟩
    · rw [h]
      exact ⟨rfl, rfl⟩
    · exact ⟨hc, hp⟩
  · unfold State.endRetire
    dsimp only
    exact ⟨s.setMove_check _ _, s.setMove_pass _ _⟩

theorem State.completeOp_agreeing {r : EditRun} (he : s.edit = some r) (hs : s.agreeing) :
    (s.completeOp r).agreeing := by
  obtain ⟨ha, hr⟩ := hs
  obtain ⟨hc, hp⟩ := State.applyOp_holders (s := s) r
  have hsame := State.sameHeld_applyOp (s := s) (r := r) (fun n hop => ha.retire n (by rw [he, ← hop]; rfl))
  have hp' : (s.completeOp r).pass = s.pass := hp
  refine ⟨?_, ?_⟩
  · rw [hp']
    exact ha.of_sameHeld (t := s.completeOp r) hsame hc (fun n hn => by cases hn)
  · rw [State.recordAgrees_iff] at hr ⊢
    rwa [hp']

/-! ### Arming, releasing and the resets -/

theorem Move.release_state (m : Move) : m.release.state ≠ .bound ∧
    (m.release.state = .checking ↔ m.state = .checking) := by
  unfold Move.release
  split
  · next h => split <;> simp [Move.uncertified, h]
  all_goals next h => simp [h]

/-- The move the pass record names is released, and no move is BOUND. -/
theorem State.releaseMove_agrees (hs : s.Agrees (s.pass.record.map (·.slot))) : s.releaseMove.Agrees none := by
  unfold State.releaseMove
  split
  · next h => rwa [h] at hs
  · next r h =>
    rw [h] at hs
    have hst : ∀ n, (s.onMove r.slot Move.release).stateOf n ≠ some .bound ∧
        ((s.onMove r.slot Move.release).stateOf n = some .checking ↔ s.stateOf n = some .checking) := by
      intro n
      rw [State.onMove_stateOf]
      split
      · unfold State.stateOf
        cases s.move n with
        | none => simp
        | some m => simp [m.release_state]
      · next hn => exact ⟨fun e => hn (Option.some.inj ((hs.bound n).1 e)).symm, Iff.rfl⟩
    refine ⟨fun n => ⟨fun e => absurd e (hst n).1, fun e => by cases e⟩, fun n => ?_, fun n hn => ?_⟩
    · rw [State.onMove_check]
      exact (hst n).2.trans (hs.checking n)
    · rw [State.onMove_edit] at hn
      exact ⟨(hst n).1, fun e => (hs.retire n hn).2 ((hst n).2.1 e)⟩

/-- Without a BOUND move and without a record an IDLE pass agrees. -/
theorem State.agreeing_of_idle (h : s.Agrees none) (hr : s.pass.record = none) (hi : s.pass.state = .idle) :
    s.agreeing :=
  ⟨by rw [hr]; exact h, State.recordAgrees_iff.2 ⟨fun _ => hr, fun _ => hi⟩⟩

theorem State.softReset_agreeing (s : State) (hs : s.agreeing) : s.softReset.agreeing := by
  obtain ⟨u, hu, hend⟩ := s.softReset_cases
  have hrel := State.releaseMove_agrees (s.resetCheck_kept.agreeing hs).1
  have hown : s.resetCheck.releaseMove.resetOwners.agreeing :=
    State.agreeing_of_idle (hrel.of_slots rfl rfl (.inr rfl)) rfl rfl
  obtain ⟨ha, hr⟩ := hu.agreeing hown
  exact hend.agreeing ⟨ha.of_slots rfl rfl (.inl rfl), hr⟩

theorem State.disarm_agreeing (r : PassRecord) (hs : s.agreeing) : (s.disarm r).agreeing := by
  obtain ⟨u, hu, he⟩ := s.disarm_cases r
  have hrel := State.releaseMove_agrees ((s.withClock_kept s.clock.disarmed).agreeing hs).1
  rw [he]
  exact State.agreeing_of_idle ((hu.agrees _ hrel).of_slots rfl rfl (.inr rfl)) rfl rfl

/-- PASS_ARM on a READY move that is no target of the edit unit, the pass IDLE. -/
theorem State.arm_agreeing {r : PassRecord} {m : Move} (hi : s.pass.state = .idle)
    (ht : s.isTarget r.slot = false) (hm : s.move r.slot = some m) (hst : m.state = .ready) (hs : s.agreeing) :
    (s.arm r).agreeing := by
  obtain ⟨u, hu, he⟩ := s.arm_cases r
  obtain ⟨ha, hr⟩ := hs
  rw [State.recordAgrees_iff.1 hr |>.1 hi] at ha
  have hslot : s.stateOf r.slot = some .ready := State.stateOf_eq_some.2 ⟨m, hm, hst⟩
  have hon : ∀ n, (s.onMove r.slot (fun m => { m with state := .bound })).stateOf n =
      if n = r.slot then some .bound else s.stateOf n := by
    intro n
    rw [State.onMove_stateOf]
    split
    · next e => subst e; rw [hm]; rfl
    · rfl
  have hbound : (s.onMove r.slot (fun m => { m with state := .bound })).Agrees (some r.slot) := by
    refine ⟨fun n => ?_, fun n => ?_, fun n hn => ?_⟩
    · rw [hon]
      split
      · next e => simp [e]
      · next e => simp [ha.bound n, Ne.symm e]
    · rw [hon, State.onMove_check, ← ha.checking n]
      split
      · next e => simp [e, hslot]
      · rfl
    · rw [State.onMove_edit] at hn
      have hne : n ≠ r.slot := by
        rintro rfl
        obtain ⟨x, hx, hop⟩ := Option.map_eq_some_iff.1 hn
        simp [State.isTarget, hx, hop, EditOp.targets] at ht
      rw [hon, if_neg hne]
      exact ha.retire n hn
  rw [he]
  refine ⟨(hu.agrees _ hbound).of_slots rfl rfl (.inr rfl), State.recordAgrees_iff.2 ?_⟩
  simp [State.withPass]

theorem State.hardReset_agreeing (s : State) : s.hardReset.agreeing := by
  obtain ⟨-, -, he, hc, hp⟩ := s.hardReset_store
  have hst : ∀ n, s.hardReset.stateOf n = none := fun n => by simp [State.stateOf, s.hardReset_move n]
  refine State.agreeing_of_idle ⟨fun n => ?_, fun n => ?_, fun n hn => ?_⟩ (by rw [hp]; rfl) (by rw [hp]; rfl)
  · simp [hst]
  · simp [hst, hc]
  · rw [he] at hn
    cases hn

theorem State.agreeing_invariant : StoreInvariant State.agreeing where
  kept h := h.agreeing
  edit := EditEffect.agreeing
  complete := State.completeOp_agreeing
  softReset _ := State.softReset_agreeing _
  arm := State.arm_agreeing
  disarm _ := State.disarm_agreeing _
  hardReset := State.hardReset_agreeing

/-- Settles O51. Each operation on the store, the pass record or the check engine writes the move and its holder
together, and the steps are made of these. -/
theorem boundAndCheckingAgreeWithTheirHolders : Obligations.BoundAndCheckingAgreeWithTheirHolders :=
  fun _ _ hd hr hs => State.agreeing_iff.1 (State.agreeing_invariant.step hs (State.agreeing_iff.2 ⟨hd, hr⟩))

end Sys2Proof.Machine
end

section
/-! SUPPORT. Every track stays in frame order, inside its span, of at most 2,048 keys (R3, R6, R35, R36). -/

namespace Sys2Proof.Machine

variable {s t : State}

/-! ### Frames in order -/

theorem increasing_iff {l : List Nat} : increasing l = true ↔ l.Pairwise (· < ·) := by
  rw [← List.isChain_iff_pairwise]
  induction l with
  | nil => simp [increasing]
  | cons a l ih =>
    cases l with
    | nil => simp [increasing]
    | cons b l => simp [increasing, ← ih]

/-- A frame joins a list of frames as a key joins a track (R6). -/
def insertFrame (f : Nat) : List Nat → List Nat
  | [] => [f]
  | x :: xs => if f < x then f :: x :: xs else if f = x then f :: xs else x :: insertFrame f xs

theorem insertAxisKey_frames (k : AxisKey) (xs : List AxisKey) :
    (insertAxisKey k xs).map (·.frame) = insertFrame k.frame (xs.map (·.frame)) := by
  induction xs with
  | nil => rfl
  | cons x xs ih =>
    simp only [insertAxisKey, insertFrame, List.map_cons]
    split
    · rfl
    · split
      · rfl
      · rw [List.map_cons, ih]

theorem insertSpeedKey_frames (k : SpeedKey) (xs : List SpeedKey) :
    (insertSpeedKey k xs).map (·.frame) = insertFrame k.frame (xs.map (·.frame)) := by
  induction xs with
  | nil => rfl
  | cons x xs ih =>
    simp only [insertSpeedKey, insertFrame, List.map_cons]
    split
    · rfl
    · split
      · rfl
      · rw [List.map_cons, ih]

theorem mem_insertFrame {f g : Nat} {l : List Nat} (h : g ∈ insertFrame f l) : g = f ∨ g ∈ l := by
  induction l with
  | nil => exact .inl (List.mem_singleton.1 h)
  | cons x xs ih =>
    unfold insertFrame at h
    split at h
    · exact List.mem_cons.1 h
    · split at h
      · next hx => exact .inr (hx ▸ h)
      · rcases List.mem_cons.1 h with rfl | h
        · exact .inr (List.mem_cons_self ..)
        · exact (ih h).imp id (List.mem_cons_of_mem _)

theorem insertFrame_pairwise (f : Nat) {l : List Nat} (h : l.Pairwise (· < ·)) :
    (insertFrame f l).Pairwise (· < ·) := by
  induction l with
  | nil => exact List.pairwise_singleton _ _
  | cons x xs ih =>
    obtain ⟨hx, hxs⟩ := List.pairwise_cons.1 h
    unfold insertFrame
    split
    · next hlt =>
      refine List.pairwise_cons.2 ⟨fun g hg => ?_, h⟩
      rcases List.mem_cons.1 hg with rfl | hg
      · exact hlt
      · exact Nat.lt_trans hlt (hx g hg)
    · split
      · next he => exact he ▸ h
      · next hne he =>
        refine List.pairwise_cons.2 ⟨fun g hg => ?_, ih hxs⟩
        rcases mem_insertFrame hg with rfl | hg
        · omega
        · exact hx g hg

theorem foldl_map_of_map {α β γ : Type} {step : List α → β → List α} {g : α → γ} {h : β → γ}
    {step' : List γ → γ → List γ} (hs : ∀ l b, (step l b).map g = step' (l.map g) (h b)) (bs : List β)
    (l : List α) : (bs.foldl step l).map g = (bs.map h).foldl step' (l.map g) := by
  induction bs generalizing l with
  | nil => rfl
  | cons b bs ih => rw [List.foldl_cons, ih, hs, List.map_cons, List.foldl_cons]

/-- The frames of a track into which a block's frames are merged. -/
def mergeFrames (fs block : List Nat) : List Nat := block.foldl (fun l f => insertFrame f l) fs

theorem mergeFrames_pairwise {fs block : List Nat} (h : fs.Pairwise (· < ·)) :
    (mergeFrames fs block).Pairwise (· < ·) := by
  induction block generalizing fs with
  | nil => exact h
  | cons f block ih => exact ih (insertFrame_pairwise f h)

theorem mem_mergeFrames {fs block : List Nat} {g : Nat} (h : g ∈ mergeFrames fs block) : g ∈ fs ∨ g ∈ block := by
  induction block generalizing fs with
  | nil => exact .inl h
  | cons f block ih =>
    rcases ih h with h | h
    · rcases mem_insertFrame h with rfl | h
      · exact .inr (List.mem_cons_self ..)
      · exact .inl h
    · exact .inr (List.mem_cons_of_mem _ h)

/-! ### Tracks of a move -/

/-- One track in order, inside the span, of at most 2,048 keys. -/
def Move.trackSound (m : Move) (tr : TrackId) : Prop :=
  (m.frames tr).Pairwise (· < ·) ∧ (∀ f ∈ m.frames tr, m.first ≤ f ∧ f ≤ m.last) ∧ m.keyCount tr ≤ 2048

theorem Move.tracksSound_iff {m : Move} :
    m.tracksSound = true ↔ spanOk m.first m.last = true ∧ ∀ tr, m.trackSound tr := by
  simp only [Move.tracksSound, Move.trackSound, spanOk, Bool.and_eq_true, List.all_eq_true, increasing_iff,
    framesWithin_iff, decide_eq_true_eq, and_assoc]
  exact and_congr_right fun _ => and_congr_right fun _ => ⟨fun h tr => h tr (mem_allTracks tr), fun h tr _ => h tr⟩

theorem Move.trackSound_congr {m k : Move} {tr : TrackId} (hf : k.frames tr = m.frames tr)
    (hc : k.keyCount tr = m.keyCount tr) (h1 : k.first = m.first) (h2 : k.last = m.last) (h : m.trackSound tr) :
    k.trackSound tr := by
  unfold Move.trackSound at *
  rwa [hf, hc, h1, h2]

theorem Move.frames_of_core {m k : Move} (h : k.core = m.core) (tr : TrackId) : k.frames tr = m.frames tr := by
  have hx : ∀ x : Move, x.frames tr = x.core.frames tr := fun x => by cases tr <;> rfl
  rw [hx k, hx m, h]

theorem Move.tracksSound_of_core {m k : Move} (h : k.core = m.core) (hm : m.tracksSound = true) :
    k.tracksSound = true := by
  obtain ⟨h1, h2⟩ := Move.span_of_core h
  rw [Move.tracksSound_iff] at hm ⊢
  exact ⟨by rw [h1, h2]; exact hm.1, fun tr =>
    Move.trackSound_congr (Move.frames_of_core h tr) (Move.keyCount_of_core h tr) h1 h2 (hm.2 tr)⟩

/-- The keys of one move under the span of another: tracks and span decide. -/
theorem Move.tracksSound_of_tracks {m k : Move} (ha : k.axisTracks = m.axisTracks)
    (hsp : k.speedTrack = m.speedTrack) (h1 : k.first = m.first) (h2 : k.last = m.last)
    (hm : m.tracksSound = true) : k.tracksSound = true := by
  rw [Move.tracksSound_iff] at hm ⊢
  refine ⟨by rw [h1, h2]; exact hm.1, fun tr => Move.trackSound_congr ?_ ?_ h1 h2 (hm.2 tr)⟩
  · cases tr with
    | axis a => simp only [Move.frames, Move.axisTrack, ha]
    | speed => simp only [Move.frames, hsp]
  · cases tr with
    | axis a => simp only [Move.keyCount, Move.axisTrack, ha]
    | speed => simp only [Move.keyCount, hsp]

theorem Move.fresh_tracksSound (label : List Byte) {first last : Nat} (h : spanOk first last = true) :
    (Move.fresh label first last).tracksSound = true := by
  have hf : ∀ tr, (Move.fresh label first last).frames tr = [] := by
    intro tr
    cases tr with
    | axis a => simp [Move.frames, Move.axisTrack, Move.fresh]
    | speed => rfl
  have hc : ∀ tr, (Move.fresh label first last).keyCount tr = 0 := by
    intro tr
    cases tr with
    | axis a => simp [Move.keyCount, Move.axisTrack, Move.fresh]
    | speed => rfl
  refine Move.tracksSound_iff.2 ⟨h, fun tr => ?_⟩
  simp [Move.trackSound, hf, hc]

/-- No key lies outside a span. -/
theorem Move.frames_of_outside {m : Move} {first last : Nat} (h : m.outside first last = none) (tr : TrackId) :
    ∀ f ∈ m.frames tr, first ≤ f ∧ f ≤ last := by
  intro f hf
  have htr := (List.findSome?_eq_none_iff.1 h) tr (mem_allTracks tr)
  rw [Option.map_eq_none_iff, List.find?_eq_none] at htr
  have := htr f hf
  simp only [decide_eq_true_eq, not_or, not_lt] at this
  exact this

theorem Move.Altered.tracksSound {m k : Move} (h : m.Altered k) (hm : m.tracksSound = true) :
    k.tracksSound = true := by
  rcases h.span with ⟨h1, h2⟩ | ⟨hspan, hout⟩
  · exact Move.tracksSound_of_tracks h.axisTracks h.speedTrack h1 h2 hm
  · rw [Move.tracksSound_iff] at hm ⊢
    refine ⟨hspan, fun tr => ?_⟩
    have hf : k.frames tr = m.frames tr := by
      cases tr with
      | axis a => simp only [Move.frames, Move.axisTrack, h.axisTracks]
      | speed => simp only [Move.frames, h.speedTrack]
    have hc : k.keyCount tr = m.keyCount tr := by
      cases tr with
      | axis a => simp only [Move.keyCount, Move.axisTrack, h.axisTracks]
      | speed => simp only [Move.keyCount, h.speedTrack]
    unfold Move.trackSound
    rw [hf, hc]
    exact ⟨(hm.2 tr).1, Move.frames_of_outside hout tr, (hm.2 tr).2.2⟩

/-! ### Merging and removing keys -/

theorem Move.merge_span (m : Move) (tr : TrackId) (ks : BlockKeys) :
    (m.merge tr ks).first = m.first ∧ (m.merge tr ks).last = m.last := by
  cases tr <;> cases ks <;> exact ⟨rfl, rfl⟩

/-- The frames of the track that takes the block: merged ones, or, where kinds differ, its own. -/
theorem Move.merge_frames (m : Move) (tr : TrackId) (ks : BlockKeys) :
    (m.merge tr ks).frames tr = mergeFrames (m.frames tr) ks.frames ∨
      (m.merge tr ks).frames tr = m.frames tr := by
  unfold Move.merge
  split
  · left
    simp only [Move.frames, Move.setAxisTrack_axisTrack, if_true]
    exact foldl_map_of_map (fun l k => insertAxisKey_frames k l) _ _
  · left
    exact foldl_map_of_map (fun l k => insertSpeedKey_frames k l) _ _
  · exact .inr rfl
  · exact .inr rfl

theorem Move.merge_frames_ne (m : Move) (tr : TrackId) (ks : BlockKeys) {u : TrackId} (hu : u ≠ tr) :
    (m.merge tr ks).frames u = m.frames u := by
  unfold Move.merge
  split
  · cases u with
    | axis b =>
      have : b ≠ _ := fun e => hu (congrArg TrackId.axis e)
      simp only [Move.frames, Move.setAxisTrack_axisTrack, if_neg this]
    | speed => rfl
  · cases u with
    | axis b => rfl
    | speed => exact absurd rfl hu
  · rfl
  · rfl

theorem Move.merge_tracksSound {m : Move} {tr : TrackId} {ks : BlockKeys} (hm : m.tracksSound = true)
    (hin : framesWithin m.first m.last ks.frames = true) (hc : (m.merge tr ks).keyCount tr ≤ 2048) :
    (m.merge tr ks).tracksSound = true := by
  obtain ⟨h1, h2⟩ := m.merge_span tr ks
  rw [Move.tracksSound_iff] at hm ⊢
  refine ⟨by rw [h1, h2]; exact hm.1, fun u => ?_⟩
  obtain ⟨hord, hspan, hcount⟩ := hm.2 u
  by_cases hu : u = tr
  · subst hu
    unfold Move.trackSound
    rw [h1, h2]
    rcases m.merge_frames u ks with hf | hf
    · rw [hf]
      refine ⟨mergeFrames_pairwise hord, fun f hf' => ?_, hc⟩
      exact (mem_mergeFrames hf').elim (hspan f) (framesWithin_iff.1 hin f)
    · rw [hf]
      exact ⟨hord, hspan, hc⟩
  · exact Move.trackSound_congr (m.merge_frames_ne tr ks hu) (m.merge_keyCount_ne tr ks hu) h1 h2
      ⟨hord, hspan, hcount⟩

theorem Move.keep_span (m : Move) (tr : TrackId) (f : Nat → Bool) :
    (m.keep tr f).first = m.first ∧ (m.keep tr f).last = m.last := by
  cases tr <;> exact ⟨rfl, rfl⟩

theorem Move.keep_frames_sublist (m : Move) (tr : TrackId) (f : Nat → Bool) (u : TrackId) :
    List.Sublist ((m.keep tr f).frames u) (m.frames u) := by
  unfold Move.keep
  split
  · next a =>
    cases u with
    | axis b =>
      simp only [Move.frames, Move.setAxisTrack_axisTrack]
      split
      · next e => subst e; exact List.Sublist.map _ List.filter_sublist
      · exact List.Sublist.refl _
    | speed => exact List.Sublist.refl _
  · cases u with
    | axis b => exact List.Sublist.refl _
    | speed => exact List.Sublist.map _ List.filter_sublist

theorem Move.keep_tracksSound {m : Move} (tr : TrackId) (f : Nat → Bool) (hm : m.tracksSound = true) :
    (m.keep tr f).tracksSound = true := by
  obtain ⟨h1, h2⟩ := m.keep_span tr f
  rw [Move.tracksSound_iff] at hm ⊢
  refine ⟨by rw [h1, h2]; exact hm.1, fun u => ?_⟩
  obtain ⟨hord, hspan, hcount⟩ := hm.2 u
  have hsub := m.keep_frames_sublist tr f u
  unfold Move.trackSound
  rw [h1, h2]
  exact ⟨hord.sublist hsub, fun g hg => hspan g (hsub.subset hg), (m.keep_keyCount tr f u).1.trans hcount⟩

/-! ### Tracks of the store -/

/-- Every move of the store has sound tracks. -/
def State.movesSound (s : State) : Prop := ∀ n m, s.move n = some m → m.tracksSound = true

/-- What an operation in progress will write stays sound. -/
def State.SoundOp (s : State) : EditOp → Prop
  | .dataBlock slot tr ks => ∀ m, s.move slot = some m → increasing ks.frames = true ∧
      framesWithin m.first m.last ks.frames = true ∧ (m.merge tr ks).keyCount tr ≤ 2048
  | .moveCopy src dst => ∀ m d, s.move src = some m → s.move dst = some d →
      m.first = d.first ∧ m.last = d.last
  | .keyDrop _ _ _ _ | .trackClear _ _ | .moveRetire _ => True

theorem State.opSound_iff : s.opSound = true ↔ ∀ op, s.edit.map (·.op) = some op → s.SoundOp op := by
  unfold State.opSound
  cases s.edit with
  | none => simp
  | some r =>
    simp only [Option.map_some, Option.some.injEq, forall_eq']
    cases r.op with
    | dataBlock slot tr ks => cases hm : s.move slot <;> simp [State.SoundOp, hm, and_assoc]
    | moveCopy src dst => cases hm : s.move src <;> cases hd : s.move dst <;> simp [State.SoundOp, hm, hd]
    | keyDrop slot tr first last => simp [State.SoundOp]
    | trackClear slot tr => simp [State.SoundOp]
    | moveRetire slot => simp [State.SoundOp]

theorem State.tracksSound_iff : s.tracksSound = true ↔ s.movesSound ∧ s.opSound = true := by
  unfold State.tracksSound State.movesSound
  rw [Bool.and_eq_true, List.all_eq_true]
  refine and_congr_left fun _ => ⟨fun h n m hm => ?_, fun h n _ => ?_⟩
  · have := h n (mem_allSlots.2 (s.move_bounds hm))
    rwa [hm] at this
  · cases hm : s.move n with
    | none => rfl
    | some m => exact h n m hm

theorem State.opSound_of_none (h : s.edit = none) : s.opSound = true := by
  unfold State.opSound; rw [h]

theorem MovesKept.movesSound (h : MovesKept s t) (hs : s.movesSound) : t.movesSound := by
  intro n k hk
  obtain ⟨m, hm, hc⟩ := h.some_of hk
  exact Move.tracksSound_of_core hc (hs n m hm)

theorem MovesKept.soundOp (h : MovesKept s t) {op : EditOp} (hs : s.SoundOp op) : t.SoundOp op := by
  cases op with
  | dataBlock slot tr ks =>
    intro k hk
    obtain ⟨m, hm, hc⟩ := h.some_of hk
    obtain ⟨h1, h2⟩ := Move.span_of_core hc
    rw [h1, h2, Move.keyCount_of_core (Move.merge_of_core hc tr ks)]
    exact hs m hm
  | moveCopy src dst =>
    intro k d hk hd
    obtain ⟨m, hm, hc⟩ := h.some_of hk
    obtain ⟨e, he, hc'⟩ := h.some_of hd
    obtain ⟨h1, h2⟩ := Move.span_of_core hc
    obtain ⟨h3, h4⟩ := Move.span_of_core hc'
    rw [h1, h2, h3, h4]
    exact hs m e hm he
  | keyDrop slot tr first last => trivial
  | trackClear slot tr => trivial
  | moveRetire slot => trivial

theorem MovesKept.tracksSound (h : MovesKept s t)
    (he : t.edit = none ∨ t.edit.map (·.op) = s.edit.map (·.op)) (hs : s.tracksSound = true) :
    t.tracksSound = true := by
  rw [State.tracksSound_iff] at hs ⊢
  refine ⟨h.movesSound hs.1, ?_⟩
  rcases he with he | he
  · exact State.opSound_of_none he
  · rw [State.opSound_iff, he]
    exact fun op hop => h.soundOp (State.opSound_iff.1 hs.2 op hop)

/-- A slot takes a move with sound tracks. -/
theorem State.setMove_movesSound {n : Nat} (hn : 1 ≤ n ∧ n ≤ 64) {k : Move} (hk : k.tracksSound = true)
    (hs : s.movesSound) : (s.setMove n (some k)).movesSound := by
  intro i m hm
  by_cases hi : i = n
  · subst hi
    rw [s.setMove_move hn.1 hn.2] at hm
    cases hm
    exact hk
  · rw [s.setMove_move_ne hi] at hm
    exact hs i m hm

theorem State.soundOp_of_ready {m : Move} {op : EditOp} (hm : s.move op.changes = some m)
    (hr : s.OpReady m op) : s.SoundOp op := by
  cases op with
  | dataBlock slot tr ks =>
    intro k hk
    rw [show s.move slot = some m from hm] at hk
    cases hk
    obtain ⟨hinc, hin, hfull⟩ := hr
    simp only [Move.tooFull, decide_eq_false_iff_not, not_or, not_lt] at hfull
    exact ⟨hinc, hin, hfull.1⟩
  | moveCopy src dst => exact hr.elim
  | keyDrop slot tr first last => trivial
  | trackClear slot tr => trivial
  | moveRetire slot => trivial

theorem EditEffect.tracksSound {c : Option EditCmd} (he : s.edit = none) (h : EditEffect s c t)
    (hs : s.tracksSound = true) : t.tracksSound = true := by
  have hsm := (State.tracksSound_iff.1 hs).1
  have hset : ∀ {u v : State} (n : Nat) (k : Move), StoreKept s u → 1 ≤ n ∧ n ≤ 64 → k.tracksSound = true →
      StoreKept (u.setMove n (some k)) v → v.movesSound ∧ v.opSound = true := by
    intro u v n k hu hn hk hv
    have hev : v.edit = none := hv.edit_none (by rw [State.setMove_edit]; exact hu.edit_none he)
    exact ⟨hv.toMovesKept.movesSound (State.setMove_movesSound hn hk (hu.toMovesKept.movesSound hsm)),
      State.opSound_of_none hev⟩
  cases h with
  | kept h => exact h.toMovesKept.tracksSound (.inr h.op) hs
  | created n label first last hn hm hsp ht =>
    exact State.tracksSound_iff.2 (hset n _ (.refl s) hn (Move.fresh_tracksSound label hsp) ht)
  | altered n m k hu hm hh hk ht =>
    exact State.tracksSound_iff.2 (hset n k hu (State.move_bounds _ hm)
      (hk.tracksSound (hu.toMovesKept.movesSound hsm n m hm)) ht)
  | guarded n m b g hm hb ht =>
    refine State.tracksSound_iff.2 (hset n _ (.refl s) (State.move_bounds _ hm) ?_ ht)
    exact Move.tracksSound_of_tracks (m := m) rfl rfl rfl rfl (hsm n m hm)
  | begun r m hu hm hh hr =>
    exact State.tracksSound_iff.2 ⟨hu.toMovesKept.movesSound hsm,
      State.opSound_iff.2 (fun op hop => Option.some.inj hop ▸ State.soundOp_of_ready hm hr)⟩
  | copies r src dst m hop hn hm hd hb hu =>
    have hspan : spanOk m.first m.last = true := (Move.tracksSound_iff.1 (hsm src m hm)).1
    obtain ⟨hmoves, -⟩ := hset dst _ (.refl s) hn (Move.fresh_tracksSound m.label hspan) hu
    refine State.tracksSound_iff.2 ⟨hmoves, State.opSound_iff.2 (fun op hop' => ?_)⟩
    have hop'' : op = .moveCopy src dst := (Option.some.inj hop').symm.trans hop
    rw [hop'']
    have hsound : (s.setMove dst (some (Move.fresh m.label m.first m.last))).SoundOp (.moveCopy src dst) := by
      intro k d hk hd'
      rw [State.setMove_move_ne _ (fun e => by rw [e, hd] at hm; cases hm), hm] at hk
      rw [State.setMove_move _ hn.1 hn.2] at hd'
      cases hk
      cases hd'
      exact ⟨rfl, rfl⟩
    exact (hu.toMovesKept.trans (.of_slots rfl rfl)).soundOp hsound

/-! ### The ends of the operations -/

theorem State.movesSound_congr (h : t.slots = s.slots) (hs : s.movesSound) : t.movesSound :=
  fun n m hm => hs n m (by rwa [State.move_congr h] at hm)

theorem State.rewrite_movesSound {slot : Nat} {m n : Move} (hm : s.move slot = some m)
    (hn : n.tracksSound = true) (hs : s.movesSound) : (s.rewrite slot m n).movesSound :=
  State.movesSound_congr (s.rewrite_slots slot m n)
    (State.setMove_movesSound (s.move_bounds hm) (Move.tracksSound_of_core (m := n) rfl hn) hs)

theorem State.remove_movesSound (slot : Nat) (tr : TrackId) (f : Nat → Bool) (hs : s.movesSound) :
    (s.remove slot tr f).movesSound := by
  unfold State.remove
  split
  · exact hs
  · next m hm =>
    split
    · exact State.rewrite_movesSound hm (Move.keep_tracksSound tr _ (hs slot m hm)) hs
    · exact hs

theorem State.endBlock_movesSound {l : LinkId} {slot : Nat} {tr : TrackId} {ks : BlockKeys}
    (hop : s.SoundOp (.dataBlock slot tr ks)) (hs : s.movesSound) : (s.endBlock l slot tr ks).movesSound := by
  refine (State.onLink_kept _ l _).toMovesKept.movesSound ?_
  split
  · next m hm =>
    obtain ⟨-, hin, hc⟩ := hop m hm
    exact State.rewrite_movesSound hm (Move.merge_tracksSound (hs slot m hm) hin hc) hs
  · exact hs

theorem State.endCopy_movesSound {src dst : Nat} (hop : s.SoundOp (.moveCopy src dst)) (hs : s.movesSound) :
    (s.endCopy src dst).movesSound := by
  rcases s.endCopy_cases src dst with h | ⟨m, d, hm, hd, hslots, -, -⟩
  · rwa [h]
  · obtain ⟨h1, h2⟩ := hop m d hm hd
    refine State.movesSound_congr hslots (State.setMove_movesSound (s.move_bounds hd) ?_ hs)
    exact Move.tracksSound_of_tracks (m := m) rfl rfl h1.symm h2.symm (hs src m hm)

theorem State.endRetire_movesSound (slot : Nat) (hs : s.movesSound) : (s.endRetire slot).movesSound := by
  have hslots : (s.endRetire slot).slots = (s.setMove slot none).slots := by unfold State.endRetire; rfl
  intro n m hm
  rw [State.move_congr hslots] at hm
  by_cases hn : n = slot
  · subst hn
    have hb := State.move_bounds _ hm
    rw [s.setMove_move hb.1 hb.2] at hm
    cases hm
  · rw [s.setMove_move_ne hn] at hm
    exact hs n m hm

theorem State.completeOp_tracksSound {r : EditRun} (he : s.edit = some r) (hs : s.tracksSound = true) :
    (s.completeOp r).tracksSound = true := by
  obtain ⟨hmoves, hop⟩ := State.tracksSound_iff.1 hs
  have hr : s.SoundOp r.op := State.opSound_iff.1 hop _ (by rw [he]; rfl)
  refine State.tracksSound_iff.2 ⟨?_, State.opSound_of_none rfl⟩
  refine State.movesSound_congr (s := s.applyOp r) rfl ?_
  unfold State.applyOp
  split
  · next hop => exact State.endBlock_movesSound (hop ▸ hr) hmoves
  · exact State.remove_movesSound _ _ _ hmoves
  · exact State.remove_movesSound _ _ _ hmoves
  · next hop => exact State.endCopy_movesSound (hop ▸ hr) hmoves
  · exact State.endRetire_movesSound _ hmoves

theorem State.hardReset_tracksSound (s : State) : s.hardReset.tracksSound = true := by
  refine State.tracksSound_iff.2 ⟨fun n m hm => ?_, State.opSound_of_none s.hardReset_store.2.2.1⟩
  rw [s.hardReset_move] at hm
  cases hm

theorem State.tracksSound_invariant : StoreInvariant (fun s => s.tracksSound = true) :=
  .of_content MovesKept.tracksSound EditEffect.tracksSound State.completeOp_tracksSound
    State.hardReset_tracksSound

/-- Settles O53. A merge keeps frames in order and a removal takes a part of them; spans change only where no key
lies outside. -/
theorem tracksStaySound : Obligations.TracksStaySound :=
  fun _ _ h hs => State.tracksSound_invariant.step hs h

end Sys2Proof.Machine
end

section
/-! SUPPORT. Held moves keep their content (R11, R13, R26): the edit unit, IDLE or at the end of an operation, works
on one slot, whose move is not held against change but for the protection itself. -/

namespace Sys2Proof.Machine

variable {s t u : State} {n i : Nat} {m : Move}

/-! ### The operation in progress works on no held move -/

/-- The operation in progress changes no move that is held against change. -/
def State.sparesHeld (s : State) : Prop :=
  ∀ op, s.edit.map (·.op) = some op → ∀ m, s.move op.changes = some m → m.heldFast = false

theorem State.opSparesHeld_iff : s.opSparesHeld = true ↔ s.sparesHeld := by
  unfold State.opSparesHeld State.sparesHeld
  cases s.edit with
  | none => simp
  | some r => cases hm : s.move r.op.changes <;> simp [hm]

theorem State.sparesHeld_of_none (h : s.edit = none) : s.sparesHeld := by simp [State.sparesHeld, h]

/-- The operation is as it was, and the move it changes does not become BOUND. -/
theorem MovesKept.sparesHeld (h : MovesKept s t) (he : t.edit.map (·.op) = s.edit.map (·.op))
    (hb : ∀ op, s.edit.map (·.op) = some op →
      t.stateOf op.changes = some .bound → s.stateOf op.changes = some .bound)
    (hs : s.sparesHeld) : t.sparesHeld := by
  intro op hop k hk
  rw [he] at hop
  obtain ⟨m, hm, hc⟩ := h.some_of hk
  refine Move.heldFast_of_core hc (fun hst => ?_) (hs op hop m hm)
  obtain ⟨m', hm', hst'⟩ := State.stateOf_eq_some.1 (hb op hop (State.stateOf_eq_some.2 ⟨k, hk, hst⟩))
  rw [hm] at hm'
  cases hm'
  exact hst'

theorem StoreKept.sparesHeld (h : StoreKept s t) (hs : s.sparesHeld) : t.sparesHeld :=
  h.toMovesKept.sparesHeld h.op (fun op _ => h.bound op.changes) hs

theorem EditOp.changes_mem_targets (op : EditOp) : op.changes ∈ op.targets := by
  cases op <;> simp [EditOp.changes, EditOp.targets]

/-- The operation in progress does not change the move that PASS_ARM binds. -/
theorem State.arm_sparesHeld {r : PassRecord} (ht : s.isTarget r.slot = false) (hs : s.sparesHeld) :
    (s.arm r).sparesHeld := by
  refine (s.arm_movesKept r).sparesHeld (s.arm_op r) (fun op hop hb => ?_) hs
  have hne : op.changes ≠ r.slot := by
    intro e
    obtain ⟨x, hx, rfl⟩ := Option.map_eq_some_iff.1 hop
    simp only [State.isTarget, hx, List.contains_eq_mem, decide_eq_false_iff_not] at ht
    exact ht (e ▸ x.op.changes_mem_targets)
  obtain ⟨u, hu, he⟩ := s.arm_cases r
  rw [he] at hb
  have hb' := hu.bound op.changes hb
  rwa [State.onMove_stateOf, if_neg hne] at hb'

theorem State.releaseMove_bound (h : s.releaseMove.stateOf n = some .bound) : s.stateOf n = some .bound := by
  unfold State.releaseMove at h
  split at h
  · exact h
  · rw [State.onMove_stateOf] at h
    split at h
    · obtain ⟨m, -, hm⟩ := Option.map_eq_some_iff.1 h
      exact absurd hm m.release_state.1
    · exact h

theorem State.disarm_sparesHeld (r : PassRecord) (hs : s.sparesHeld) : (s.disarm r).sparesHeld := by
  refine (s.disarm_movesKept r).sparesHeld (s.disarm_op r) (fun op _ hb => ?_) hs
  obtain ⟨u, hu, he⟩ := s.disarm_cases r
  rw [he] at hb
  exact State.releaseMove_bound (s := s.withClock s.clock.disarmed) (hu.bound op.changes hb)

theorem EditEffect.sparesHeld {c : Option EditCmd} (he : s.edit = none) (h : EditEffect s c t)
    (hs : s.sparesHeld) : t.sparesHeld := by
  cases h with
  | kept h => exact h.sparesHeld hs
  | created n label first last hn hm hsp ht =>
    exact State.sparesHeld_of_none (ht.edit_none (by rw [State.setMove_edit, he]))
  | altered n m k hu hm hh hk ht =>
    exact State.sparesHeld_of_none (ht.edit_none (by rw [State.setMove_edit, hu.edit_none he]))
  | guarded n m b g hm hb ht =>
    exact State.sparesHeld_of_none (ht.edit_none (by rw [State.setMove_edit, he]))
  | begun r m hu hm hh hr =>
    intro op hop k hk
    cases hop
    cases hm.symm.trans hk
    exact hh
  | copies r src dst m hop hn hm hd hb hu =>
    obtain ⟨k, hk, -, hkh⟩ := hu.move_notHeld (State.setMove_move _ hn.1 hn.2 _)
      (show (Move.fresh m.label m.first m.last).heldFast = false from rfl)
    intro op hop' k' hk'
    cases (Option.some.inj hop').symm.trans hop
    cases hk.symm.trans hk'
    exact hkh

theorem State.sparesHeld_invariant : StoreInvariant State.sparesHeld where
  kept h := h.sparesHeld
  edit := EditEffect.sparesHeld
  complete _ _ := State.sparesHeld_of_none rfl
  softReset _ _ := State.sparesHeld_of_none (State.softReset_edit _)
  arm _ ht _ _ := State.arm_sparesHeld ht
  disarm _ := State.disarm_sparesHeld _
  hardReset s := State.sparesHeld_of_none s.hardReset_store.2.2.1

/-! ### A slot whose move is held -/

theorem Move.sameContent_iff {m k : Move} : m.sameContent k = true ↔
    m.first = k.first ∧ m.last = k.last ∧ m.label = k.label ∧ m.axisTracks = k.axisTracks ∧
      m.speedTrack = k.speedTrack := by
  simp [Move.sameContent]

theorem Move.sameContent_trans {m k j : Move} (h : m.sameContent k = true) (h' : k.sameContent j = true) :
    m.sameContent j = true := by
  obtain ⟨h1, h2, h3, h4, h5⟩ := Move.sameContent_iff.1 h
  obtain ⟨h1', h2', h3', h4', h5'⟩ := Move.sameContent_iff.1 h'
  exact Move.sameContent_iff.2
    ⟨h1.trans h1', h2.trans h2', h3.trans h3', h4.trans h4', h5.trans h5'⟩

/-- The slot holds a move of the content of `m`. -/
def State.Contains (s : State) (n : Nat) (m : Move) : Prop :=
  ∃ k, s.move n = some k ∧ m.sameContent k = true

/-- The slot holds a move of the content of `m` that is BOUND, or protected while no MOVE_UNPROTECT of it waits. -/
def State.Secures (s : State) (n : Nat) (m : Move) : Prop :=
  ∃ k, s.move n = some k ∧ m.sameContent k = true ∧
    (k.state = .bound ∨
      k.isProtected = true ∧ ∀ l e, (s.link l).held ≠ some (.command (.moveUnprotect n e)))

theorem State.Secures.contains (h : s.Secures n m) : s.Contains n m := by
  obtain ⟨k, hk, hc, -⟩ := h
  exact ⟨k, hk, hc⟩

theorem State.Secures.not_loose (h : s.Secures n m) : ¬ s.Loose n := by
  obtain ⟨k, hk, -, hh⟩ := h
  rintro ⟨k', hk', hl⟩
  cases hk.symm.trans hk'
  simp only [Move.heldFast, Bool.or_eq_false_iff, decide_eq_false_iff_not] at hl
  rcases hh with hb | ⟨hp, -⟩
  · exact hl.1 hb
  · simp [hp] at hl

theorem MovesKept.contains (h : MovesKept s t) (hs : s.Contains n m) : t.Contains n m := by
  obtain ⟨k, hk, hc⟩ := hs
  obtain ⟨k', hk', hcore⟩ := h.move_some hk
  exact ⟨k', hk', Move.sameContent_trans hc (Move.core_eq_iff.1 hcore).1⟩

/-- Another slot's move may be written. -/
theorem State.OnlySlot.secures (h : State.OnlySlot i s t) (hi : n ≠ i) (hs : s.Secures n m) : t.Secures n m := by
  obtain ⟨k, hk, hc, hh⟩ := hs
  refine ⟨k, (h.move n hi).trans hk, hc, hh.imp_right fun ⟨hp, hw⟩ => ⟨hp, fun l e hl => ?_⟩⟩
  exact hw l e (h.held l _ hl)

theorem State.Quiet.secures (h : s.Quiet t) (hs : s.Secures n m) : t.Secures n m :=
  (h.onlySlot (n + 1)).secures (Nat.ne_of_lt n.lt_succ_self) hs

/-! ### What the edit unit does to it -/

/-- Of a held move the edit unit writes nothing but the protection, as a MOVE_PROTECT or a MOVE_UNPROTECT asks. -/
theorem EditEffect.of_secures {c : Option EditCmd} (h : EditEffect s c t) (hs : s.Secures n m) :
    (∃ i, n ≠ i ∧ State.OnlySlot i s t) ∨
    ∃ k b g, s.move n = some k ∧ (b = true ∨ ∃ e, c = some (.moveUnprotect n e)) ∧
      (s.setMove n (some { k with isProtected := b, generation := g })).Quiet t := by
  have hempty : ∀ i, s.move i = none → n ≠ i := by
    rintro i hi rfl
    obtain ⟨k, hk, -⟩ := hs
    rw [hi] at hk
    cases hk
  have hloose : ∀ i, s.Loose i → n ≠ i := by
    rintro i hi rfl
    exact hs.not_loose hi
  have hbegin : ∀ (r : Option EditRun) (u : State), u.Quiet { u with edit := r } := fun _ _ => .of_same rfl rfl rfl
  cases h with
  | kept h hq => exact .inl ⟨n + 1, Nat.ne_of_lt n.lt_succ_self, hq.onlySlot _⟩
  | created i label first last hi hm hsp ht hx => exact .inl ⟨i, hempty i hm, hx⟩
  | altered i m k hu hm hh hk ht hx hl => exact .inl ⟨i, hloose i hl, hx⟩
  | guarded i k b g hm hb ht hx =>
    by_cases hi : n = i
    · subst hi
      exact .inr ⟨k, b, g, hm, hb, hx⟩
    · exact .inl ⟨i, hi, (State.onlySlot_setMove _).quiet hx⟩
  | begun r m hu hm hh hr hx hl => exact .inl ⟨_, hloose _ hl, hx.quiet (hbegin _ _)⟩
  | copies r src dst m hop hi hm hd hb hu hx => exact .inl ⟨dst, hempty dst hd, hx.quiet (hbegin _ _)⟩

theorem EditEffect.contains {c : Option EditCmd} (h : EditEffect s c t) (hs : s.Secures n m) : t.Contains n m := by
  rcases h.of_secures hs with ⟨i, hi, hx⟩ | ⟨k, b, g, hk, -, hq⟩
  · exact (hx.secures hi hs).contains
  · have hn := s.move_bounds hk
    obtain ⟨k', hk', hc, -⟩ := hs
    cases hk.symm.trans hk'
    exact ⟨_, (State.move_congr hq.slots n).trans (s.setMove_move hn.1 hn.2 _), hc⟩

/-- A move stays held but for a MOVE_UNPROTECT of one that is not BOUND. -/
theorem EditEffect.secures {c : Option EditCmd} (h : EditEffect s c t)
    (hc : ∀ e, c = some (.moveUnprotect n e) → s.stateOf n = some .bound) (hs : s.Secures n m) : t.Secures n m := by
  rcases h.of_secures hs with ⟨i, hi, hx⟩ | ⟨k, b, g, hk, hb, hq⟩
  · exact hx.secures hi hs
  · refine hq.secures ?_
    have hn := s.move_bounds hk
    have hlink : ∀ l, ((s.setMove n (some { k with isProtected := b, generation := g })).link l) = s.link l :=
      fun l => s.setMove_link l n _
    obtain ⟨k', hk', hcon, hh⟩ := hs
    cases hk.symm.trans hk'
    refine ⟨_, s.setMove_move hn.1 hn.2 _, hcon, ?_⟩
    simp only [hlink]
    rcases hh with hbound | ⟨-, hw⟩
    · exact .inl hbound
    · rcases hb with htrue | ⟨e, he⟩
      · exact .inr ⟨htrue, hw⟩
      · obtain ⟨x, hx, hst⟩ := State.stateOf_eq_some.1 (hc e he)
        cases hk.symm.trans hx
        exact .inl hst

/-- The arbiter takes an item that waits. A MOVE_UNPROTECT of the slot among them means that its move is BOUND. -/
theorem State.takeWaiting_secures {l : LinkId} (h : s.takeWaiting l = some t) (he : s.edit = none)
    (hs : s.Secures n m) : t.Secures n m := by
  obtain ⟨u, c, hu, hq, -, hc, hheld⟩ := State.takeWaiting_cases h he
  refine hc.secures (fun e hce => ?_) (hq.secures hs)
  obtain ⟨k, hk, -, hh⟩ := hs
  have hbound : k.state = .bound := hh.resolve_right (fun ⟨_, hw⟩ => hw l e (hheld _ hce))
  exact State.stateOf_eq_some.2 ⟨k, (State.move_congr hq.slots n).trans hk, hbound⟩

theorem State.arbitrate_secures (j : Nat) (l : LinkId) (s : State) (hs : s.Secures n m) :
    (s.arbitrate j l).Secures n m := by
  induction j generalizing l s with
  | zero => exact hs
  | succ j ih =>
    unfold State.arbitrate
    split
    · exact hs
    · next he =>
      have he' : s.edit = none := by simpa using he
      split
      · next t ht => exact ih _ _ (State.takeWaiting_secures ht he' hs)
      · split
        · next t ht => exact ih _ _ (State.takeWaiting_secures ht he' hs)
        · exact hs

/-! ### The ends of the operations -/

theorem State.onlySlot_rewrite (m k : Move) : State.OnlySlot n s (s.rewrite n m k) := by
  refine (State.onlySlot_setMove _).quiet (.of_same (s.rewrite_slots n m k) ?_ ?_)
  all_goals
    unfold State.rewrite
    dsimp only

theorem State.onlySlot_remove (tr : TrackId) (f : Nat → Bool) : State.OnlySlot n s (s.remove n tr f) := by
  unfold State.remove
  split
  · exact (State.Quiet.refl s).onlySlot n
  · split
    · exact State.onlySlot_rewrite _ _
    · exact (State.Quiet.refl s).onlySlot n

theorem State.onlySlot_endBlock (l : LinkId) (tr : TrackId) (ks : BlockKeys) :
    State.OnlySlot n s (s.endBlock l n tr ks) := by
  unfold State.endBlock
  dsimp only
  refine State.OnlySlot.quiet ?_ (State.quiet_onLink _ ?_)
  · split
    · exact State.onlySlot_rewrite _ _
    · exact (State.Quiet.refl s).onlySlot n
  · exact fun _ _ h => h

theorem State.onlySlot_endCopy (src : Nat) : State.OnlySlot n s (s.endCopy src n) := by
  unfold State.endCopy
  split
  · next m d _ _ =>
    refine (State.onlySlot_setMove
      (some { d with axisTracks := m.axisTracks, speedTrack := m.speedTrack })).quiet (.of_same ?_ ?_ ?_) <;>
    dsimp only
  · exact (State.Quiet.refl s).onlySlot n

theorem State.onlySlot_endRetire : State.OnlySlot n s (s.endRetire n) := by
  unfold State.endRetire
  refine (State.onlySlot_setMove none).quiet (.of_same ?_ ?_ ?_) <;> dsimp only

theorem State.onlySlot_completeOp (r : EditRun) : State.OnlySlot r.op.changes s (s.completeOp r) := by
  have h : State.OnlySlot r.op.changes s (s.applyOp r) := by
    unfold State.applyOp
    cases r.op with
    | dataBlock slot tr ks => exact State.onlySlot_endBlock _ _ _
    | keyDrop slot tr first last => exact State.onlySlot_remove _ _
    | trackClear slot tr => exact State.onlySlot_remove _ _
    | moveCopy src dst => exact State.onlySlot_endCopy src
    | moveRetire slot => exact State.onlySlot_endRetire
  exact h.quiet (.of_same rfl rfl rfl)

/-- The operation in progress spares the held moves, so that its end does. -/
theorem State.completeOp_secures {r : EditRun} (he : s.edit = some r) (hsp : s.sparesHeld)
    (hs : s.Secures n m) : (s.completeOp r).Secures n m := by
  refine (State.onlySlot_completeOp r).secures ?_ hs
  rintro rfl
  obtain ⟨k, hk, -⟩ := id hs
  exact hs.not_loose ⟨k, hk, hsp r.op (by rw [he]; rfl) k hk⟩

theorem State.finishEdit_contains (hsp : s.sparesHeld) (hs : s.Secures n m) : s.finishEdit.Contains n m := by
  cases he : s.edit with
  | none =>
    unfold State.finishEdit
    rw [he]
    exact hs.contains
  | some r =>
    have hc := State.completeOp_secures he hsp hs
    rcases State.finishEdit_cases he with hf | ⟨u, -, hq, -, hf⟩
    · rw [hf]
      exact (State.softReset_movesKept _).contains hc.contains
    · rw [hf]
      exact (State.arbitrate_secures _ _ _ (hq.secures hc)).contains

/-- Whatever a command other than HARD_RESET does to the store, a held move keeps its content. -/
theorem StoreChange.contains (hc : StoreChange s t) (hsp : s.sparesHeld) (hs : s.Secures n m) :
    t.Contains n m := by
  cases hc with
  | kept h => exact h.toMovesKept.contains hs.contains
  | edit c hu hq he ht => exact ht.contains (hq.secures hs)
  | finish hu hq ht =>
    exact ht.toMovesKept.contains (State.finishEdit_contains (hu.sparesHeld hsp) (hq.secures hs))
  | reset hu he => exact (hu.toMovesKept.trans (State.softReset_movesKept _)).contains hs.contains
  | complete r he =>
    exact (State.softReset_movesKept _).contains (State.completeOp_secures he hsp hs).contains
  | armed r m hu hi hn hm hst ht =>
    exact ((hu.toMovesKept.trans (State.arm_movesKept _ r)).trans ht.toMovesKept).contains hs.contains
  | disarmed r hu hr ht =>
    exact ((hu.toMovesKept.trans (State.disarm_movesKept _ r)).trans ht.toMovesKept).contains hs.contains

theorem step_contains (hs : step s = .next t) (hp : s.pending.head? ≠ some .hardReset) (hsp : s.sparesHeld)
    (hsec : s.Secures n m) : t.Contains n m := by
  unfold Machine.step at hs
  split at hs
  · cases hs
    exact hsec.contains
  · next c rest hpend =>
    have hi : c ≠ .hardReset := by
      rintro rfl
      exact hp (by rw [hpend]; rfl)
    have hq : s.Quiet (s.withPending rest) := .of_same rfl rfl rfl
    obtain ⟨u, hu, hc⟩ := exec_change c hi (s.withPending rest)
    rw [hu] at hs
    cases hs
    exact hc.contains hsp (hq.secures hsec)

/-- Settles O57. The operation in progress never works on a held move, and what the edit unit takes on one is a
MOVE_PROTECT or a MOVE_UNPROTECT, which leaves its content. -/
theorem heldMovesKeepTheirContent : Obligations.HeldMovesKeepTheirContent := by
  intro s t hsp hs
  have hsp' := State.opSparesHeld_iff.1 hsp
  refine ⟨State.opSparesHeld_iff.2 (State.sparesHeld_invariant.step hs hsp'), fun hp n m hm hh => ?_⟩
  exact step_contains hs hp hsp' ⟨m, hm, Move.sameContent_iff.2 ⟨rfl, rfl, rfl, rfl, rfl⟩, hh⟩

end Sys2Proof.Machine
end

section
/-! SUPPORT. The state right after a hard reset (R20): what a hard reset gives of it, and that it meets the
invariants. -/

namespace Sys2Proof.Machine

variable {s : State}

theorem State.reset_axis (a : AxisId) : State.reset.axis a = Axis.reset := by
  unfold State.axis State.reset
  exact Vector.getElem_replicate _

theorem State.reset_move (n : Nat) : State.reset.move n = none := State.move_none_of_empty rfl n

theorem State.reset_link (l : LinkId) : State.reset.link l = Link.reset := by cases l <;> rfl

/-- A hard reset of the state after one gives that state again. -/
theorem State.reset_hardReset : State.reset.hardReset = State.reset := by
  unfold State.hardReset State.afterHardReset
  rw [if_neg (by decide)]
  unfold State.reset
  simp [Axis.hardReset, Axis.reset]

theorem StoreInvariant.reset {P : State → Prop} (h : StoreInvariant P) : P State.reset :=
  State.reset_hardReset ▸ h.hardReset State.reset

theorem State.reset_ownersAgree : State.reset.ownersAgree = true := by
  simp only [State.ownersAgree, State.reset_axis, List.all_eq_true, decide_eq_true_eq]
  intro a _
  simp [Axis.reset, State.reset, Pass.reset]

theorem State.reset_initQuiet : State.reset.initQuiet = true := by
  simp only [State.initQuiet, State.reset_move]
  simp [State.reset, Link.reset]

/-- Settles O49. The store's invariants hold after any hard reset, and the others are read off the reset values. -/
theorem resetMeetsEveryInvariant : Obligations.ResetMeetsEveryInvariant := by
  obtain ⟨hdir, hrec⟩ := State.agreeing_iff.1 State.agreeing_invariant.reset
  exact ⟨rfl, hdir, State.poolBalanced_invariant.reset, State.tracksSound_invariant.reset,
    State.opSparesHeld_iff.2 State.sparesHeld_invariant.reset, State.reset_ownersAgree, hrec, by decide, rfl, rfl,
    State.reset_initQuiet, rfl⟩

/-! ### The resets themselves (R20, R169, R172) -/

theorem Link.reset_raise_supplyLow : Link.reset.raise .supplyLow = { Link.reset with flags := 0x1000#17 } :=
  congrArg (fun b : BitVec 17 => { Link.reset with flags := b }) (by decide)

/-- A hard reset leaves the pins, the clock and the commands that wait, and flags a low supply on both links. -/
theorem exec_hardReset (s : State) : exec .hardReset s = .next
    (let t : State := { State.reset with
      axes := s.axes.map (fun x => { Axis.reset with homeSwitch := x.homeSwitch }), estop := s.estop,
      supplyTenths := s.supplyTenths, refClock := s.refClock, freeIx := s.freeIx, pending := s.pending }
     if s.supplyTenths < 180 then
       { t with supplyLow := true, linkA := { Link.reset with flags := 0x1000#17 },
                linkB := { Link.reset with flags := 0x1000#17 } }
     else t) := by
  have h : exec .hardReset s = .next s.hardReset := rfl
  rw [h]
  unfold State.hardReset
  by_cases hlow : s.supplyTenths < 180
  · rw [if_pos hlow, if_pos (show s.supplyTenths < supplyThreshold 0 from hlow)]
    rw [← Link.reset_raise_supplyLow]
    rfl
  · rw [if_neg hlow, if_neg (show ¬ s.supplyTenths < supplyThreshold 0 from hlow)]
    rfl

theorem State.initializationEnds_initializing (h : s.phase = .initializing) : s.initializationEnds =
    { s with phase := .serving, initTicks := 0,
             linkA := { s.linkA with flags := s.linkA.flags ||| 0x1#17 },
             linkB := { s.linkB with flags := s.linkB.flags ||| 0x1#17 } } := by
  unfold State.initializationEnds
  rw [h]
  rfl

theorem State.initializationEnds_serving (h : s.phase = .serving) : s.initializationEnds = s := by
  unfold State.initializationEnds
  rw [h]

theorem exec_initializationEnd (s : State) : exec .initializationEnd s = .next s.initializationEnds := rfl

theorem State.tickInit_serving (h : s.phase = .serving) : s.tickInit = s := by
  unfold State.tickInit
  rw [h]

theorem State.tickInit_initializing (h : s.phase = .initializing) : s.tickInit =
    if 200 ≤ s.initTicks + 1 then s.initializationEnds else { s with initTicks := s.initTicks + 1 } := by
  unfold State.tickInit
  rw [h]

/-- Settles O8: each row by the equation of its `exec`, the columns read off `State.reset`. -/
theorem hardResetAndItsValues : Obligations.HardResetAndItsValues := by
  refine ⟨⟨exec_hardReset, fun s h => ?_, fun s h => ?_⟩, ?_,
    fun s => ⟨State.tickInit_serving, fun h => ⟨?_, ?_⟩⟩⟩
  · rw [exec_initializationEnd, State.initializationEnds_initializing h]
  · rw [exec_initializationEnd, State.initializationEnds_serving h]
  · exact ⟨rfl, State.reset_move, rfl, rfl, rfl, rfl, fun a => ⟨false, false, State.reset_axis a⟩, rfl, rfl,
      State.reset_link, rfl, rfl, rfl⟩
  · intro hlt
    rw [State.tickInit_initializing h, if_neg (by omega)]
  · intro hge
    rw [State.tickInit_initializing h, if_pos hge, exec_initializationEnd]

end Sys2Proof.Machine
end

section
/-! SUPPORT. Collections of a get transfer and the timeouts of transfers (R19, R38, R186). -/

namespace Sys2Proof.Machine

variable {s : State} {l : LinkId}

/-- Functions that agree on the link change it alike. -/
theorem State.onLink_congr {f g : Link → Link} (h : f (s.link l) = g (s.link l)) : s.onLink l f = s.onLink l g :=
  congrArg (s.setLink l) h

/-! ### Collections (R186) -/

theorem Move.nextKeys_count (m : Move) (t : TrackId) (p : Nat) :
    (m.nextKeys t p).count = min 16 (m.keyCount t - (p - 1)) := by
  cases t <;> simp [Move.nextKeys, BlockKeys.count, Move.keyCount]

/-- An answer that ends a get transfer, as its free value has it (log entry 39). -/
theorem State.endGet_eq (s : State) (l : LinkId) (x : Answer) : s.endGet l x =
    ({ s with freeIx := s.freeIx + 1 } : State).onLink l (fun k =>
      if Config.endClockedOut s.freeIx = true
      then { k with transfer := none, collection := .none, answer := some x }
      else { k with collection := .unsent, answer := some x }) := by
  unfold State.endGet State.closeGet State.answer
  dsimp only
  split
  · exact State.onLink_onLink _ _ _ _
  · exact State.onLink_onLink _ _ _ _

section
variable {slot g p n i : Nat} {t : TrackId} {ret : Bool} {m : Move}

theorem State.compareGet_stale
    (h : s.move slot = none ∨ ret = true ∨ ∃ m, s.move slot = some m ∧ m.generation ≠ g) :
    s.compareGet l slot t g p n ret = s.endGet l (.readError .stale) := by
  unfold State.compareGet
  split
  · rfl
  · next m hm =>
    rw [if_pos]
    rcases h with h | rfl | ⟨m', hm', hg⟩
    · rw [hm] at h
      cases h
    · rfl
    · cases hm.symm.trans hm'
      simp [hg]

theorem State.compareGet_fresh (hm : s.move slot = some m) (hr : ret = false) (hg : m.generation = g) :
    s.compareGet l slot t g p n ret =
      if (m.nextKeys t p).count = 0 then s.endGet l (.getEnd n)
      else s.onLink l (fun k =>
        { k with collection := .sending (m.nextKeys t p).count, answer := some (.keys (m.nextKeys t p)) }) := by
  subst hr hg
  unfold State.compareGet State.answer
  rw [hm]
  simp

/-- A collect request with a get transfer clears its idle time, and waits while the edit unit works on the slot. -/
theorem State.collect_get (h : (s.link l).transfer = some (.get slot t g p n ret i)) :
    s.collect l =
      if s.isTarget slot then
        (s.onLink l (fun k => { k with transfer := some (.get slot t g p n ret 0) })).onLink l
          (fun k => { k with collection := .waiting })
      else (s.onLink l (fun k => { k with transfer := some (.get slot t g p n ret 0) })).compareGet
        l slot t g p n ret := by
  have hd : s.onLink l (fun k => { k with transfer := k.transfer.map Transfer.collected }) =
      s.onLink l (fun k => { k with transfer := some (.get slot t g p n ret 0) }) :=
    State.onLink_congr (by rw [h]; rfl)
  unfold State.collect
  rw [h, hd]

end

/-- A collect request without a get transfer. -/
theorem State.collect_noGet (h : ∀ slot t g p n ret i, (s.link l).transfer ≠ some (.get slot t g p n ret i)) :
    s.collect l = s.onLink l (fun k =>
      { k with
        closedByReset := false
        answer := some (.readError (if k.closedByReset then .state else .noTransfer)) }) := by
  have hanswer : (if (s.link l).closedByReset = true then
        (s.onLink l (fun k => { k with closedByReset := false })).answer l (.readError .state)
      else s.answer l (.readError .noTransfer)) =
      s.onLink l (fun k =>
        { k with
          closedByReset := false
          answer := some (.readError (if k.closedByReset then .state else .noTransfer)) }) := by
    unfold State.answer
    split
    · next hc =>
      rw [State.onLink_onLink]
      exact State.onLink_congr (by rw [if_pos hc])
    · next hc =>
      have hopen : (s.link l).closedByReset = false := by simpa using hc
      exact State.onLink_congr (by rw [if_neg hc, ← hopen])
  unfold State.collect
  split
  · next ht => exact absurd ht (h _ _ _ _ _ _ _)
  · exact hanswer
  · exact hanswer

theorem State.deselect_transfer (s : State) (l : LinkId) :
    ((s.deselect l).link l).transfer = (s.link l).transfer := by rw [State.deselect_link]

/-! ### The commands -/

theorem exec_collectRequest (h : s.phase = .serving) :
    exec (.collectRequest l) s = .next ((s.deselect l).collect l) := by
  have he : exec (.collectRequest l) s = .next (s.collectSelected l) := rfl
  rw [he]
  unfold State.collectSelected
  rw [h]

section
variable {slot g p n i : Nat} {t : TrackId} {ret : Bool}

/-- A collect request on a get transfer, as it arrives. -/
theorem exec_collectRequest_get (s : State) (l : LinkId) (hs : s.phase = .serving)
    (ht : (s.link l).transfer = some (.get slot t g p n ret i)) :
    let d := (s.deselect l).onLink l (fun k => { k with transfer := some (.get slot t g p n ret 0) })
    exec (.collectRequest l) s =
      .next (if s.isTarget slot then d.onLink l (fun k => { k with collection := .waiting })
        else d.compareGet l slot t g p n ret) := by
  rw [exec_collectRequest hs, State.collect_get ((s.deselect_transfer l).trans ht), State.deselect_isTarget]

end

/-! ### The idle time of a transfer (R19, R38) -/

theorem State.transferTimesOut_eq (s : State) (l : LinkId) : s.transferTimesOut l = s.setLink l
    { s.link l with transfer := none, collection := .none, flags := (s.link l).flags ||| 0x10000#17 } := by
  have hbit : EventKind.transferTimeout.bit = 0x10000#17 := by decide
  unfold State.transferTimesOut State.closeGet State.raiseOn
  rw [State.onLink_onLink, State.onLink_eq_setLink, Link.raise, hbit]

section
variable {x : Transfer}

theorem State.tickLink_none (h : (s.link l).transfer = none) : s.tickLink l = s := by
  unfold State.tickLink
  rw [h]

theorem State.tickLink_stands (h : (s.link l).transfer = some x) (hr : s.idleRuns l x = false) :
    s.tickLink l = s := by
  unfold State.tickLink
  rw [h]
  simp [hr]

theorem State.tickLink_closes (h : (s.link l).transfer = some x) (hr : s.idleRuns l x = true) (hi : 999 ≤ x.idle) :
    s.tickLink l = s.transferTimesOut l := by
  unfold State.tickLink
  rw [h]
  simp [hr, hi]

theorem State.tickLink_idles (h : (s.link l).transfer = some x) (hr : s.idleRuns l x = true) (hi : x.idle < 999) :
    s.tickLink l = s.setLink l { s.link l with transfer := some x.idled } := by
  unfold State.tickLink
  rw [h]
  simp [hr, Nat.not_le.2 hi, State.onLink_eq_setLink]

end

theorem exec_putTransferTimeout (s : State) (l : LinkId) : exec (.putTransferTimeout l) s =
    .next (if s.putTimeoutDue l then s.transferTimesOut l else s) := rfl

theorem exec_getTransferTimeout (s : State) (l : LinkId) : exec (.getTransferTimeout l) s =
    .next (if s.getTimeoutDue l then s.transferTimesOut l else s) := rfl

section
variable {slot g p n i : Nat} {t : TrackId} {ret : Bool}

theorem State.putTimeoutDue_iff (h : (s.link l).transfer = some (.put slot t n i)) :
    s.putTimeoutDue l = true ↔ 999 ≤ i ∧ s.outstanding l = false := by
  unfold State.putTimeoutDue
  rw [h]
  simp

theorem State.getTimeoutDue_iff (h : (s.link l).transfer = some (.get slot t g p n ret i)) :
    s.getTimeoutDue l = true ↔ 999 ≤ i ∧ (s.link l).collection = .none := by
  unfold State.getTimeoutDue
  rw [h]
  simp

end

/-- A timeout's row and the tick do the same once the idle time runs out, and until then only the tick counts. -/
theorem State.timeout_rows {c : Instr} {due : Bool} {x : Transfer}
    (hc : exec c s = .next (if due then s.transferTimesOut l else s)) (hdue : due = true ↔ 999 ≤ x.idle)
    (h : (s.link l).transfer = some x) (hr : s.idleRuns l x = true) :
    (999 ≤ x.idle → exec c s = .next (s.transferTimesOut l) ∧ s.tickLink l = s.transferTimesOut l) ∧
    (x.idle < 999 → exec c s = .next s ∧
      s.tickLink l = s.setLink l { s.link l with transfer := some x.idled }) := by
  refine ⟨fun hi => ⟨?_, State.tickLink_closes h hr hi⟩, fun hi => ⟨?_, State.tickLink_idles h hr hi⟩⟩
  · rw [hc, if_pos (hdue.2 hi)]
  · rw [hc, if_neg (fun e => absurd (hdue.1 e) (Nat.not_le.2 hi))]

/-- Settles O25, by the equations of the collection and of the tick of a link, a case of each at a time. -/
theorem collectionsAndTransferTimeouts : Obligations.CollectionsAndTransferTimeouts := by
  refine ⟨⟨?_, ?_, ?_⟩, ?_⟩
  · intro s l slot t g p n i ret hs ht d ends
    have hcollect := exec_collectRequest_get s l hs ht
    have hmove : d.move slot = s.move slot := by simp [d]
    have hends : ∀ x, d.endGet l x = ends x := fun x => by
      rw [State.endGet_eq]
      simp [d, ends]
    refine ⟨fun htarget => ?_, fun htarget =>
      ⟨fun hstale => ?_, fun m hm hr hg => ⟨fun hnone => ?_, fun h1 hp => ?_⟩⟩⟩
    · rw [hcollect, htarget, if_pos rfl]
    · rw [hcollect, htarget, if_neg (by simp), ← hends, State.compareGet_stale (hmove ▸ hstale)]
    · rw [hcollect, htarget, if_neg (by simp), ← hends, State.compareGet_fresh (hmove.trans hm) hr hg,
        if_pos (by rw [Move.nextKeys_count]; omega)]
    · rw [hcollect, htarget, if_neg (by simp), State.compareGet_fresh (hmove.trans hm) hr hg,
        if_neg (by rw [Move.nextKeys_count]; omega), Move.nextKeys_count]
  · intro s l hs h
    rw [exec_collectRequest hs, State.collect_noGet (by rw [State.deselect_transfer]; exact h)]
  · intro s l slot t g p n i c ret ht hc
    have he : exec (.getDataBlockSent l) s = .next (s.blockSent l) := rfl
    rw [he]
    unfold State.blockSent
    rw [hc]
    exact congrArg _ (State.onLink_congr (by rw [ht]; rfl))
  · intro s l slot t i closed
    have hclosed : closed = s.transferTimesOut l := (State.transferTimesOut_eq s l).symm
    rw [hclosed]
    refine ⟨fun n ht ho => ?_, fun n ht ho => ?_, State.tickLink_none, fun g p n ret ht hc => ?_,
      fun g p n ret ht hc => ?_⟩
    · exact State.timeout_rows (exec_putTransferTimeout s l) ((State.putTimeoutDue_iff ht).trans (and_iff_left ho))
        ht (by simp [State.idleRuns, ho])
    · exact State.tickLink_stands ht (by simp [State.idleRuns, ho])
    · exact State.tickLink_stands ht (by simp [State.idleRuns, hc])
    · exact State.timeout_rows (exec_getTransferTimeout s l) ((State.getTimeoutDue_iff ht).trans (and_iff_left hc))
        ht (by simp [State.idleRuns, hc])

end Sys2Proof.Machine
end

section
/-! SUPPORT. How a store edit is taken (R23, R25, R30): the twelve rows have one meaning, which goes by the edit unit's
decision; and what that decision leaves as it is. -/

namespace Sys2Proof.Machine

variable (s : State) (l : LinkId)

/-! ### The row of a store edit -/

/-- The store edit that a command carries, with the link that sends it. -/
def editOf : Instr → Option (LinkId × EditCmd)
  | .moveNew l slot first last label _ => some (l, .moveNew slot first last label)
  | .moveSpan l slot first last e => some (l, .moveSpan slot first last e)
  | .moveLabel l slot label e => some (l, .moveLabel slot label e)
  | .keysPut l slot tr e => some (l, .keysPut slot tr e)
  | .keyMarkFirst l slot tr frame e => some (l, .keyMarkFirst slot tr frame e)
  | .keyMarkLast l frame _ => some (l, .keyMarkLast frame)
  | .keyDrop l e => some (l, .keyDrop e)
  | .trackClear l slot tr e => some (l, .trackClear slot tr e)
  | .moveCopy l src dst e => some (l, .moveCopy src dst e)
  | .moveRetire l slot e => some (l, .moveRetire slot e)
  | .moveProtect l slot e => some (l, .moveProtect slot e)
  | .moveUnprotect l slot e => some (l, .moveUnprotect slot e)
  | _ => none

variable {s l} {i : Instr} {c : EditCmd}

theorem exec_storeEdit (hi : editOf i = some (l, c)) (hs : s.phase = .serving) :
    exec i s = .next ((s.deselect l).storeEdit l c) := by
  rw [← State.taken_serving s l hs (fun t => t.storeEdit l c)]
  cases i <;> cases hi <;> rfl

/-! ### The three ways in which the edit unit meets it -/

theorem State.deselect_marks : ((s.deselect l).link l).marks = (s.link l).marks := by rw [State.deselect_link]

theorem State.deselect_rangeReset : (s.deselect l).rangeReset l c = (c.resetsRange && s.marked l) := by
  unfold State.rangeReset State.marked
  rw [State.deselect_marks]

theorem exec_edit_idle (hi : editOf i = some (l, c)) (hs : s.phase = .serving) (he : s.edit = none) :
    exec i s = .next ((s.deselect l).takeEdit l c) := by
  rw [exec_storeEdit hi hs, State.storeEdit, State.deselect_edit_none s l he]

theorem exec_edit_busy {r : EditRun} (hi : editOf i = some (l, c)) (hs : s.phase = .serving)
    (he : s.edit = some r) (hr : r.link ≠ l) :
    exec i s = .next (((s.deselect l).afterMarks l c .busyOther).refuseWith l .busyOther .none
      (c.resetsRange && s.marked l)) := by
  have hd : (s.deselect l).edit = some r := by rw [State.deselect_edit, he, Option.map_some, if_neg hr]
  rw [exec_storeEdit hi hs, State.storeEdit, hd]
  dsimp only
  rw [if_neg hr, State.deselect_rangeReset]

theorem exec_edit_held {r : EditRun} (hi : editOf i = some (l, c)) (hs : s.phase = .serving)
    (he : s.edit = some r) (hr : r.link = l) :
    exec i s = .next ((s.deselect l).onLink l (fun k => { k with held := some (.command c) })) := by
  have hd : (s.deselect l).edit = some { r with answerDue := false } := by
    rw [State.deselect_edit, he, Option.map_some, if_pos hr]
  rw [exec_storeEdit hi hs, State.storeEdit, hd]
  dsimp only
  rw [if_pos hr]

/-! ### The marks (R30, R41) -/

theorem State.afterMarks_resets (h : c.resetsRange = true) (s : State) (l : LinkId) (w : Reason) :
    s.afterMarks l c w = s.unmarked l := by
  unfold State.afterMarks State.unmarked
  rw [h, Bool.true_or, if_pos rfl]

theorem State.afterMarks_drops {w : Reason} (hd : c.dropClears w = true) (s : State) (l : LinkId) :
    s.afterMarks l c w = s.unmarked l := by
  unfold State.afterMarks State.unmarked
  rw [hd, Bool.or_true, if_pos rfl]

/-! ### What an IDLE edit unit answers, by its decision -/

section
variable (hi : editOf i = some (l, c)) (hs : s.phase = .serving) (he : s.edit = none)
include hi hs he

theorem exec_edit_refused {w : Reason} {res : Results} (h : (s.deselect l).judge l c = .refuse w res) :
    exec i s = .next (((s.deselect l).afterMarks l c w).refuseWith l w res (c.resetsRange && s.marked l)) := by
  rw [exec_edit_idle hi hs he, State.takeEdit, h, ← State.deselect_rangeReset]

theorem exec_edit_accepted {t : State} {res : Results} (h : (s.deselect l).judge l c = .accept t res) :
    exec i s = .next ((t.afterMarks l c .none).accept l res (c.resetsRange && s.marked l)) := by
  rw [exec_edit_idle hi hs he, State.takeEdit, h, ← State.deselect_rangeReset]

theorem exec_edit_timed {t : State} {op : EditOp} (h : (s.deselect l).judge l c = .timed t op) :
    exec i s = .next { t.afterMarks l c .none with
      edit := some { link := l, op := op, answerDue := true, rangeReset := c.resetsRange && s.marked l,
                     elapsed := 0 } } := by
  rw [exec_edit_idle hi hs he, State.takeEdit, h, ← State.deselect_rangeReset]

end

/-- The rows that clear the marks whatever their outcome (R30). -/
theorem exec_edit_resets (hi : editOf i = some (l, c)) (hc : c.resetsRange = true) (hs : s.phase = .serving) :
    (∀ r, s.edit = some r → r.link ≠ l → exec i s =
      .next (((s.deselect l).unmarked l).refuseWith l .busyOther .none (s.marked l))) ∧
    (s.edit = none →
      (∀ w res, (s.deselect l).judge l c = .refuse w res →
        exec i s = .next (((s.deselect l).unmarked l).refuseWith l w res (s.marked l))) ∧
      (∀ t res, (s.deselect l).judge l c = .accept t res →
        exec i s = .next ((t.unmarked l).accept l res (s.marked l))) ∧
      (∀ t op, (s.deselect l).judge l c = .timed t op → exec i s = .next { t.unmarked l with
        edit := some { link := l, op := op, answerDue := true, rangeReset := s.marked l, elapsed := 0 } })) := by
  refine ⟨fun r he hr => ?_, fun he => ⟨fun w res h => ?_, fun t res h => ?_, fun t op h => ?_⟩⟩
  · rw [exec_edit_busy hi hs he hr, State.afterMarks_resets hc, hc, Bool.true_and]
  · rw [exec_edit_refused hi hs he h, State.afterMarks_resets hc, hc, Bool.true_and]
  · rw [exec_edit_accepted hi hs he h, State.afterMarks_resets hc, hc, Bool.true_and]
  · rw [exec_edit_timed hi hs he h, State.afterMarks_resets hc, hc, Bool.true_and]

end Sys2Proof.Machine
end

section
/-! SUPPORT. The instant edits (R28 to R33, R39, R40, R47, R48), and the order in which the edits of one slot are
refused (R26). -/

namespace Sys2Proof.Machine

variable {s : State} {l : LinkId} {slot : Nat} {m : Move} {e : Option Nat}

/-! ### The tests of R26 and R27 -/

theorem Move.staleFor_of_other {g : Nat} (he : e = some g) (hg : g ≠ m.generation) : m.staleFor e = true := by
  simp [Move.staleFor, he, hg]

theorem Move.staleFor_of_met (h : ∀ g, e = some g → g = m.generation) : m.staleFor e = false := by
  cases e with
  | none => rfl
  | some g => simp [Move.staleFor, h g rfl]

theorem slotOk_of_bounds (h1 : 1 ≤ slot) (h2 : slot ≤ 64) : slotOk slot = true := slotOk_iff.2 ⟨h1, h2⟩

theorem slotOk_of_move (h : s.move slot = some m) : slotOk slot = true := slotOk_iff.2 (s.move_bounds h)

theorem spanOk_iff {first last : Nat} : spanOk first last = true ↔ first < last ∧ last ≤ 65535 := by simp [spanOk]

theorem labelOk_iff {label : List Byte} : labelOk label = true ↔
    label.length ≤ 16 ∧ ∀ b ∈ label, 0x20 ≤ b.toNat ∧ b.toNat ≤ 0x7E := by simp [labelOk]

theorem Move.outside_of_frames {first last : Nat} (h : ∀ t f, f ∈ m.frames t → first ≤ f ∧ f ≤ last) :
    m.outside first last = none := by
  unfold Move.outside
  rw [List.findSome?_eq_none_iff]
  intro t _
  rw [Option.map_eq_none_iff, List.find?_eq_none]
  intro f hf
  have := h t f hf
  simp only [decide_eq_true_eq]
  omega

theorem trackOf_isSome {n : Nat} : (trackOf n).isSome = true ↔ n ≤ 16 := by
  unfold trackOf axisOf
  split
  · next h =>
    split at h
    · simp only [Option.isSome_some, true_iff]
      omega
    · cases h
  · next h =>
    split at h
    · cases h
    · split <;> simp <;> omega

/-! ### A content change (R28, R64, R67) -/

theorem EventKind.checkDone_bit : EventKind.checkDone.bit = 0x2#17 := by decide

/-- Settles O12, a state of the move at a time. -/
theorem aContentChangeActsByTheMovesState : Obligations.AContentChangeActsByTheMovesState := by
  intro s slot m hm
  refine ⟨fun h => ?_, fun h => ?_, fun h => ?_⟩ <;> unfold State.contentChange <;> rw [hm] <;> dsimp only <;>
    rw [h]
  · exact State.setMove_eq_onMove hm _
  · have hm' : ({ s with check := none } : State).move slot = some m := hm
    dsimp only
    unfold State.cancelCheck
    rw [State.setMove_eq_onMove hm']
    unfold State.raise State.onLinks Link.raise
    rw [EventKind.checkDone_bit]
    rfl

/-! ### MOVE_NEW (R29) -/

theorem State.lowestEmpty_eq_none (h : ∀ n, 1 ≤ n → n ≤ 64 → (s.move n).isSome = true) : s.lowestEmpty = none := by
  unfold State.lowestEmpty
  rw [List.find?_eq_none]
  intro n hn
  obtain ⟨h1, h2⟩ := mem_allSlots.1 hn
  simp [Option.isSome_iff_ne_none.1 (h n h1 h2)]

theorem allSlots_pairwise : allSlots.Pairwise (· < ·) := by
  unfold allSlots
  exact List.pairwise_map.2 (List.pairwise_lt_range.imp (fun h => by omega))

/-- The first EMPTY slot of the directory is the one below which every slot holds a move. -/
theorem State.lowestEmpty_eq_some {n : Nat} (h1 : 1 ≤ n) (h2 : n ≤ 64) (hn : s.move n = none)
    (hlow : ∀ k, 1 ≤ k → k < n → (s.move k).isSome = true) : s.lowestEmpty = some n := by
  cases hl : s.lowestEmpty with
  | none =>
    unfold State.lowestEmpty at hl
    rw [List.find?_eq_none] at hl
    simpa [hn] using hl n (mem_allSlots.2 ⟨h1, h2⟩)
  | some k =>
    obtain ⟨⟨hk1, hk2⟩, hk⟩ := State.lowestEmpty_some hl
    rcases Nat.lt_trichotomy k n with hkn | rfl | hnk
    · simpa [hk] using hlow k hk1 hkn
    · rfl
    · obtain ⟨as, bs, has, hbefore⟩ := (List.find?_eq_some_iff_append.1 hl).2
      have hmem : n ∈ as ++ k :: bs := has ▸ mem_allSlots.2 ⟨h1, h2⟩
      rcases List.mem_append.1 hmem with hna | hnb
      · simpa [hn] using hbefore n hna
      · have hpw := (List.pairwise_append.1 (has ▸ allSlots_pairwise)).2.1
        rcases List.mem_cons.1 hnb with rfl | hnb
        · rfl
        · exact absurd ((List.pairwise_cons.1 hpw).1 n hnb) (by omega)

theorem State.deselect_lowestEmpty : (s.deselect l).lowestEmpty = s.lowestEmpty := by
  unfold State.lowestEmpty
  simp only [State.deselect_move]

/-- A slot is written and the marks of a link are cleared in either order. -/
theorem State.setMove_unmarked (n : Nat) (o : Option Move) :
    (s.setMove n o).unmarked l = (s.unmarked l).setMove n o := by
  unfold State.setMove
  split <;> cases l <;> rfl

/-- Settles O13: the decision of R29, case by case, and the marks cleared in each (R30). -/
theorem moveNewTakesTheNamedOrTheLowestEmptySlot : Obligations.MoveNewTakesTheNamedOrTheLowestEmptySlot := by
  intro s l slot first last label e hs d made fits
  obtain ⟨hbusy, hidle⟩ := exec_edit_resets (i := .moveNew l slot first last label e) rfl rfl hs
  have hfits : (spanOk first last && labelOk label) = true ↔ fits := by
    rw [Bool.and_eq_true, spanOk_iff, labelOk_iff, and_assoc]
  refine ⟨hbusy, fun he => ?_⟩
  obtain ⟨hrefuse, haccept, -⟩ := hidle he
  have hjudge : (s.deselect l).judge l (.moveNew slot first last label) =
      (s.deselect l).takeMoveNew slot first last label := rfl
  unfold State.takeMoveNew at hjudge
  rw [State.deselect_lowestEmpty, State.deselect_move, Bool.and_assoc] at hjudge
  refine ⟨fun hno => hrefuse _ _ ?_, fun h1 h64 hf => ⟨fun hm => hrefuse _ _ ?_, fun hm => ?_⟩,
    fun h0 hf => ⟨fun hfull => hrefuse _ _ ?_, fun n h1 h64 hn hlow => ?_⟩⟩
  · refine hjudge.trans (if_pos ?_)
    rw [Bool.not_eq_true', Bool.eq_false_iff]
    intro h
    rw [Bool.and_eq_true, hfits, decide_eq_true_eq] at h
    exact hno h
  · rw [hjudge, hfits.2 hf, if_neg (by simp [h64]), if_neg (by omega), if_pos hm]
  · have := haccept _ _ (by rw [hjudge, hfits.2 hf, if_neg (by simp [h64]), if_neg (by omega), if_neg (by simp [hm])])
    rwa [State.setMove_unmarked] at this
  · rw [hjudge, hfits.2 hf, if_neg (by simp [h0]), if_pos h0, State.lowestEmpty_eq_none hfull]
  · have := haccept _ _ (by
      rw [hjudge, hfits.2 hf, if_neg (by simp [h0]), if_pos h0, State.lowestEmpty_eq_some h1 h64 hn hlow])
    rwa [State.setMove_unmarked] at this

/-! ### MOVE_SPAN and MOVE_LABEL (R31, R32) -/

/-- Settles O14: MOVE_SPAN and MOVE_LABEL past the tests of R26. -/
theorem spanAndLabelEditsReplaceTheirField : Obligations.SpanAndLabelEditsReplaceTheirField := by
  intro s l slot m e hs he h1 h64 hm hgen hb d
  have hslot := slotOk_of_bounds h1 h64
  have hstale := Move.staleFor_of_met hgen
  refine ⟨fun first last hlt h16 => ?_, fun label hlen hchars hp => ?_⟩
  · obtain ⟨hrefuse, haccept, -⟩ := (exec_edit_resets (i := .moveSpan l slot first last e) rfl rfl hs).2 he
    have hspan : spanOk first last = true := spanOk_iff.2 ⟨hlt, h16⟩
    refine ⟨fun hin hp => ?_, fun t f hout => hrefuse _ _ ?_⟩
    · have hout := Move.outside_of_frames hin
      refine ⟨fun hsame => haccept _ _ ?_, fun hnew => haccept _ _ ?_⟩
      · simp [State.judge, State.takeMoveSpan, hslot, hspan, hm, hstale, hb, hout, hp, hsame, d]
      · simp only [State.judge, State.takeMoveSpan, hslot, hspan, State.deselect_move, hm, hstale, hb, hout, hp]
        exact if_neg hnew
    · simp [State.judge, State.takeMoveSpan, hslot, hspan, hm, hstale, hb, hout]
  · obtain ⟨-, haccept, -⟩ := (exec_edit_resets (i := .moveLabel l slot label e) rfl rfl hs).2 he
    have hlabel : labelOk label = true := labelOk_iff.2 ⟨hlen, hchars⟩
    refine ⟨fun hsame => haccept _ _ ?_, fun hnew => haccept _ _ ?_⟩
    · simp [State.judge, State.takeMoveLabel, hslot, hlabel, hm, hstale, hb, hp, hsame, d]
    · simp only [State.judge, State.takeMoveLabel, hslot, hlabel, State.deselect_move, hm, hstale, hb, hp]
      exact if_neg hnew

/-! ### MOVE_PROTECT and MOVE_UNPROTECT (R47, R48) -/

/-- Settles O22: the setting held stays, and the other one is set with the generation raised. -/
theorem protectAndUnprotectSetTheirSetting : Obligations.ProtectAndUnprotectSetTheirSetting := by
  intro s l slot m e hs he h1 h64 hm hgen d set kept
  have hslot := slotOk_of_bounds h1 h64
  have hstale := Move.staleFor_of_met hgen
  have hm' : (s.deselect l).move slot = some m := (s.deselect_move l slot).trans hm
  obtain ⟨hrefuse, haccept, -⟩ := (exec_edit_resets (i := .moveProtect l slot e) rfl rfl hs).2 he
  obtain ⟨-, haccept', -⟩ := (exec_edit_resets (i := .moveUnprotect l slot e) rfl rfl hs).2 he
  have hset : ∀ p, (((s.deselect l).onMove slot (Move.changed (fun x => { x with isProtected := p }))).unmarked
      l).accept l (.generation (nextGeneration m.generation)) (s.marked l) = set p := by
    intro p
    rw [State.setMove_eq_onMove hm', State.setMove_unmarked]
    rfl
  refine ⟨fun hc => hrefuse _ _ ?_, fun hc => ⟨fun hp => ?_, fun hp => haccept _ _ ?_⟩, fun hp => ?_,
    fun hp => haccept' _ _ ?_⟩
  · simp [State.judge, State.takeProtect, hslot, hm, hstale, hc]
  · rw [← hset]
    exact haccept _ _ (by simp [State.judge, State.takeProtect, hslot, hm, hstale, hc, hp])
  · simp [State.judge, State.takeProtect, hslot, hm, hstale, hc, hp]
  · rw [← hset]
    exact haccept' _ _ (by simp [State.judge, State.takeUnprotect, hslot, hm, hstale, hp])
  · simp [State.judge, State.takeUnprotect, hslot, hm, hstale, hp]

/-! ### KEY_MARK_FIRST and KEY_MARK_LAST (R39, R40) -/

/-- Settles O16. The tests of R39 in order; the marks stay but for an acceptance. -/
theorem firstMarkHoldsSlotTrackAndFrame : Obligations.FirstMarkHoldsSlotTrackAndFrame := by
  intro s l slot tr frame e hs d
  have hi : editOf (.keyMarkFirst l slot tr frame e) = some (l, .keyMarkFirst slot tr frame e) := rfl
  have hrefuse : ∀ w res, s.edit = none →
      (s.deselect l).judge l (.keyMarkFirst slot tr frame e) = .refuse w res →
      exec (.keyMarkFirst l slot tr frame e) s = .next (d.refuseWith l w res false) :=
    fun w res he h => exec_edit_refused hi hs he h
  refine ⟨fun r he hr => exec_edit_busy hi hs he hr, fun he => ⟨fun hno => hrefuse _ _ he ?_, ?_⟩⟩
  · simp only [State.judge, State.takeMarkFirst]
    split
    · rfl
    · next t ht =>
      have h16 : tr ≤ 16 := trackOf_isSome.1 (by rw [ht]; rfl)
      rw [if_pos]
      simp only [slotOk, frameOk, Bool.not_eq_true', Bool.and_eq_false_iff, decide_eq_false_iff_not]
      omega
  · intro h1 h64 hf t ht
    have hslot := slotOk_of_bounds h1 h64
    have hframe : frameOk frame = true := by simp [frameOk, hf]
    refine ⟨fun hm => hrefuse _ _ he ?_, fun m hm => ⟨fun g hg hne => hrefuse _ _ he ?_, fun hgen => ?_⟩⟩
    · simp [State.judge, State.takeMarkFirst, ht, hslot, hframe, hm]
    · simp [State.judge, State.takeMarkFirst, ht, hslot, hframe, hm, Move.staleFor_of_other hg hne, refusesStale]
    · have hjudge : (s.deselect l).judge l (.keyMarkFirst slot tr frame e) =
          .accept (d.onLink l (fun k => { k with marks := .first slot t frame })) (.generation m.generation) := by
        simp [State.judge, State.takeMarkFirst, ht, hslot, hframe, hm, Move.staleFor_of_met hgen, d]
      exact exec_edit_accepted hi hs he hjudge

/-- Settles O17. A last mark needs a first one, not above it. -/
theorem lastMarkJoinsTheFirst : Obligations.LastMarkJoinsTheFirst := by
  intro s l frame e hs d
  have hi : editOf (.keyMarkLast l frame e) = some (l, .keyMarkLast frame) := rfl
  refine ⟨fun r he hr => exec_edit_busy hi hs he hr, fun he => ⟨fun hm => ?_, fun slot t first hm => ?_⟩⟩
  · refine exec_edit_refused hi hs he ?_
    simp [State.judge, State.takeMarkLast, State.deselect_marks, hm]
  · have hjudge : (s.deselect l).judge l (.keyMarkLast frame) =
        if !(frameOk frame && decide (first ≤ frame)) then refuses .range
        else .accept (d.onLink l (fun k => { k with marks := .both slot t first frame })) .none := by
      unfold State.judge State.takeMarkLast
      rw [State.deselect_marks]
      rcases hm with hm | ⟨last, hm⟩ <;> rw [hm]
    refine ⟨fun hout => exec_edit_refused hi hs he (hjudge.trans (if_pos ?_)),
      fun h1 h2 => exec_edit_accepted hi hs he (hjudge.trans (if_neg ?_))⟩
    · simp only [frameOk, Bool.not_eq_true', Bool.and_eq_false_iff, decide_eq_false_iff_not]
      omega
    · simp [frameOk, h1, h2]

end Sys2Proof.Machine
end

section
/-! SUPPORT. Key transfers as they open and close (R18, R33, R37), the timed edits as they are taken (R41 to R46), and
the order in which the edits of one slot are refused (R26). -/

namespace Sys2Proof.Machine

variable {s : State} {l : LinkId} {slot : Nat} {t : TrackId} {m : Move} {e : Option Nat}

/-! ### What a transfer names (R34) -/

theorem State.transferHas_iff {f : Transfer → Bool} :
    s.transferHas l f = true ↔ ∃ x, (s.link l).transfer = some x ∧ f x = true := by
  unfold State.transferHas
  cases (s.link l).transfer <;> simp

theorem State.transferHas_of_none {f : Transfer → Bool} (h : (s.link l).transfer = none) :
    s.transferHas l f = false := by simp [State.transferHas, h]

theorem Transfer.names_iff {x : Transfer} : x.names slot t = true ↔ x.target = (slot, t) := by
  cases x <;> simp [Transfer.names, Transfer.target]

theorem Transfer.putNames_iff {x : Transfer} : x.putNames slot t = true ↔ ∃ n i, x = .put slot t n i := by
  cases x <;> simp [Transfer.putNames]

theorem Transfer.putOn_iff {x : Transfer} : x.putOn slot = true ↔ ∃ t n i, x = .put slot t n i := by
  cases x <;> simp [Transfer.putOn]

/-- No transfer of a link names the track. -/
theorem State.transferHas_names_false (h : ∀ x, (s.link l).transfer = some x → x.target ≠ (slot, t)) :
    s.transferHas l (Transfer.names slot t) = false := by
  rw [Bool.eq_false_iff, Ne, State.transferHas_iff]
  rintro ⟨x, hx, hn⟩
  exact h x hx (Transfer.names_iff.1 hn)

theorem State.transferHas_names_true (h : (s.link l).transfer.map Transfer.target = some (slot, t)) :
    s.transferHas l (Transfer.names slot t) = true := by
  obtain ⟨x, hx, htarget⟩ := Option.map_eq_some_iff.1 h
  exact State.transferHas_iff.2 ⟨x, hx, Transfer.names_iff.2 htarget⟩

theorem State.transferHas_putNames_false (h : ∀ n i, (s.link l).transfer ≠ some (.put slot t n i)) :
    s.transferHas l (Transfer.putNames slot t) = false := by
  rw [Bool.eq_false_iff, Ne, State.transferHas_iff]
  rintro ⟨x, hx, hn⟩
  obtain ⟨n, i, rfl⟩ := Transfer.putNames_iff.1 hn
  exact h n i hx

theorem State.transferHas_putNames_true {n i : Nat} (h : (s.link l).transfer = some (.put slot t n i)) :
    s.transferHas l (Transfer.putNames slot t) = true :=
  State.transferHas_iff.2 ⟨_, h, Transfer.putNames_iff.2 ⟨n, i, rfl⟩⟩

theorem State.putOn_links_iff : allLinks.any (fun k => s.transferHas k (Transfer.putOn slot)) = true ↔
    ∃ k t n i, (s.link k).transfer = some (.put slot t n i) := by
  have hall : ∀ k : LinkId, k ∈ allLinks := fun k => by cases k <;> decide
  rw [List.any_eq_true]
  constructor
  · rintro ⟨k, -, hk⟩
    obtain ⟨x, hx, hn⟩ := State.transferHas_iff.1 hk
    obtain ⟨t, n, i, rfl⟩ := Transfer.putOn_iff.1 hn
    exact ⟨k, t, n, i, hx⟩
  · rintro ⟨k, t, n, i, hx⟩
    exact ⟨k, hall k, State.transferHas_iff.2 ⟨_, hx, Transfer.putOn_iff.2 ⟨t, n, i, rfl⟩⟩⟩

@[simp] theorem State.deselect_link_transfer (s : State) (l k : LinkId) :
    ((s.deselect l).link k).transfer = (s.link k).transfer := by cases l <;> cases k <;> rfl

@[simp] theorem State.deselect_transferHas (s : State) (l k : LinkId) (f : Transfer → Bool) :
    (s.deselect l).transferHas k f = s.transferHas k f := by
  unfold State.transferHas
  rw [State.deselect_link_transfer]

/-! ### KEYS_GET (R18) -/

/-- What KEYS_GET does in SERVING, its selection begun. -/
def State.takeKeysGet (s : State) (l : LinkId) (slot track : Nat) : State :=
  match trackOf track with
  | none => s.refuse l .range
  | some tr =>
    if !slotOk slot then s.refuse l .range
    else if (s.link l).transfer.isSome then s.refuse l .state
    else
      match s.move slot with
      | none => s.refuse l .state
      | some m =>
        if s.isTarget slot then s.refuse l .busyOther
        else if s.transferHas l.other (Transfer.names slot tr) then s.refuse l .trackInUse
        else s.openGet l slot tr m

theorem exec_keysGet {track : Nat} (hs : s.phase = .serving) :
    exec (.keysGet l slot track) s = .next ((s.deselect l).takeKeysGet l slot track) := by
  rw [← State.taken_serving s l hs (fun t => t.takeKeysGet l slot track)]
  rfl

/-! ### End markers (R37) -/

theorem exec_endMarker (hs : s.phase = .serving) :
    exec (.endMarker l) s = .next ((s.deselect l).endMarkerArrives l) := by
  have he : exec (.endMarker l) s = .next (s.endMarkerSelected l) := rfl
  rw [he]
  unfold State.endMarkerSelected
  rw [hs]

theorem State.takeEndMarker_put {n i : Nat} (h : (s.link l).transfer = some (.put slot t n i)) :
    s.takeEndMarker l = s.onLink l (fun k => { k with transfer := none, answer := some (.close n) }) := by
  unfold State.takeEndMarker State.answer
  rw [h]
  exact State.onLink_onLink _ _ _ _

theorem State.takeEndMarker_noPut (h : ∀ slot t n i, (s.link l).transfer ≠ some (.put slot t n i)) :
    s.takeEndMarker l = s.onLink l (fun k => { k with answer := some .closeRefused }) := by
  unfold State.takeEndMarker State.answer
  split
  · next ht => exact absurd ht (h _ _ _ _)
  · rfl
  · rfl

theorem State.endMarkerArrives_idle (he : s.edit = none) : s.endMarkerArrives l = s.takeEndMarker l := by
  unfold State.endMarkerArrives
  rw [he]

theorem State.endMarkerArrives_working (he : s.edit.isSome = true) :
    s.endMarkerArrives l = s.onLink l (fun k => { k with held := some .endMarker }) := by
  obtain ⟨r, hr⟩ := Option.isSome_iff_exists.1 he
  unfold State.endMarkerArrives
  rw [hr]

/-- Settles O15: the tests of R33 and R18 in order, and the end marker by what is open and by what the edit unit
does. -/
theorem keyTransfersOpenAndClose : Obligations.KeyTransfersOpenAndClose := by
  intro s l hs d
  refine ⟨?_, ?_, ?_, fun he => ⟨fun slot t n i ht => ?_, fun h => ?_⟩, fun he => ?_⟩
  · intro slot m tr t e htr h1 h64 hm hown hother
    have hslot := slotOk_of_bounds h1 h64
    have hnames := State.transferHas_names_false hother
    refine ⟨fun he hgen hb hp => ?_, fun htarget => ?_⟩
    · have hjudge : d.judge l (.keysPut slot tr e) = .accept
          (d.onLink l (fun k => { k with transfer := some (.put slot t 0 0), closedByReset := false }))
          (.keysPut m.generation (m.keyCount t) s.free) := by
        simp [State.judge, State.takeKeysPut, htr, hslot, hown, hm, Move.staleFor_of_met hgen, hb, hnames, hp, d]
      exact ((exec_edit_resets (i := .keysPut l slot tr e) rfl rfl hs).2 he).2.1 _ _ hjudge
    · rw [exec_keysGet hs]
      simp [State.takeKeysGet, State.openGet, htr, hslot, hown, hm, htarget, hnames, d]
  · intro slot tr t
    refine ⟨fun hout => ?_, fun htr h1 h64 => ?_⟩
    · rw [exec_keysGet hs]
      unfold State.takeKeysGet
      split
      · rfl
      · next t' ht' =>
        have h16 : tr ≤ 16 := trackOf_isSome.1 (by rw [ht']; rfl)
        rw [if_pos]
        simp only [slotOk, Bool.not_eq_true', decide_eq_false_iff_not]
        omega
    · have hslot := slotOk_of_bounds h1 h64
      rw [exec_keysGet hs]
      refine ⟨fun h => ?_, fun hown hm => ?_⟩
      · rcases h with h | h
        · simp [State.takeKeysGet, htr, hslot, h, d]
        · simp [State.takeKeysGet, htr, hslot, h, d]
      · obtain ⟨m, hm⟩ := Option.isSome_iff_exists.1 hm
        refine ⟨fun htarget => ?_, fun htarget hother => ?_⟩
        · simp [State.takeKeysGet, htr, hslot, hown, hm, htarget, d]
        · simp [State.takeKeysGet, htr, hslot, hown, hm, htarget, State.transferHas_names_true hother, d]
  · intro slot tr t e he htr h1 h64
    have hslot := slotOk_of_bounds h1 h64
    obtain ⟨hrefuse, -, -⟩ := (exec_edit_resets (i := .keysPut l slot tr e) rfl rfl hs).2 he
    refine ⟨fun hown => hrefuse _ _ ?_, fun m hown hm hgen hb hother => hrefuse _ _ ?_⟩
    · simp [State.judge, State.takeKeysPut, htr, hslot, hown]
    · simp [State.judge, State.takeKeysPut, htr, hslot, hown, hm, Move.staleFor_of_met hgen, hb,
        State.transferHas_names_true hother]
  · rw [exec_endMarker hs, State.endMarkerArrives_idle (s.deselect_edit_none l he),
      State.takeEndMarker_put ((s.deselect_link_transfer l l).trans ht)]
  · rw [exec_endMarker hs, State.endMarkerArrives_idle (s.deselect_edit_none l he),
      State.takeEndMarker_noPut (by simpa using h)]
  · rw [exec_endMarker hs, State.endMarkerArrives_working (by simpa [State.deselect_edit] using he)]

/-! ### The timed edits as they are taken (R41 to R46) -/

theorem State.contentChange_checking (hm : s.move slot = some m) (hc : m.state = .checking) :
    s.contentChange slot = s.cancelCheck slot := by
  unfold State.contentChange
  rw [hm]
  dsimp only
  rw [hc]

/-- KEY_DROP before its marks are read: refused SEQUENCE without both (R41). -/
theorem State.takeKeyDrop_unmarked (h : ∀ x y a b, (s.link l).marks ≠ .both x y a b) :
    s.takeKeyDrop l e = refuses .sequence := by
  unfold State.takeKeyDrop
  split
  · rfl
  · rfl
  · next hm => exact absurd hm (h _ _ _ _)

theorem State.takeKeyDrop_empty {a b : Nat} (h : (s.link l).marks = .both slot t a b) (hm : s.move slot = none) :
    s.takeKeyDrop l e = refuses .state := by simp only [State.takeKeyDrop, h, hm]

/-- KEY_DROP with both marks meets the tests of R26 on the move they hold. -/
theorem State.takeKeyDrop_marked {a b : Nat} (h : (s.link l).marks = .both slot t a b) (hm : s.move slot = some m) :
    s.takeKeyDrop l e =
      if m.staleFor e then refusesStale m
      else if m.state = .bound then refuses .held
      else if s.transferHas l.other (Transfer.putNames slot t) then refuses .trackInUse
      else if m.isProtected then refuses .isProtected
      else .timed (if (m.frames t).any (inMarks a b) then s.contentChange slot else s)
        (.keyDrop slot t a b) := by simp only [State.takeKeyDrop, h, hm]

/-- KEY_DROP refused for a test of its slot clears the marks, without RANGE_RESET (R41). -/
theorem exec_keyDrop_refused {w : Reason} {res : Results} (hs : s.phase = .serving) (he : s.edit = none)
    (hw : EditCmd.dropClears w (.keyDrop e) = true)
    (h : (s.deselect l).judge l (.keyDrop e) = .refuse w res) :
    exec (.keyDrop l e) s = .next (((s.deselect l).unmarked l).refuseWith l w res false) := by
  rw [exec_edit_refused rfl hs he h, State.afterMarks_drops hw]
  rfl

/-- Settles O18, a command at a time: its tests in order, and the operation that begins past them. -/
theorem timedEditsBeginTheirOperation : Obligations.TimedEditsBeginTheirOperation := by
  refine ⟨?_, ?_, ?_⟩
  · intro s l slot t m e hs he hm hgen hb hp hput d
    have hstale := Move.staleFor_of_met hgen
    have hnames := State.transferHas_putNames_false hput
    have hi : editOf (.keyDrop l e) = some (l, .keyDrop e) := rfl
    refine ⟨fun a b hmk => ?_, fun hmk => ?_, fun tr htr h1 h64 => ?_⟩
    · have hjudge : d.judge l (.keyDrop e) =
          .timed (if (m.frames t).any (inMarks a b) then d.contentChange slot else d) (.keyDrop slot t a b) := by
        refine (State.takeKeyDrop_marked (State.deselect_marks.trans hmk) ((s.deselect_move l slot).trans hm)).trans ?_
        simp [hstale, hb, hnames, hp, d]
      rw [exec_edit_timed hi hs he hjudge, State.afterMarks_drops rfl]
      rfl
    · exact exec_edit_refused hi hs he (State.takeKeyDrop_unmarked (by rw [State.deselect_marks]; exact hmk))
    · have hjudge : d.judge l (.trackClear slot tr e) =
          .timed (if m.keyCount t = 0 then d else d.contentChange slot) (.trackClear slot t) := by
        simp [State.judge, State.takeTrackClear, htr, slotOk_of_bounds h1 h64, hm, hstale, hb, hnames, hp, d]
      exact ((exec_edit_resets (i := .trackClear l slot tr e) rfl rfl hs).2 he).2.2 _ _ hjudge
  · intro s l e hs d c
    refine ⟨fun r he hr => exec_edit_busy (c := .keyDrop e) rfl hs he hr, ?_, ?_, ?_⟩
    · intro slot t a b he hmk
      have hmk' := State.deselect_marks.trans hmk
      refine ⟨fun hm => exec_keyDrop_refused hs he rfl
        (State.takeKeyDrop_empty hmk' ((s.deselect_move l slot).trans hm)), fun m hm => ?_⟩
      have hdrop := State.takeKeyDrop_marked (e := e) hmk' ((s.deselect_move l slot).trans hm)
      refine ⟨fun g hg hne => exec_keyDrop_refused hs he rfl (hdrop.trans ?_), fun hgen =>
        ⟨fun hb => exec_keyDrop_refused hs he rfl (hdrop.trans ?_), fun hb =>
          ⟨fun n i hput => exec_keyDrop_refused hs he rfl (hdrop.trans ?_), fun hput hp =>
            exec_keyDrop_refused hs he rfl (hdrop.trans ?_)⟩⟩⟩
      · simp [Move.staleFor_of_other hg hne, refusesStale]
      · simp [Move.staleFor_of_met hgen, hb]
      · simp [Move.staleFor_of_met hgen, hb, State.transferHas_putNames_true hput]
      · simp [Move.staleFor_of_met hgen, hb, State.transferHas_putNames_false hput, hp]
    · intro slot m he hm hgen hb
      have hslot := slotOk_of_move hm
      have hstale := Move.staleFor_of_met hgen
      refine ⟨fun tr t n i htr hput => ?_, fun k t n i hput => ?_⟩
      · refine ((exec_edit_resets (i := .trackClear l slot tr e) rfl rfl hs).2 he).1 _ _ ?_
        simp [State.judge, State.takeTrackClear, htr, hslot, hm, hstale, hb, State.transferHas_putNames_true hput]
      · refine ((exec_edit_resets (i := .moveRetire l slot e) rfl rfl hs).2 he).1 _ _ ?_
        have hany := State.putOn_links_iff.2 ⟨k, t, n, i, hput⟩
        simp [State.judge, State.takeRetire, hslot, hm, hstale, hb, hany]
    · intro src dst he
      obtain ⟨hrefuse, -, -⟩ := (exec_edit_resets (i := .moveCopy l src dst e) rfl rfl hs).2 he
      refine ⟨fun hout => hrefuse _ _ (if_pos ?_), fun h1 h2 h3 h4 =>
        ⟨fun hm => hrefuse _ _ ?_, fun m g hm hg hne => hrefuse _ _ ?_⟩⟩
      · simp only [slotOk, Bool.not_eq_true', Bool.and_eq_false_iff, decide_eq_false_iff_not]
        omega
      · simp [State.judge, State.takeCopy, slotOk_of_bounds h1 h2, slotOk_of_bounds h3 h4, hm]
      · simp [State.judge, State.takeCopy, slotOk_of_bounds h1 h2, slotOk_of_bounds h3 h4, hm,
          Move.staleFor_of_other hg hne, refusesStale]
  · intro s l slot m e hs he h1 h64 hm hgen d
    have hslot := slotOk_of_bounds h1 h64
    have hstale := Move.staleFor_of_met hgen
    refine ⟨fun dst h3 h4 => ?_, fun hb hp hput => ?_⟩
    · obtain ⟨hrefuse, -, hbegin⟩ := (exec_edit_resets (i := .moveCopy l slot dst e) rfl rfl hs).2 he
      have hdst := slotOk_of_bounds h3 h4
      refine ⟨fun hd => hrefuse _ _ ?_, fun hd hfree => hrefuse _ _ ?_, fun hd hfree => hbegin _ _ ?_⟩
      · simp [State.judge, State.takeCopy, hslot, hdst, hm, hstale, hd]
      · simp [State.judge, State.takeCopy, hslot, hdst, hm, hstale, hd, hfree]
      · simp [State.judge, State.takeCopy, hslot, hdst, hm, hstale, hd, Nat.not_lt.2 hfree, d, Move.fresh]
    · have hnone : allLinks.any (fun k => s.transferHas k (Transfer.putOn slot)) = false := by
        rw [Bool.eq_false_iff, Ne, State.putOn_links_iff]
        rintro ⟨k, t, n, i, hk⟩
        exact hput k t n i hk
      have hjudge : d.judge l (.moveRetire slot e) = .timed
          ((if m.state = .checking then d.contentChange slot else d).onLinks (fun k =>
            { k with transfer := k.transfer.map (Transfer.retire slot), marks := k.marks.forget slot }))
          (.moveRetire slot) := by
        have hcheck : (if m.state = .checking then d.contentChange slot else d) =
            if m.state = .checking then d.cancelCheck slot else d := by
          split
          · next hc => exact State.contentChange_checking ((s.deselect_move l slot).trans hm) hc
          · rfl
        rw [hcheck]
        simp only [State.judge, State.takeRetire, hslot, State.deselect_move, hm, hstale, hb, d,
          State.deselect_transferHas, hnone, hp]
        rfl
      exact ((exec_edit_resets (i := .moveRetire l slot e) rfl rfl hs).2 he).2.2 _ _ hjudge

end Sys2Proof.Machine
end

section
/-! SUPPORT. Keys merged into a track by their frames (R6, R36), said once for both kinds of key. -/

namespace Sys2Proof.Machine

variable {α : Type} {frame : α → Nat} {k x : α} {xs ks : List α}

/-- A key joins a list of keys in frame order: it replaces the key of its frame, or is inserted. -/
def insertBy (frame : α → Nat) (k : α) : List α → List α
  | [] => [k]
  | x :: xs =>
    if frame k < frame x then k :: x :: xs
    else if frame k = frame x then k :: xs
    else x :: insertBy frame k xs

theorem insertAxisKey_eq (k : AxisKey) (xs : List AxisKey) : insertAxisKey k xs = insertBy AxisKey.frame k xs := by
  induction xs with
  | nil => rfl
  | cons x xs ih => simp only [insertAxisKey, insertBy, ih]

theorem insertSpeedKey_eq (k : SpeedKey) (xs : List SpeedKey) :
    insertSpeedKey k xs = insertBy SpeedKey.frame k xs := by
  induction xs with
  | nil => rfl
  | cons x xs ih => simp only [insertSpeedKey, insertBy, ih]

theorem insertBy_frames (k : α) (xs : List α) :
    (insertBy frame k xs).map frame = insertFrame (frame k) (xs.map frame) := by
  induction xs with
  | nil => rfl
  | cons x xs ih =>
    simp only [insertBy, insertFrame, List.map_cons]
    split
    · rfl
    · split
      · rfl
      · rw [List.map_cons, ih]

/-- In a list in frame order the key of a frame is the only one of it, so that the one inserted takes its place. -/
theorem mem_insertBy (h : (xs.map frame).Pairwise (· < ·)) :
    x ∈ insertBy frame k xs ↔ x = k ∨ (x ∈ xs ∧ frame x ≠ frame k) := by
  induction xs with
  | nil => simp [insertBy]
  | cons y ys ih =>
    obtain ⟨hy, hys⟩ := List.pairwise_cons.1 (List.map_cons ▸ h)
    have habove : ∀ z ∈ ys, frame y < frame z := fun z hz => hy _ (List.mem_map_of_mem hz)
    unfold insertBy
    split
    · next hlt =>
      have hne : ∀ z ∈ y :: ys, frame z ≠ frame k := by
        intro z hz
        rcases List.mem_cons.1 hz with rfl | hz
        · omega
        · have := habove z hz
          omega
      rw [List.mem_cons]
      exact or_congr_right ⟨fun hz => ⟨hz, hne x hz⟩, And.left⟩
    · split
      · next heq =>
        have hne : ∀ z ∈ ys, frame z ≠ frame k := fun z hz => by
          have := habove z hz
          omega
        rw [List.mem_cons, List.mem_cons]
        refine or_congr_right ⟨fun hz => ⟨.inr hz, hne x hz⟩, ?_⟩
        rintro ⟨rfl | hz, hxk⟩
        · exact absurd heq.symm hxk
        · exact hz
      · next hge hne =>
        rw [List.mem_cons, List.mem_cons, ih hys]
        constructor
        · rintro (rfl | rfl | ⟨hz, hxk⟩)
          · exact .inr ⟨.inl rfl, fun e => hne e.symm⟩
          · exact .inl rfl
          · exact .inr ⟨.inr hz, hxk⟩
        · rintro (rfl | ⟨rfl | hz, hxk⟩)
          · exact .inr (.inl rfl)
          · exact .inl rfl
          · exact .inr (.inr ⟨hz, hxk⟩)

/-- A block merged key by key: its own keys, and those whose frame it does not have. -/
theorem mem_foldl_insertBy (hx : (xs.map frame).Pairwise (· < ·)) (hk : (ks.map frame).Pairwise (· < ·)) :
    x ∈ ks.foldl (fun tr k => insertBy frame k tr) xs ↔ x ∈ ks ∨ (x ∈ xs ∧ ∀ j ∈ ks, frame j ≠ frame x) := by
  induction ks generalizing xs with
  | nil => simp
  | cons k ks ih =>
    obtain ⟨hlt, hks⟩ := List.pairwise_cons.1 (List.map_cons ▸ hk)
    have hstep : ((insertBy frame k xs).map frame).Pairwise (· < ·) := by
      rw [insertBy_frames]
      exact insertFrame_pairwise _ hx
    have hapart : ∀ j ∈ ks, frame j ≠ frame k := fun j hj => by
      have := hlt _ (List.mem_map_of_mem hj)
      omega
    rw [List.foldl_cons, ih hstep hks, mem_insertBy hx, List.mem_cons, List.forall_mem_cons]
    constructor
    · rintro (h | ⟨rfl | ⟨h, hne⟩, hall⟩)
      · exact .inl (.inr h)
      · exact .inl (.inl rfl)
      · exact .inr ⟨h, fun e => hne e.symm, hall⟩
    · rintro ((rfl | h) | ⟨h, hne, hall⟩)
      · exact .inr ⟨.inl rfl, hapart⟩
      · exact .inl h
      · exact .inr ⟨.inr ⟨h, fun e => hne e.symm⟩, hall⟩

theorem foldl_insertBy_pairwise (hx : (xs.map frame).Pairwise (· < ·)) :
    ((ks.foldl (fun tr k => insertBy frame k tr) xs).map frame).Pairwise (· < ·) := by
  rw [foldl_map_of_map (step' := fun l f => insertFrame f l) (h := frame) (fun l k => insertBy_frames k l)]
  exact mergeFrames_pairwise hx

theorem Move.merge_axisTrack (m : Move) (a c : AxisId) (ks : List AxisKey) :
    (m.merge (.axis a) (.axis ks)).axisTrack c =
      if c = a then ks.foldl (fun tr k => insertBy AxisKey.frame k tr) (m.axisTrack a) else m.axisTrack c := by
  unfold Move.merge
  rw [Move.setAxisTrack_axisTrack]
  simp only [insertAxisKey_eq]

theorem Move.merge_speedTrack (m : Move) (ks : List SpeedKey) :
    (m.merge .speed (.speed ks)).speedTrack =
      ks.foldl (fun tr k => insertBy SpeedKey.frame k tr) m.speedTrack := by
  unfold Move.merge
  simp only [insertSpeedKey_eq]

/-- Settles O21: both kinds of track take a block as a list of keys in frame order does. -/
theorem mergingReplacesAndInsertsInFrameOrder : Obligations.MergingReplacesAndInsertsInFrameOrder := by
  constructor
  · intro m a ks hm hk
    rw [increasing_iff] at hm hk
    rw [increasing_iff, m.merge_axisTrack a a ks, if_pos rfl]
    refine ⟨foldl_insertBy_pairwise hm, fun k => mem_foldl_insertBy hm hk, fun c hc => ?_, rfl⟩
    rw [m.merge_axisTrack a c ks, if_neg hc]
  · intro m ks hm hk
    rw [increasing_iff] at hm hk
    rw [increasing_iff, m.merge_speedTrack ks]
    exact ⟨foldl_insertBy_pairwise hm, fun k => mem_foldl_insertBy hm hk, rfl⟩

end Sys2Proof.Machine
end

section
/-! SUPPORT. The order in which the edits of one slot are refused (R26, R47, R48). -/

namespace Sys2Proof.Machine

variable {s : State} {l : LinkId} {slot first last tr : Nat} {label : List Byte} {m : Move}
  {e : Option Nat} {c : EditCmd}

/-- The edits that change, open or remove the content of one slot. -/
def contentEdits (slot first last tr : Nat) (label : List Byte) (e : Option Nat) : List EditCmd :=
  [.moveSpan slot first last e, .moveLabel slot label e, .trackClear slot tr e, .keysPut slot tr e,
    .moveRetire slot e]

/-- The edits that set the protection of one slot. -/
def settingEdits (slot : Nat) (e : Option Nat) : List EditCmd := [.moveProtect slot e, .moveUnprotect slot e]

theorem mem_contentEdits : c ∈ contentEdits slot first last tr label e ↔
    c = .moveSpan slot first last e ∨ c = .moveLabel slot label e ∨ c = .trackClear slot tr e ∨
      c = .keysPut slot tr e ∨ c = .moveRetire slot e := by simp [contentEdits]

theorem mem_settingEdits : c ∈ settingEdits slot e ↔ c = .moveProtect slot e ∨ c = .moveUnprotect slot e := by
  simp [settingEdits]

theorem resetsRange_of_contentEdits (hc : c ∈ contentEdits slot first last tr label e) : c.resetsRange = true := by
  rcases mem_contentEdits.1 hc with rfl | rfl | rfl | rfl | rfl <;> rfl

theorem resetsRange_of_settingEdits (hc : c ∈ settingEdits slot e) : c.resetsRange = true := by
  rcases mem_settingEdits.1 hc with rfl | rfl <;> rfl

section
variable {t : TrackId} (hspan : spanOk first last = true) (hlabel : labelOk label = true) (htr : trackOf tr = some t)
  (hown : (s.link l).transfer = none)
  (hc : c ∈ contentEdits slot first last tr label e ∨ c ∈ settingEdits slot e)
include hspan hlabel htr hown hc

/-- The first tests of R26: the slot, the move it holds, and the expectation. -/
theorem State.judge_slot :
    (slotOk slot = false → s.judge l c = refuses .range) ∧
    (slotOk slot = true → s.move slot = none → s.judge l c = refuses .state) ∧
    (slotOk slot = true → ∀ m, s.move slot = some m → m.staleFor e = true → s.judge l c = refusesStale m) := by
  rw [mem_contentEdits, mem_settingEdits] at hc
  rcases hc with (rfl | rfl | rfl | rfl | rfl) | (rfl | rfl)
  · simp +contextual [State.judge, State.takeMoveSpan, hspan]
  · simp +contextual [State.judge, State.takeMoveLabel, hlabel]
  · simp +contextual [State.judge, State.takeTrackClear, htr]
  · simp +contextual [State.judge, State.takeKeysPut, htr, hown]
  · simp +contextual [State.judge, State.takeRetire]
  · simp +contextual [State.judge, State.takeProtect]
  · simp +contextual [State.judge, State.takeUnprotect]

end

section
variable {t : TrackId} (hspan : spanOk first last = true) (hlabel : labelOk label = true) (htr : trackOf tr = some t)
  (hno : ∀ k, (s.link k).transfer = none) (hm : s.move slot = some m) (hst : m.staleFor e = false)
  (hc : c ∈ contentEdits slot first last tr label e)
include hspan hlabel htr hno hm hst hc

/-- The tests of R26 on a move that meets the expectation, with no transfer open: HELD, then PROTECTED. -/
theorem State.judge_held :
    (m.state = .bound → s.judge l c = refuses .held) ∧
    (m.state ≠ .bound → m.isProtected = true → m.outside first last = none →
      s.judge l c = refuses .isProtected) := by
  have hslot := slotOk_of_move hm
  have hhas : ∀ k f, s.transferHas k f = false := fun k f => State.transferHas_of_none (hno k)
  rw [mem_contentEdits] at hc
  rcases hc with rfl | rfl | rfl | rfl | rfl
  · simp +contextual [State.judge, State.takeMoveSpan, hslot, hspan, hm, hst]
  · simp +contextual [State.judge, State.takeMoveLabel, hslot, hlabel, hm, hst]
  · simp +contextual [State.judge, State.takeTrackClear, hslot, htr, hm, hst, hhas]
  · simp +contextual [State.judge, State.takeKeysPut, hslot, htr, hm, hst, hno, hhas]
  · simp +contextual [State.judge, State.takeRetire, hslot, hm, hst, hhas]

end

/-- Settles O23: every one of these rows is a store edit that clears the marks, and the edit unit's decision meets the
tests in the order of R26. -/
theorem editsAreRefusedInTheOrderOfR26 : Obligations.EditsAreRefusedInTheOrderOfR26 := by
  intro s l slot dst first last tr label e i hs hlt h16 htr16 hlabel hown hother content setting d
  have hspan : spanOk first last = true := spanOk_iff.2 ⟨hlt, h16⟩
  obtain ⟨t, htr⟩ := Option.isSome_iff_exists.1 (trackOf_isSome.2 htr16)
  have hno : ∀ k, ((s.deselect l).link k).transfer = none := by
    intro k
    rw [State.deselect_link_transfer]
    cases l <;> cases k
    · exact hown
    · exact hother
    · exact hother
    · exact hown
  have hcontent : content → ∃ c ∈ contentEdits slot first last tr label e, editOf i = some (l, c) := by
    rintro (rfl | rfl | rfl | rfl | rfl) <;> exact ⟨_, by simp [contentEdits], rfl⟩
  have hsetting : setting → ∃ c ∈ settingEdits slot e, editOf i = some (l, c) := by
    rintro (rfl | rfl) <;> exact ⟨_, by simp [settingEdits], rfl⟩
  have hedit : content ∨ setting → ∃ c, (c ∈ contentEdits slot first last tr label e ∨ c ∈ settingEdits slot e) ∧
      c.resetsRange = true ∧ editOf i = some (l, c) := by
    rintro (h | h)
    · obtain ⟨c, hc, hi⟩ := hcontent h
      exact ⟨c, .inl hc, resetsRange_of_contentEdits hc, hi⟩
    · obtain ⟨c, hc, hi⟩ := hsetting h
      exact ⟨c, .inr hc, resetsRange_of_settingEdits hc, hi⟩
  refine ⟨fun h r he hr => ?_, fun h he => ?_⟩
  · have hrow : ∃ c : EditCmd, c.resetsRange = true ∧ editOf i = some (l, c) := by
      rcases or_assoc.2 h with h | rfl
      · obtain ⟨c, -, hrr, hi⟩ := hedit h
        exact ⟨c, hrr, hi⟩
      · exact ⟨_, rfl, rfl⟩
    obtain ⟨c, hrr, hi⟩ := hrow
    exact (exec_edit_resets hi hrr hs).1 r he hr
  · obtain ⟨c, hc, hrr, hi⟩ := hedit h
    have hrefuse := ((exec_edit_resets hi hrr hs).2 he).1
    obtain ⟨hrange, hempty, hstale⟩ := State.judge_slot hspan hlabel htr (hno l) hc
    refine ⟨fun hout => hrefuse _ _ (hrange ?_), fun h1 h64 => ?_⟩
    · simp only [slotOk, decide_eq_false_iff_not]
      omega
    · have hslot := slotOk_of_bounds h1 h64
      refine ⟨fun hm => hrefuse _ _ (hempty hslot ((s.deselect_move l slot).trans hm)), fun m hm => ?_⟩
      have hm' := (s.deselect_move l slot).trans hm
      refine ⟨fun g hg hne => hrefuse _ _ (hstale hslot m hm' (Move.staleFor_of_other hg hne)), fun hct hgen => ?_⟩
      obtain ⟨c', hc', hi'⟩ := hcontent hct
      cases hi.symm.trans hi'
      obtain ⟨hheld, hprot⟩ := State.judge_held hspan hlabel htr hno hm' (Move.staleFor_of_met hgen) hc'
      exact ⟨fun hb => hrefuse _ _ (hheld hb), fun hb hp hout => hrefuse _ _ (hprot hb hp hout)⟩

end Sys2Proof.Machine
end

section
/-! SUPPORT. The ends of the timed edits (R22, R36, R41 to R44), and what waits behind them (R24). -/

namespace Sys2Proof.Machine

variable {s t : State} {l : LinkId} {r : EditRun} {slot : Nat} {tr : TrackId} {m : Move}

/-! ### The row of an operation's end -/

/-- The row that ends an operation. -/
def EditOp.ending : EditOp → Instr
  | .dataBlock _ _ _ => .dataBlockApplied
  | .keyDrop _ _ _ _ => .keyDropEnd
  | .trackClear _ _ => .trackClearEnd
  | .moveCopy _ _ => .moveCopyEnd
  | .moveRetire _ => .moveRetireEnd

theorem State.finishIf_of {f : EditRun → Bool} (he : s.edit = some r) (hf : f r = true) :
    s.finishIf f = s.finishEdit := by
  unfold State.finishIf
  rw [he]
  exact if_pos hf

theorem exec_ending (he : s.edit = some r) : exec r.op.ending s = .next s.finishEdit := by
  cases hop : r.op with
  | dataBlock slot t ks => exact congrArg _ (State.finishIf_of he (by simp [EditRun.isBlock, hop]))
  | keyDrop slot t a b => exact congrArg _ (State.finishIf_of he (by simp [EditRun.isDrop, hop]))
  | trackClear slot t => exact congrArg _ (State.finishIf_of he (by simp [EditRun.isClear, hop]))
  | moveCopy src dst => exact congrArg _ (State.finishIf_of he (by simp [EditRun.isCopy, hop]))
  | moveRetire slot => exact congrArg _ (State.finishIf_of he (by simp [EditRun.isRetire, hop]))

/-! ### What an end leaves of the links -/

theorem State.link_congr (ha : t.linkA = s.linkA) (hb : t.linkB = s.linkB) (l : LinkId) : t.link l = s.link l := by
  cases l
  · exact ha
  · exact hb

@[simp] theorem State.rewrite_link (n : Nat) (m k : Move) : (s.rewrite n m k).link l = s.link l := by
  refine State.link_congr ?_ ?_ l <;> unfold State.rewrite <;> dsimp only
  · exact s.setMove_linkA n _
  · exact s.setMove_linkB n _

@[simp] theorem State.remove_link (n : Nat) (tr : TrackId) (f : Nat → Bool) : (s.remove n tr f).link l = s.link l := by
  unfold State.remove
  split
  · rfl
  · split
    · exact State.rewrite_link _ _ _
    · rfl

@[simp] theorem State.endCopy_link (src dst : Nat) : (s.endCopy src dst).link l = s.link l := by
  unfold State.endCopy
  split
  · refine State.link_congr ?_ ?_ l <;> dsimp only
    · exact s.setMove_linkA dst _
    · exact s.setMove_linkB dst _
  · rfl

@[simp] theorem State.endRetire_link (n : Nat) : (s.endRetire n).link l = s.link l := by
  refine State.link_congr ?_ ?_ l <;> unfold State.endRetire <;> dsimp only
  · exact s.setMove_linkA n _
  · exact s.setMove_linkB n _

/-- An operation's end writes of the links a put transfer's accepted count at most. -/
theorem State.completeOp_link : (s.completeOp r).link l = s.link l ∨ ∃ n, (s.completeOp r).link l =
    { s.link l with transfer := (s.link l).transfer.map (Transfer.addAccepted n) } := by
  have h : (s.completeOp r).link l = (s.applyOp r).link l := by cases l <;> rfl
  rw [h]
  unfold State.applyOp
  split
  · next slot t ks _ =>
    unfold State.endBlock
    dsimp only
    by_cases hl : l = r.link
    · subst hl
      refine .inr ⟨ks.count, ?_⟩
      rw [State.onLink_link]
      split
      · rw [State.rewrite_link]
      · rfl
    · left
      rw [State.onLink_link_ne _ _ hl]
      split
      · rw [State.rewrite_link]
      · rfl
  · exact .inl (State.remove_link _ _ _)
  · exact .inl (State.remove_link _ _ _)
  · exact .inl (State.endCopy_link _ _)
  · exact .inl (State.endRetire_link _)

/-! ### What a link holds that the edit unit and the other link see -/

/-- The slot and the track the open transfer of a link names. -/
def Link.named (k : Link) : Option (Nat × TrackId) := k.transfer.map Transfer.target

/-- The items of a link that wait behind the edit unit: its buffered block and its held item. -/
def Link.queued (k : Link) : Option BufferedBlock × Option HeldItem := (k.buffer, k.held)

/-- What a link holds beside its settings, its flags and its answer. -/
def Link.desk (k : Link) : Option (Nat × TrackId) × Marks × Option BufferedBlock × Option HeldItem :=
  (k.named, k.marks, k.queued)

/-- A block or a held item of a link waits. -/
def Link.waits (k : Link) : Bool := k.buffer.isSome || k.held.isSome

theorem Link.named_of_desk {k x : Link} (h : k.desk = x.desk) : k.named = x.named := (congrArg Prod.fst h :)

theorem Link.marks_of_desk {k x : Link} (h : k.desk = x.desk) : k.marks = x.marks :=
  (congrArg (fun d => d.2.1) h :)

theorem Link.queued_of_desk {k x : Link} (h : k.desk = x.desk) : k.queued = x.queued :=
  (congrArg (fun d => d.2.2) h :)

theorem Link.buffer_of_queued {k x : Link} (h : k.queued = x.queued) : k.buffer = x.buffer := (congrArg Prod.fst h :)

theorem Link.held_of_queued {k x : Link} (h : k.queued = x.queued) : k.held = x.held := (congrArg Prod.snd h :)

theorem Link.waits_of_queued {k x : Link} (h : k.queued = x.queued) : k.waits = x.waits := by
  rw [Link.waits, Link.buffer_of_queued h, Link.held_of_queued h, Link.waits]

theorem Link.waits_eq_false {k : Link} : k.waits = false ↔ k.buffer = none ∧ k.held = none := by
  simp [Link.waits]

@[simp] theorem Link.raise_desk (e : EventKind) (k : Link) : (k.raise e).desk = k.desk := rfl

/-- A link's update that leaves a part of it leaves that part of both links. -/
theorem State.onLink_part {β : Type} (q : Link → β) {f : Link → Link} (hf : ∀ k, q (f k) = q k) (k : LinkId) :
    q ((s.onLink l f).link k) = q (s.link k) := by
  by_cases hk : k = l
  · subst hk
    rw [State.onLink_link, hf]
  · rw [State.onLink_link_ne _ _ hk]

@[simp] theorem State.answer_desk (x : Answer) (k : LinkId) : ((s.answer l x).link k).desk = (s.link k).desk :=
  State.onLink_part Link.desk (fun _ => by rfl) k

@[simp] theorem State.accept_desk (res : Results) (b : Bool) (k : LinkId) :
    ((s.accept l res b).link k).desk = (s.link k).desk := State.answer_desk _ k

/-- A change of the transfer that goes on naming its slot and track. -/
theorem Link.desk_transfer {f : Transfer → Transfer} (hf : ∀ x, (f x).target = x.target) (k : Link) :
    ({ k with transfer := k.transfer.map f } : Link).desk = k.desk := by
  cases ht : k.transfer <;> simp [Link.desk, Link.named, Link.queued, ht, hf]

theorem Transfer.restart_target (x : Transfer) : x.restart.target = x.target := by cases x <;> rfl

theorem Transfer.addAccepted_target (n : Nat) (x : Transfer) : (x.addAccepted n).target = x.target := by
  cases x <;> rfl

theorem Transfer.retire_target (n : Nat) (x : Transfer) : (x.retire n).target = x.target := by cases x <;> rfl

@[simp] theorem State.acknowledge_desk (due : Bool) (x : Answer) (k : LinkId) :
    ((s.acknowledge l due x).link k).desk = (s.link k).desk := by
  have h := State.onLink_part (s := s) (l := l) Link.desk (Link.desk_transfer Transfer.restart_target) k
  unfold State.acknowledge
  dsimp only
  split
  · rw [State.answer_desk, h]
  · exact h

@[simp] theorem State.cancelCheck_desk (n : Nat) (k : LinkId) :
    ((s.cancelCheck n).link k).desk = (s.link k).desk := by
  unfold State.cancelCheck
  rw [State.raise_link, State.onMove_link, Link.raise_desk]
  cases k <;> rfl

@[simp] theorem State.contentChange_desk (n : Nat) (k : LinkId) :
    ((s.contentChange n).link k).desk = (s.link k).desk := by
  unfold State.contentChange
  split
  · split
    · exact State.cancelCheck_desk _ _
    · rw [State.onMove_link]
    · rfl
    · rfl
  · rfl

@[simp] theorem State.completeOp_desk (k : LinkId) : ((s.completeOp r).link k).desk = (s.link k).desk := by
  rcases State.completeOp_link (s := s) (r := r) (l := k) with h | ⟨n, h⟩ <;> rw [h]
  exact Link.desk_transfer (Transfer.addAccepted_target n) _

@[simp] theorem State.answerOp_desk (k : LinkId) : ((t.answerOp r s).link k).desk = (t.link k).desk := by
  unfold State.answerOp
  split
  · exact State.acknowledge_desk _ _ _
  all_goals
    split
    · exact State.accept_desk _ _ _
    · rfl

/-! ### An end with nothing behind it -/

theorem State.endsAlone_iff : s.endsAlone r = true ↔
    s.edit = some r ∧ s.resetWaiting = false ∧ ∀ k, (s.link k).nothingWaits = true := by
  have hk : (∀ k, (s.link k).nothingWaits = true) ↔
      s.linkA.nothingWaits = true ∧ s.linkB.nothingWaits = true :=
    ⟨fun h => ⟨h .a, h .b⟩, fun h k => by cases k; exact h.1; exact h.2⟩
  rw [hk]
  simp [State.endsAlone, and_assoc]

theorem Link.nothingWaits_iff {k : Link} : k.nothingWaits = true ↔ k.waits = false ∧ k.collection ≠ .waiting := by
  simp [Link.nothingWaits, Link.waits]

theorem State.serveCollection_of_none (h : (s.link l).collection ≠ .waiting) : s.serveCollection l = s := by
  unfold State.serveCollection
  split
  · next hc _ => exact absurd hc h
  · rfl

theorem State.takeWaiting_of_none (h : (s.link l).waits = false) : s.takeWaiting l = none := by
  obtain ⟨hb, hh⟩ := Link.waits_eq_false.1 h
  unfold State.takeWaiting
  rw [hb, hh]

theorem State.arbitrate_of_none (h : ∀ k, (s.link k).waits = false) (n : Nat) (l : LinkId) : s.arbitrate n l = s := by
  cases n with
  | zero => rfl
  | succ n =>
    unfold State.arbitrate
    rw [State.takeWaiting_of_none (h _), State.takeWaiting_of_none (h _)]
    exact ite_self _

theorem State.answerOp_collection (k : LinkId) :
    ((t.answerOp r s).link k).collection = (t.link k).collection := by
  unfold State.answerOp
  split
  · unfold State.acknowledge
    dsimp only
    split
    · exact (State.onLink_part Link.collection (fun _ => by rfl) k).trans
        (State.onLink_part Link.collection (fun _ => by rfl) k)
    · exact State.onLink_part Link.collection (fun _ => by rfl) k
  all_goals
    split
    · exact State.onLink_part Link.collection (fun _ => by rfl) k
    · rfl

theorem State.completeOp_collection (k : LinkId) :
    ((s.completeOp r).link k).collection = (s.link k).collection := by
  rcases State.completeOp_link (s := s) (r := r) (l := k) with h | ⟨n, h⟩ <;> rw [h]

/-- An operation that ends with nothing behind it has its effect and its answer, and that is all. -/
theorem State.finishEdit_alone (h : s.endsAlone r = true) : s.finishEdit = (s.completeOp r).answerOp r s := by
  obtain ⟨he, hw, hk⟩ := State.endsAlone_iff.1 h
  have hwaits : ∀ k, (((s.completeOp r).answerOp r s).link k).waits = false := fun k => by
    rw [Link.waits_of_queued (Link.queued_of_desk ((State.answerOp_desk k).trans (State.completeOp_desk k)))]
    exact (Link.nothingWaits_iff.1 (hk k)).1
  have hcol : ∀ k, (((s.completeOp r).answerOp r s).link k).collection ≠ .waiting := fun k => by
    rw [State.answerOp_collection, State.completeOp_collection]
    exact (Link.nothingWaits_iff.1 (hk k)).2
  have hserve : ((s.completeOp r).answerOp r s).serveCollections = (s.completeOp r).answerOp r s := by
    unfold State.serveCollections
    rw [State.serveCollection_of_none (hcol .a), State.serveCollection_of_none (hcol .b)]
  unfold State.finishEdit
  rw [he]
  dsimp only
  rw [if_neg (by simp [hw]), hserve, State.arbitrate_of_none hwaits]

end Sys2Proof.Machine
end

section
/-! SUPPORT. The results of a timed edit, and the tick that ends it (R22, R41 to R44). -/

namespace Sys2Proof.Machine

variable {s t : State} {l : LinkId} {r : EditRun} {slot : Nat} {tr : TrackId} {m : Move}

/-- The answer of an operation of a command: its results, while its sender is still selected. -/
theorem State.answerOp_command (h : r.isBlock = false) :
    t.answerOp r s = if r.answerDue then t.accept r.link (r.results s t) r.rangeReset else t := by
  unfold State.answerOp
  unfold EditRun.isBlock at h
  split
  · next hop => rw [hop] at h; cases h
  all_goals rfl

/-- The row of a command's operation that ends with nothing behind it. -/
theorem exec_ending_alone (h : s.endsAlone r = true) (hr : r.isBlock = false) :
    exec r.op.ending s = .next (if r.answerDue
      then (s.completeOp r).accept r.link (r.results s (s.completeOp r)) r.rangeReset else s.completeOp r) := by
  rw [exec_ending (State.endsAlone_iff.1 h).1, State.finishEdit_alone h, State.answerOp_command hr]

/-- A removal as it ends, the keys it takes and the generation it leaves. -/
theorem State.remove_ended (hm : s.move slot = some m) (f : Nat → Bool) :
    ({ s.remove slot tr f with edit := none } : State) =
      if (m.frames tr).any f then
        { s.setMove slot (some { m.keep tr (fun n => !f n) with generation := (m.generation + 1) % 65536 }) with
          free := s.free + m.blocks - (m.keep tr (fun n => !f n)).blocks, edit := none }
      else { s with edit := none } := by
  unfold State.remove
  rw [hm]
  dsimp only
  split
  · simp only [State.rewrite, nextGeneration]
  · rfl

theorem State.generationOf_congr (h : t.slots = s.slots) (n : Nat) : t.generationOf n = s.generationOf n := by
  unfold State.generationOf
  rw [State.move_congr h]

theorem State.removed_eq (hm : s.move slot = some m) (f : Nat → Bool) :
    s.removed slot tr f = ((m.frames tr).filter f).length := by
  unfold State.removed
  rw [hm]

theorem State.generationOf_eq (hm : s.move slot = some m) : s.generationOf slot = m.generation := by
  unfold State.generationOf
  rw [hm]

theorem State.remove_generationOf (hm : s.move slot = some m) (f : Nat → Bool) :
    ({ s.remove slot tr f with edit := none } : State).generationOf slot =
      if (m.frames tr).any f then (m.generation + 1) % 65536 else m.generation := by
  obtain ⟨h1, h2⟩ := s.move_bounds hm
  refine (State.generationOf_congr (s := s.remove slot tr f) rfl slot).trans ?_
  unfold State.remove
  rw [hm]
  dsimp only
  split
  · exact (State.generationOf_congr (s.rewrite_slots _ _ _) slot).trans
      (State.generationOf_eq (s.setMove_move h1 h2 _))
  · exact State.generationOf_eq hm

theorem Move.frames_length (m : Move) (tr : TrackId) : (m.frames tr).length = m.keyCount tr := by
  cases tr <;> simp [Move.frames, Move.keyCount]

theorem State.opBound_copy (src dst : Nat) :
    s.opBound (.moveCopy src dst) = 4 + (((s.move src).map Move.blocks).getD 0 + 7) / 8 := by
  have hblocks : s.blocksIn src = ((s.move src).map Move.blocks).getD 0 := by
    unfold State.blocksIn
    cases s.move src <;> rfl
  rw [← hblocks]
  rfl

/-- Settles O19. Each end by its own effect on the store, and the tick by the bound of the operation. -/
theorem timedEditsEnd : Obligations.TimedEditsEnd := by
  refine ⟨?_, ?_, fun s he => ?_, ?_⟩
  · intro s r slot t m h hm after gen
    have hafter : ∀ f, ({ s.remove slot t f with edit := none } : State) = after f := fun f => State.remove_ended hm f
    have hgen : ∀ f, (after f).generationOf slot = gen f := fun f => hafter f ▸ State.remove_generationOf hm f
    refine ⟨fun a b hop => ?_, fun hop => ?_⟩
    · intro f
      have hexec := exec_ending_alone h (by simp [EditRun.isBlock, hop])
      have hdone : s.completeOp r = after f := by
        rw [← hafter, State.completeOp, State.applyOp, hop]
        rfl
      have hres : r.results s (after f) = .dropped ((m.frames t).filter f).length (gen f) := by
        rw [EditRun.results, hop]
        dsimp only
        rw [hgen, State.removed_eq hm]
        rfl
      rwa [hop, hdone, hres] at hexec
    · intro f
      have hexec := exec_ending_alone h (by simp [EditRun.isBlock, hop])
      have hdone : s.completeOp r = after f := by
        rw [← hafter, State.completeOp, State.applyOp, hop]
      have hres : r.results s (after f) = .cleared (m.keyCount t) (after f).free (gen f) := by
        rw [EditRun.results, hop]
        dsimp only
        rw [hgen, State.removed_eq hm, List.filter_true, Move.frames_length]
      rwa [hop, hdone, hres] at hexec
  · intro s r m h
    refine ⟨fun src dst d hop hm hd => ?_, fun slot hop hm => ?_⟩
    · intro t
      have hexec := exec_ending_alone h (by simp [EditRun.isBlock, hop])
      have hdone : s.completeOp r = t := by
        rw [State.completeOp, State.applyOp, hop]
        dsimp only
        unfold State.endCopy
        rw [hm, hd]
      have hres : r.results s t = .copied dst 0 (s.free - m.blocks) := by
        rw [EditRun.results, hop]
      rwa [hop, hdone, hres] at hexec
    · intro t
      have hexec := exec_ending_alone h (by simp [EditRun.isBlock, hop])
      have hdone : s.completeOp r = t := by
        rw [State.completeOp, State.applyOp, hop]
        dsimp only
        unfold State.endRetire
        rw [State.blocksIn_of_move hm]
      have hres : r.results s t = .retired m.blocks (s.free + m.blocks) := by
        rw [EditRun.results, hop]
        dsimp only
        rw [State.blocksIn_of_move hm]
      rwa [hop, hdone, hres] at hexec
  · unfold State.tickEdit
    rw [he]
  · intro s r i he hi bound
    have hending : i = r.op.ending := by
      rw [hi]
      cases r.op <;> rfl
    have hbound : s.opBound r.op = bound := by
      cases hop : r.op with
      | moveCopy src dst => simp only [bound, hop, State.opBound_copy]
      | dataBlock slot t ks => simp only [bound, hop]; rfl
      | keyDrop slot t a b => simp only [bound, hop]; rfl
      | trackClear slot t => simp only [bound, hop]; rfl
      | moveRetire slot => simp only [bound, hop]; rfl
    have htick : s.tickEdit = if bound ≤ r.elapsed + 1 then s.finishEdit
        else { s with edit := some { r with elapsed := r.elapsed + 1 } } := by
      unfold State.tickEdit
      rw [he]
      dsimp only
      rw [hbound]
    refine ⟨fun hlt => htick.trans (if_neg (Nat.not_le.2 hlt)), fun hge => ?_⟩
    rw [htick, if_pos hge, hending, exec_ending he]

end Sys2Proof.Machine
end

section
/-! SUPPORT. What the edit unit leaves of the links and of the check as it takes an item (R22 to R28, R34), said once
for the twelve store edits, the data blocks and the end markers. -/

namespace Sys2Proof.Machine

variable {s t u : State} {l : LinkId} {slot : Nat} {c : CheckRun} {m k : Move}

/-! ### No two transfers name one track (R34) -/

theorem LinkId.eq_or_other (k l : LinkId) : k = l ∨ k = l.other := by
  cases k <;> cases l <;> decide

theorem State.transfersApart_iff : s.transfersApart = true ↔
    ∀ l p, (s.link l).named = some p → (s.link l.other).named ≠ some p := by
  have h : s.transfersApart = true ↔ ∀ p, s.linkA.named = some p → s.linkB.named ≠ some p := by
    unfold State.transfersApart Link.named
    cases s.linkA.transfer with
    | none => simp
    | some a =>
      cases s.linkB.transfer with
      | none => simp
      | some b => simp [eq_comm (a := b.target)]
  rw [h]
  constructor
  · intro h l p hp hq
    cases l
    · exact h p hp hq
    · exact h p hq hp
  · exact fun h => h .a

/-- Where every transfer that stands names what one of its link named before, the transfers stay apart. -/
theorem State.transfersApart_of_named (h : ∀ k p, (t.link k).named = some p → (s.link k).named = some p)
    (hs : s.transfersApart = true) : t.transfersApart = true := by
  rw [State.transfersApart_iff] at hs ⊢
  exact fun k p hp hq => hs k p (h k p hp) (h k.other p hq)

/-- A link opens a transfer of a track that the other link's transfer does not name. -/
theorem State.transfersApart_open {p : Nat × TrackId} (hl : (t.link l).named = some p)
    (ho : (t.link l.other).named ≠ some p) : t.transfersApart = true := by
  have hsome : ∀ q, (t.link l).named = some q → q = p := fun q hq => (Option.some.inj (hl.symm.trans hq)).symm
  rw [State.transfersApart_iff]
  intro k q hq hq'
  by_cases hk : k = l
  · subst hk
    exact ho (hsome q hq ▸ hq')
  · obtain rfl := (LinkId.eq_or_other k l).resolve_left hk
    rw [LinkId.other_other] at hq'
    exact ho (hsome q hq' ▸ hq)

/-! ### The check of a move whose content stays -/

theorem Move.sameContent_refl (m : Move) : m.sameContent m = true := Move.sameContent_iff.2 ⟨rfl, rfl, rfl, rfl, rfl⟩

/-- Moves of one content differ for a check in nothing. -/
theorem Move.eq_of_sameContent {β : Type} (q : Move → β) (hq : ∀ x : Move, q x = q { x.core with isProtected := false })
    (h : m.sameContent k = true) : q k = q m := by
  obtain ⟨h1, h2, h3, h4, h5⟩ := Move.sameContent_iff.1 h
  rw [hq k, hq m]
  simp only [Move.core, h1, h2, h3, h4, h5]

theorem CheckRun.sound_of_sameContent (h : m.sameContent k = true) : c.sound k = c.sound m :=
  Move.eq_of_sameContent (fun x => c.sound x) (fun _ => rfl) h

theorem EditOp.spares_of_sameContent (op : EditOp) (h : m.sameContent k = true) : op.spares slot k = op.spares slot m :=
  Move.eq_of_sameContent (fun x => op.spares slot x) (fun x => by
    cases op with
    | keyDrop n tr a b => cases tr <;> rfl
    | trackClear n tr => cases tr <;> rfl
    | _ => rfl) h

/-- A check is sound for the move it works on. -/
def State.Stands (s : State) (c : CheckRun) : Prop := ∀ m, s.move c.slot = some m → c.sound m = true

/-- An operation leaves the move of a slot as it is. -/
def State.Spares (s : State) (slot : Nat) (op : EditOp) : Prop := ∀ m, s.move slot = some m → op.spares slot m = true

theorem State.checkSound_iff : s.checkSound = true ↔ ∀ c, s.check = some c →
    s.Stands c ∧ ∀ op, s.edit.map (·.op) = some op → s.Spares c.slot op := by
  unfold State.checkSound State.Stands State.Spares
  cases s.check with
  | none => simp
  | some c =>
    cases hm : s.move c.slot with
    | none => simp [hm]
    | some m => cases he : s.edit <;> simp [hm]

/-- The move of a slot that holds one has the content of the one the slot held before. -/
def State.SameContent (s t : State) (slot : Nat) : Prop :=
  ∀ k, t.move slot = some k → ∃ m, s.move slot = some m ∧ m.sameContent k = true

theorem State.SameContent.of_eq (h : t.move slot = s.move slot) : s.SameContent t slot :=
  fun k hk => ⟨k, h ▸ hk, Move.sameContent_refl k⟩

theorem State.SameContent.trans (h : s.SameContent t slot) (h' : t.SameContent u slot) : s.SameContent u slot := by
  intro k hk
  obtain ⟨m, hm, hc⟩ := h' k hk
  obtain ⟨j, hj, hc'⟩ := h m hm
  exact ⟨j, hj, Move.sameContent_trans hc' hc⟩

theorem MovesKept.sameContent (h : MovesKept s t) (slot : Nat) : s.SameContent t slot := by
  intro k hk
  obtain ⟨m, hm, hc⟩ := h.some_of hk
  exact ⟨m, hm, (Move.core_eq_iff.1 hc).1⟩

/-- A check that goes on is one that was in progress, and its move has the content it had. -/
def State.CheckGoesOn (s t : State) : Prop := ∀ c, t.check = some c → ∃ c', s.check = some c' ∧ c'.slot = c.slot ∧
  s.SameContent t c.slot ∧ (s.Stands c' → t.Stands c)

theorem State.Stands.of_sameContent (h : s.Stands c) (hc : s.SameContent t c.slot) : t.Stands c := by
  intro k hk
  obtain ⟨m, hm, hcon⟩ := hc k hk
  rw [CheckRun.sound_of_sameContent hcon]
  exact h m hm

theorem State.Spares.of_sameContent {op : EditOp} (h : s.Spares slot op) (hc : s.SameContent t slot) :
    t.Spares slot op := by
  intro k hk
  obtain ⟨m, hm, hcon⟩ := hc k hk
  rw [EditOp.spares_of_sameContent op hcon]
  exact h m hm

/-- The check ends, or stays as it is and its move keeps its content. -/
theorem State.CheckGoesOn.of_content (hc : t.check = none ∨ t.check = s.check)
    (h : ∀ c, t.check = some c → s.SameContent t c.slot) : s.CheckGoesOn t := by
  intro c ht
  rcases hc with hc | hc
  · rw [hc] at ht
    cases ht
  · exact ⟨c, hc ▸ ht, rfl, h c ht, fun hs => hs.of_sameContent (h c ht)⟩

theorem State.CheckGoesOn.of_moves (hm : MovesKept s t) (hc : t.check = none ∨ t.check = s.check) :
    s.CheckGoesOn t := .of_content hc (fun c _ => hm.sameContent c.slot)

theorem State.CheckGoesOn.refl (s : State) : s.CheckGoesOn s := .of_moves (.refl s) (.inr rfl)

theorem State.CheckGoesOn.trans (h : s.CheckGoesOn t) (h' : t.CheckGoesOn u) : s.CheckGoesOn u := by
  intro c hc
  obtain ⟨c1, hc1, hslot1, hcon1, hst1⟩ := h' c hc
  obtain ⟨c2, hc2, hslot2, hcon2, hst2⟩ := h c1 hc1
  exact ⟨c2, hc2, hslot2.trans hslot1, (hslot1 ▸ hcon2).trans hcon1, fun hs => hst1 (hst2 hs)⟩

theorem State.CheckGoesOn.checkSound (h : s.CheckGoesOn t)
    (he : t.edit = none ∨ t.edit.map (·.op) = s.edit.map (·.op)) (hs : s.checkSound = true) :
    t.checkSound = true := by
  rw [State.checkSound_iff] at hs ⊢
  intro c hc
  obtain ⟨c', hc', hslot, hcon, hst⟩ := h c hc
  obtain ⟨hst', hsp⟩ := hs c' hc'
  refine ⟨hst hst', fun op hop => ?_⟩
  rcases he with he | he
  · simp [he] at hop
  · exact (hslot ▸ hsp op (he ▸ hop)).of_sameContent hcon

/-! ### A content change, and what it does to a check -/

theorem State.cancelCheck_check (n : Nat) : (s.cancelCheck n).check = none := by
  unfold State.cancelCheck
  rw [State.raise_check, State.onMove_check]

theorem State.contentChange_check (n : Nat) :
    (s.contentChange n).check = none ∨ (s.contentChange n).check = s.check := by
  unfold State.contentChange
  split
  · split
    · exact .inl (State.cancelCheck_check n)
    · exact .inr (s.onMove_check n _)
    · exact .inr rfl
    · exact .inr rfl
  · exact .inr rfl

/-- The move under check is CHECKING. -/
theorem State.agreeing.checking (h : s.agreeing) (hc : s.check = some c) : s.stateOf c.slot = some .checking :=
  (h.1.checking c.slot).2 (by rw [hc]; rfl)

/-- A check that goes on after a content change is that of another slot (R28). -/
theorem State.contentChange_other (ha : s.agreeing) {n : Nat} (hc : (s.contentChange n).check = some c) :
    c.slot ≠ n := by
  rintro rfl
  have hsc : s.check = some c := by
    rcases s.contentChange_check c.slot with h | h
    · rw [h] at hc
      cases hc
    · exact h ▸ hc
  obtain ⟨m, hm, hst⟩ := State.stateOf_eq_some.1 (ha.checking hsc)
  rw [State.contentChange_checking hm hst, State.cancelCheck_check] at hc
  cases hc

/-! ### What the edit unit leaves -/

/-- What the edit unit leaves as it takes an item, beside the store: the phase, itself until an operation begins, what
waits, the transfers apart, and, where the directory agrees, a check that goes on. -/
structure State.TakeKept (s t : State) : Prop where
  phase : t.phase = s.phase
  edit : t.edit = s.edit
  queued : ∀ k, (t.link k).queued = (s.link k).queued
  apart : s.transfersApart = true → t.transfersApart = true
  check : s.agreeing → s.CheckGoesOn t

theorem State.TakeKept.refl (s : State) : s.TakeKept s := ⟨rfl, rfl, fun _ => rfl, id, fun _ => .refl s⟩

/-- Only the desk-side of a link, or nothing of it, is written. -/
theorem State.TakeKept.of_desk (hp : t.phase = s.phase) (he : t.edit = s.edit)
    (hd : ∀ k, (t.link k).desk = (s.link k).desk)
    (hc : s.agreeing → s.CheckGoesOn t) : s.TakeKept t :=
  ⟨hp, he, fun k => Link.queued_of_desk (hd k),
    State.transfersApart_of_named (fun k _ hp => Link.named_of_desk (hd k) ▸ hp), hc⟩

theorem State.TakeKept.trans (h : s.TakeKept t) (h' : t.TakeKept u) (ha : s.agreeing → t.agreeing) : s.TakeKept u :=
  ⟨h'.phase.trans h.phase, h'.edit.trans h.edit, fun k => (h'.queued k).trans (h.queued k),
    fun hs => h'.apart (h.apart hs), fun hs => (h.check hs).trans (h'.check (ha hs))⟩

/-- A link's own writing that leaves its transfer's name and what it queues. -/
theorem State.TakeKept.onLink (f : Link → Link) (hq : ∀ k, (f k).queued = k.queued)
    (hn : ∀ k, (f k).named = k.named) : s.TakeKept (s.onLink l f) :=
  ⟨s.onLink_phase l f, s.onLink_edit l f, State.onLink_part Link.queued hq,
    State.transfersApart_of_named (fun k _ hp => State.onLink_part Link.named hn k ▸ hp),
    fun _ => .of_moves (s.onLink_kept l f).toMovesKept (.inr (s.onLink_check l f))⟩

theorem State.TakeKept.answer (x : Answer) : s.TakeKept (s.answer l x) := .onLink _ (fun _ => rfl) (fun _ => rfl)

theorem State.TakeKept.acknowledge (due : Bool) (x : Answer) : s.TakeKept (s.acknowledge l due x) := by
  have h : s.TakeKept (s.onLink l (fun k => { k with transfer := k.transfer.map Transfer.restart })) :=
    .onLink _ (fun _ => rfl) (fun k => Link.named_of_desk (Link.desk_transfer Transfer.restart_target k))
  unfold State.acknowledge
  dsimp only
  split
  · exact h.trans (.answer x) (State.onLink_kept _ _ _).agreeing
  · exact h

theorem State.TakeKept.afterMarks (c : EditCmd) (w : Reason) : s.TakeKept (s.afterMarks l c w) := by
  unfold State.afterMarks
  split
  · exact .onLink _ (fun _ => rfl) (fun _ => rfl)
  · exact .refl s

/-- An edit of a move that no check works on leaves the check in progress as it is. -/
theorem State.TakeKept.of_slot {n : Nat} (hx : State.OnlySlot n s t) (hp : t.phase = s.phase)
    (he : t.edit = s.edit) (hd : ∀ k, (t.link k).desk = (s.link k).desk) (hc : t.check = none ∨ t.check = s.check)
    (hn : s.agreeing → ∀ c, t.check = some c → c.slot ≠ n) : s.TakeKept t :=
  .of_desk hp he hd (fun ha => .of_content hc (fun c ht => .of_eq (hx.move _ (hn ha c ht))))

theorem State.contentChange_phase (n : Nat) : (s.contentChange n).phase = s.phase := by
  unfold State.contentChange State.cancelCheck
  split
  · split <;> simp
  · rfl

theorem State.contentChange_edit (n : Nat) : (s.contentChange n).edit = s.edit := by
  unfold State.contentChange State.cancelCheck
  split
  · split <;> simp
  · rfl

theorem State.contentChange_takeKept (n : Nat) : s.TakeKept (s.contentChange n) :=
  .of_slot State.onlySlot_contentChange (State.contentChange_phase n) (State.contentChange_edit n)
    (fun _ => State.contentChange_desk n _)
    (State.contentChange_check n) (fun ha _ hc => State.contentChange_other ha hc)

theorem State.cancelCheck_takeKept (n : Nat) : s.TakeKept (s.cancelCheck n) := by
  have hc : (s.cancelCheck n).check = none := State.cancelCheck_check n
  refine .of_slot State.onlySlot_cancelCheck ?_ ?_ (fun _ => State.cancelCheck_desk n _) (.inl hc) (fun _ c ht => ?_)
  · unfold State.cancelCheck
    rw [State.raise_phase, State.onMove_phase]
  · unfold State.cancelCheck
    rw [State.raise_edit, State.onMove_edit]
  · rw [hc] at ht
    cases ht

/-- A move comes to an EMPTY slot. -/
theorem State.setMove_takeKept {n : Nat} (hn : s.move n = none) (o : Option Move) : s.TakeKept (s.setMove n o) := by
  refine .of_slot (State.onlySlot_setMove o) (s.setMove_phase n o) (s.setMove_edit n o)
    (fun k => by rw [State.setMove_link])
    (.inr (s.setMove_check n o)) (fun ha c hc hcn => ?_)
  rw [State.setMove_check] at hc
  obtain ⟨m, hm, -⟩ := State.stateOf_eq_some.1 (ha.checking hc)
  rw [hcn, hn] at hm
  cases hm

/-- A change of the span or the label comes after the content change that ends a check of that move. -/
theorem State.changed_takeKept (n : Nat) (f : Move → Move) : s.TakeKept ((s.contentChange n).onMove n f) :=
  .of_slot (State.onlySlot_contentChange.trans (State.onlySlot_onMove f))
    ((State.onMove_phase _ n f).trans (State.contentChange_phase n))
    ((State.onMove_edit _ n f).trans (State.contentChange_edit n))
    (fun k => by rw [State.onMove_link, State.contentChange_desk])
    (by rw [State.onMove_check]; exact State.contentChange_check n)
    (fun ha c hc => State.contentChange_other ha (by rwa [State.onMove_check] at hc))

/-- A change of a move's protection leaves its content. -/
theorem State.guarded_takeKept (n : Nat) {f : Move → Move} (hf : ∀ k : Move, k.sameContent (f k) = true) :
    s.TakeKept (s.onMove n f) := by
  refine .of_desk (s.onMove_phase n f) (s.onMove_edit n f) (fun k => by rw [State.onMove_link])
    (fun _ => .of_content (.inr (s.onMove_check n f)) (fun c _ => fun k hk => ?_))
  rw [State.onMove_move] at hk
  split at hk
  · obtain ⟨m, hm, rfl⟩ := Option.map_eq_some_iff.1 hk
    exact ⟨m, hm, hf m⟩
  · exact ⟨k, hk, Move.sameContent_refl k⟩

/-! ### The twelve store edits -/

/-- What a decision of the edit unit leaves; an operation that begins leaves the move under check as it is. -/
def Verdict.Keeps (s : State) : Verdict → Prop
  | .refuse _ _ => True
  | .accept t _ => s.TakeKept t
  | .timed t op => s.TakeKept t ∧ (s.agreeing → ∀ c, t.check = some c → t.Spares c.slot op)

theorem EditOp.spares_of_ne {op : EditOp} (h : slot ≠ op.changes) (m : Move) : op.spares slot m = true := by
  cases op <;> simp_all [EditOp.changes, EditOp.spares, eq_comm]

theorem State.takeMoveNew_keeps (n first last : Nat) (label : List Byte) :
    (s.takeMoveNew n first last label).Keeps s := by
  unfold State.takeMoveNew
  split
  · trivial
  split
  · split
    · trivial
    · next hn => exact State.setMove_takeKept (State.lowestEmpty_some hn).2 _
  · split
    · trivial
    · next hm => exact State.setMove_takeKept (by simpa using hm) _

theorem State.takeMoveSpan_keeps (n first last : Nat) (e : Option Nat) : (s.takeMoveSpan n first last e).Keeps s := by
  unfold State.takeMoveSpan
  repeat' split
  all_goals try trivial
  · exact .refl s
  · exact State.changed_takeKept n _

theorem State.takeMoveLabel_keeps (n : Nat) (label : List Byte) (e : Option Nat) :
    (s.takeMoveLabel n label e).Keeps s := by
  unfold State.takeMoveLabel
  repeat' split
  all_goals try trivial
  · exact .refl s
  · exact State.changed_takeKept n _

theorem State.takeProtect_keeps (n : Nat) (e : Option Nat) : (s.takeProtect n e).Keeps s := by
  unfold State.takeProtect
  repeat' split
  all_goals try trivial
  · exact .refl s
  · exact State.guarded_takeKept n (fun k => Move.sameContent_iff.2 ⟨rfl, rfl, rfl, rfl, rfl⟩)

theorem State.takeUnprotect_keeps (n : Nat) (e : Option Nat) : (s.takeUnprotect n e).Keeps s := by
  unfold State.takeUnprotect
  repeat' split
  all_goals try trivial
  · exact State.guarded_takeKept n (fun k => Move.sameContent_iff.2 ⟨rfl, rfl, rfl, rfl, rfl⟩)
  · exact .refl s

theorem State.takeMarkFirst_keeps (n track frame : Nat) (e : Option Nat) :
    (s.takeMarkFirst l n track frame e).Keeps s := by
  unfold State.takeMarkFirst
  repeat' split
  all_goals try trivial
  exact .onLink _ (fun _ => rfl) (fun _ => rfl)

theorem State.takeMarkLast_keeps (frame : Nat) : (s.takeMarkLast l frame).Keeps s := by
  unfold State.takeMarkLast
  repeat' split
  all_goals try trivial
  all_goals exact .onLink _ (fun _ => rfl) (fun _ => rfl)

/-- The transfer a link opens names no track of the other's (R34). -/
theorem State.takeKeysPut_keeps (n track : Nat) (e : Option Nat) : (s.takeKeysPut l n track e).Keeps s := by
  unfold State.takeKeysPut
  repeat' split
  all_goals try trivial
  rename_i tr _ _ _ _ _ _ _ _ hother _
  refine ⟨s.onLink_phase l _, s.onLink_edit l _, State.onLink_part Link.queued (fun _ => rfl), fun _ => ?_,
    fun _ => .of_moves (s.onLink_kept l _).toMovesKept (.inr (s.onLink_check l _))⟩
  refine State.transfersApart_open (l := l) (p := (n, tr)) (by rw [State.onLink_link]; rfl) (fun h => hother ?_)
  rw [State.onLink_link_ne _ _ (by cases l <;> decide)] at h
  exact State.transferHas_names_true h

theorem State.takeKeyDrop_keeps (e : Option Nat) : (s.takeKeyDrop l e).Keeps s := by
  unfold State.takeKeyDrop
  split
  · trivial
  · trivial
  rename_i n tr a b hmk
  split
  · trivial
  rename_i m hm
  repeat' split
  all_goals try trivial
  · exact ⟨State.contentChange_takeKept _, fun ha c hc m _ =>
      EditOp.spares_of_ne (op := .keyDrop _ _ _ _) (State.contentChange_other ha hc) m⟩
  · rename_i hany
    refine ⟨.refl s, fun _ c _ k hk => ?_⟩
    by_cases hn : c.slot = n
    · rw [hn, hm] at hk
      cases hk
      simp [EditOp.spares, hany]
    · exact EditOp.spares_of_ne hn k

theorem State.takeTrackClear_keeps (n track : Nat) (e : Option Nat) : (s.takeTrackClear l n track e).Keeps s := by
  unfold State.takeTrackClear
  repeat' split
  all_goals try trivial
  · rename_i tr _ _ m hm _ _ _ _ hnone
    refine ⟨.refl s, fun _ c _ k hk => ?_⟩
    by_cases hn : c.slot = n
    · rw [hn, hm] at hk
      cases hk
      simp [EditOp.spares, hnone]
    · exact EditOp.spares_of_ne hn k
  · exact ⟨State.contentChange_takeKept _, fun ha c hc m _ =>
      EditOp.spares_of_ne (op := .trackClear _ _) (State.contentChange_other ha hc) m⟩

theorem State.takeCopy_keeps (src dst : Nat) (e : Option Nat) : (s.takeCopy src dst e).Keeps s := by
  unfold State.takeCopy
  split
  · trivial
  split
  · trivial
  rename_i m hm
  generalize m.blocks = b
  split
  · trivial
  split
  · trivial
  rename_i hd
  split
  · trivial
  have hd' : s.move dst = none := by simpa using hd
  refine ⟨State.setMove_takeKept hd' _, fun ha c hc k _ => EditOp.spares_of_ne (fun hcd => ?_) k⟩
  rw [State.setMove_check] at hc
  obtain ⟨x, hx, -⟩ := State.stateOf_eq_some.1 (ha.checking hc)
  rw [show c.slot = dst from hcd, hd'] at hx
  cases hx

/-- The links' writing of their marks, and of transfers that go on naming their track. -/
theorem State.TakeKept.onLinks (f : Link → Link) (hq : ∀ k, (f k).queued = k.queued)
    (hn : ∀ k, (f k).named = k.named) : s.TakeKept (s.onLinks f) :=
  ⟨rfl, rfl, fun k => by rw [State.onLinks_link, hq],
    State.transfersApart_of_named (fun k _ hp => by rwa [State.onLinks_link, hn] at hp),
    fun _ => .of_moves (s.onLinks_kept f).toMovesKept (.inr rfl)⟩

/-- A retired move's check is cancelled, or it had none. -/
theorem State.takeRetire_keeps (n : Nat) (e : Option Nat) : (s.takeRetire n e).Keeps s := by
  unfold State.takeRetire
  split
  · trivial
  split
  · trivial
  rename_i m hm
  split
  · trivial
  split
  · trivial
  split
  · trivial
  split
  · trivial
  have hcancel : s.TakeKept (if m.state = .checking then s.cancelCheck n else s) ∧
      (s.agreeing → ∀ c, (if m.state = .checking then s.cancelCheck n else s).check = some c → c.slot ≠ n) ∧
      (s.agreeing → (if m.state = .checking then s.cancelCheck n else s).agreeing) := by
    split
    · next hst =>
      refine ⟨State.cancelCheck_takeKept n, fun _ c hc => ?_,
        (s.cancelCheck_kept n (State.stateOf_eq_some.2 ⟨m, hm, hst⟩)).agreeing⟩
      rw [State.cancelCheck_check] at hc
      cases hc
    · next hst =>
      refine ⟨.refl s, fun ha c hc hcn => hst ?_, id⟩
      obtain ⟨k, hk, hkst⟩ := State.stateOf_eq_some.1 (ha.checking hc)
      rw [hcn, hm] at hk
      cases hk
      exact hkst
  obtain ⟨hkept, hother, hagree⟩ := hcancel
  refine ⟨hkept.trans (.onLinks _ (fun _ => rfl) fun k => ?_) hagree,
    fun ha c hc k _ => EditOp.spares_of_ne (show c.slot ≠ n from hother ha c hc) k⟩
  exact (Link.named_of_desk (Link.desk_transfer (Transfer.retire_target n) k) :)

/-- The edit unit's decision, said once for all twelve store edits. -/
theorem State.judge_keeps (c : EditCmd) : (s.judge l c).Keeps s := by
  cases c with
  | moveNew slot first last label => exact State.takeMoveNew_keeps slot first last label
  | moveSpan slot first last e => exact State.takeMoveSpan_keeps slot first last e
  | moveLabel slot label e => exact State.takeMoveLabel_keeps slot label e
  | keysPut slot track e => exact State.takeKeysPut_keeps slot track e
  | keyMarkFirst slot track frame e => exact State.takeMarkFirst_keeps slot track frame e
  | keyMarkLast frame => exact State.takeMarkLast_keeps frame
  | keyDrop e => exact State.takeKeyDrop_keeps e
  | trackClear slot track e => exact State.takeTrackClear_keeps slot track e
  | moveCopy src dst e => exact State.takeCopy_keeps src dst e
  | moveRetire slot e => exact State.takeRetire_keeps slot e
  | moveProtect slot e => exact State.takeProtect_keeps slot e
  | moveUnprotect slot e => exact State.takeUnprotect_keeps slot e

end Sys2Proof.Machine
end

section
/-! SUPPORT. The IDLE edit unit takes an item, and the arbiter goes on until it is at work or nothing waits (R24). -/

namespace Sys2Proof.Machine

variable {s t u : State} {l : LinkId} {r : EditRun}

/-! ### An item is taken -/

/-- What the IDLE edit unit leaves when it has taken an item: what else waits goes on waiting. -/
structure State.Takes (s t : State) : Prop where
  phase : t.phase = s.phase
  queued : ∀ k, (t.link k).queued = (s.link k).queued
  apart : s.transfersApart = true → t.transfersApart = true
  sound : s.agreeing → s.checkSound = true → t.checkSound = true

theorem State.TakeKept.takes (h : s.TakeKept t) (he : s.edit = none) : s.Takes t :=
  ⟨h.phase, h.queued, h.apart, fun ha => (h.check ha).checkSound (.inl (h.edit.trans he))⟩

/-- An operation begins that leaves the move under check as it is. -/
theorem State.TakeKept.begins (h : s.TakeKept t)
    (hsp : s.agreeing → ∀ c, t.check = some c → t.Spares c.slot r.op) : s.Takes { t with edit := some r } := by
  refine ⟨h.phase, h.queued, h.apart, fun ha hs => ?_⟩
  rw [State.checkSound_iff] at hs ⊢
  intro c hc
  obtain ⟨c', hc', -, -, hst⟩ := h.check ha c hc
  refine ⟨hst (hs c' hc').1, fun op hop => ?_⟩
  cases hop
  exact hsp ha c hc

theorem State.onLink_goesOn (f : Link → Link) : s.CheckGoesOn (s.onLink l f) :=
  .of_moves (s.onLink_kept l f).toMovesKept (.inr (s.onLink_check l f))

theorem State.afterMarks_goesOn (c : EditCmd) (w : Reason) : s.CheckGoesOn (s.afterMarks l c w) := by
  unfold State.afterMarks
  split
  · exact State.onLink_goesOn _
  · exact .refl s

theorem State.TakeKept.then (h : s.TakeKept t) (h' : t.TakeKept u) (hc : t.CheckGoesOn u) : s.TakeKept u :=
  ⟨h'.phase.trans h.phase, h'.edit.trans h.edit, fun k => (h'.queued k).trans (h.queued k),
    fun hs => h'.apart (h.apart hs), fun ha => (h.check ha).trans hc⟩

theorem State.TakeKept.marked (h : s.TakeKept t) (c : EditCmd) (w : Reason) : s.TakeKept (t.afterMarks l c w) :=
  h.then (.afterMarks c w) (State.afterMarks_goesOn c w)

theorem State.TakeKept.answered (h : s.TakeKept t) (x : Answer) : s.TakeKept (t.answer l x) :=
  h.then (.answer x) (State.onLink_goesOn _)

theorem State.takeEdit_takes (he : s.edit = none) (c : EditCmd) : s.Takes (s.takeEdit l c) := by
  have h := State.judge_keeps (s := s) (l := l) c
  unfold State.takeEdit
  split
  · exact (((State.TakeKept.refl s).marked c _).answered _).takes he
  · next t res hj =>
    rw [hj] at h
    exact ((State.TakeKept.marked h c _).answered _).takes he
  · next t op hj =>
    rw [hj] at h
    obtain ⟨hkept, hsp⟩ := h
    refine (hkept.marked c _).begins (fun ha x hx => ?_)
    obtain ⟨y, hy, hslot, hcon, -⟩ := State.afterMarks_goesOn c .none x hx
    exact (hslot ▸ hsp ha y hy).of_sameContent hcon

theorem State.judgeBlock_changes {b : DataBlock} {op : EditOp} (h : s.judgeBlock l b = .inr op) :
    op.slot = op.changes := by
  obtain ⟨-, -, hslot, -⟩ := State.judgeBlock_ready h
  exact hslot

theorem State.takeBlock_takes (he : s.edit = none) (b : DataBlock) (due : Bool) : s.Takes (s.takeBlock l b due) := by
  unfold State.takeBlock
  split
  · exact (State.TakeKept.acknowledge due _).takes he
  · next op hop =>
    refine (State.contentChange_takeKept op.slot).begins (fun ha c hc m _ => EditOp.spares_of_ne ?_ m)
    exact State.judgeBlock_changes hop ▸ State.contentChange_other ha hc

theorem State.takeEndMarker_takes (he : s.edit = none) : s.Takes (s.takeEndMarker l) := by
  unfold State.takeEndMarker
  split
  · have h : s.TakeKept (s.onLink l (fun k => { k with transfer := none })) := by
      refine ⟨s.onLink_phase l _, s.onLink_edit l _, State.onLink_part Link.queued (fun _ => rfl),
        State.transfersApart_of_named (fun k p hp => ?_), fun _ => State.onLink_goesOn _⟩
      by_cases hk : k = l
      · subst hk
        rw [State.onLink_link] at hp
        cases hp
      · rwa [State.onLink_link_ne _ _ hk] at hp
    exact (h.answered _).takes he
  · exact (State.TakeKept.answer _).takes he
  · exact (State.TakeKept.answer _).takes he

/-! ### The first item that waits -/

theorem State.takeWaiting_block {x : BufferedBlock} (h : (s.link l).buffer = some x) :
    s.takeWaiting l = some ((s.onLink l (fun k => { k with buffer := none })).takeBlock l x.block x.ackDue) := by
  unfold State.takeWaiting
  rw [h]

theorem State.takeWaiting_command {c : EditCmd} (hb : (s.link l).buffer = none)
    (h : (s.link l).held = some (.command c)) :
    s.takeWaiting l = some ((s.onLink l (fun k => { k with held := none })).takeEdit l c) := by
  unfold State.takeWaiting
  rw [hb, h]

theorem State.takeWaiting_endMarker (hb : (s.link l).buffer = none) (h : (s.link l).held = some .endMarker) :
    s.takeWaiting l = some ((s.onLink l (fun k => { k with held := none })).takeEndMarker l) := by
  unfold State.takeWaiting
  rw [hb, h]

/-- A link without its first waiting item. -/
def Link.served (k : Link) : Link :=
  match k.buffer with
  | some _ => { k with buffer := none }
  | none => { k with held := none }

/-- The items of a link that wait. -/
def Link.waiting (k : Link) : Nat := k.buffer.isSome.toNat + k.held.isSome.toNat

theorem Link.waiting_served {k : Link} (h : k.waits = true) : k.served.waiting + 1 = k.waiting := by
  unfold Link.served Link.waiting
  unfold Link.waits at h
  cases hb : k.buffer <;> cases hh : k.held <;> simp_all

theorem Link.waiting_eq_zero {k : Link} : k.waiting = 0 ↔ k.waits = false := by
  unfold Link.waiting Link.waits
  cases k.buffer <;> cases k.held <;> simp

theorem Link.waiting_le (k : Link) : k.waiting ≤ 2 := by
  unfold Link.waiting
  cases k.buffer <;> cases k.held <;> simp

theorem Link.waiting_of_queued {k x : Link} (h : k.queued = x.queued) : k.waiting = x.waiting := by
  rw [Link.waiting, Link.buffer_of_queued h, Link.held_of_queued h, Link.waiting]

/-- The IDLE edit unit takes the first item that waits, of which the link is rid. -/
theorem State.takeWaiting_takes (he : s.edit = none) (h : (s.link l).waits = true) :
    ∃ t, s.takeWaiting l = some t ∧ (s.onLink l Link.served).Takes t := by
  have hserved : ∀ f : Link → Link, f (s.link l) = (s.link l).served → s.onLink l f = s.onLink l Link.served := by
    intro f hf
    unfold State.onLink
    rw [hf]
  cases hb : (s.link l).buffer with
  | some x =>
    refine ⟨_, State.takeWaiting_block hb, ?_⟩
    rw [hserved (fun k => { k with buffer := none }) (by rw [Link.served, hb])]
    exact State.takeBlock_takes (by rw [State.onLink_edit, he]) _ _
  | none =>
    have hs := hserved (fun k => { k with held := none }) (by rw [Link.served, hb])
    cases hh : (s.link l).held with
    | none => simp [Link.waits, hb, hh] at h
    | some i =>
      cases i with
      | command c =>
        refine ⟨_, State.takeWaiting_command hb hh, ?_⟩
        rw [hs]
        exact State.takeEdit_takes (by rw [State.onLink_edit, he]) _
      | endMarker =>
        refine ⟨_, State.takeWaiting_endMarker hb hh, ?_⟩
        rw [hs]
        exact State.takeEndMarker_takes (by rw [State.onLink_edit, he])

/-! ### The arbiter -/

theorem State.arbitrate_working (h : s.edit.isSome = true) (n : Nat) (l : LinkId) : s.arbitrate n l = s := by
  cases n with
  | zero => rfl
  | succ n =>
    unfold State.arbitrate
    exact if_pos h

theorem State.arbitrate_other {n : Nat} (he : s.edit = none) (h : s.takeWaiting l.other = some t) :
    s.arbitrate (n + 1) l = t.arbitrate n l.other := by
  rw [State.arbitrate, he, h]
  rfl

theorem State.arbitrate_own {n : Nat} (he : s.edit = none) (ho : s.takeWaiting l.other = none)
    (h : s.takeWaiting l = some t) : s.arbitrate (n + 1) l = t.arbitrate n l := by
  rw [State.arbitrate, he, ho, h]
  rfl

/-- The items that wait. -/
def State.waiting (s : State) : Nat := s.linkA.waiting + s.linkB.waiting

theorem State.waiting_eq (s : State) (l : LinkId) : s.waiting = (s.link l).waiting + (s.link l.other).waiting := by
  cases l
  · rfl
  · exact Nat.add_comm _ _

theorem State.waiting_eq_zero : s.waiting = 0 ↔ ∀ k, (s.link k).waits = false := by
  constructor
  · intro h k
    have := s.waiting_eq k
    exact Link.waiting_eq_zero.1 (by omega)
  · intro h
    have ha := Link.waiting_eq_zero.2 (h .a)
    have hb := Link.waiting_eq_zero.2 (h .b)
    exact Nat.add_eq_zero_iff.2 ⟨ha, hb⟩

theorem State.waiting_le (s : State) : s.waiting ≤ 4 := by
  have ha := s.linkA.waiting_le
  have hb := s.linkB.waiting_le
  unfold State.waiting
  omega

theorem State.waiting_congr (h : ∀ k, (t.link k).queued = (s.link k).queued) : t.waiting = s.waiting := by
  rw [s.waiting_eq .a, t.waiting_eq .a, Link.waiting_of_queued (h .a), Link.waiting_of_queued (h LinkId.a.other)]

theorem State.waiting_served (h : (s.link l).waits = true) : (s.onLink l Link.served).waiting + 1 = s.waiting := by
  have hown := Link.waiting_served h
  rw [State.waiting_eq _ l, State.waiting_eq s l, State.onLink_link,
    State.onLink_link_ne _ _ (by cases l <;> decide)]
  omega

/-- The arbiter goes on by taking first items: what each take keeps, from a state with an IDLE unit, holds at its end,
and then the unit is at work or nothing waits. -/
theorem State.arbitrate_induction {P : State → Prop}
    (hP : ∀ (s t : State) (l : LinkId), s.edit = none → s.takeWaiting l = some t →
      (s.onLink l Link.served).Takes t → P s → P t) :
    ∀ (n : Nat) (l : LinkId) (s : State), s.waiting ≤ n → P s →
      P (s.arbitrate n l) ∧ ((s.arbitrate n l).edit = none → ∀ k, ((s.arbitrate n l).link k).waits = false) := by
  intro n
  induction n with
  | zero => exact fun l s hn hs => ⟨hs, fun _ => State.waiting_eq_zero.1 (Nat.le_zero.1 hn)⟩
  | succ n ih =>
    intro l s hn hs
    cases he : s.edit with
    | some r =>
      rw [State.arbitrate_working (by rw [he]; rfl)]
      exact ⟨hs, fun h => by rw [he] at h; cases h⟩
    | none =>
      have htake : ∀ k, (s.link k).waits = true → ∃ t, s.takeWaiting k = some t ∧ t.waiting ≤ n ∧ P t := by
        intro k hk
        obtain ⟨t, ht, htakes⟩ := State.takeWaiting_takes he hk
        refine ⟨t, ht, ?_, hP s t k he ht htakes hs⟩
        have hw := State.waiting_served hk
        rw [State.waiting_congr htakes.queued]
        omega
      cases ho : (s.link l.other).waits with
      | true =>
        obtain ⟨t, ht, hw, hPt⟩ := htake _ ho
        rw [State.arbitrate_other he ht]
        exact ih _ _ hw hPt
      | false =>
        cases hl : (s.link l).waits with
        | true =>
          obtain ⟨t, ht, hw, hPt⟩ := htake _ hl
          rw [State.arbitrate_own he (State.takeWaiting_of_none ho) ht]
          exact ih _ _ hw hPt
        | false =>
          have hnone : ∀ k, (s.link k).waits = false := fun k =>
            (LinkId.eq_or_other k l).elim (fun h => h ▸ hl) (fun h => h ▸ ho)
          rw [State.arbitrate_of_none hnone]
          exact ⟨hs, fun _ => hnone⟩

end Sys2Proof.Machine
end

section
/-! SUPPORT. What the arbiter leaves after one item and after two (R24). -/

namespace Sys2Proof.Machine

variable {s t : State} {l : LinkId} {r : EditRun}

/-! ### The items, as the edit unit answers them -/

theorem State.takeBlock_begins {b : DataBlock} {op : EditOp} (h : s.judgeBlock l b = .inr op) (due : Bool) :
    s.takeBlock l b due = { s.contentChange op.slot with
      edit := some { link := l, op := op, answerDue := due, rangeReset := false, elapsed := 0 } } := by
  rw [State.takeBlock, h]

theorem State.takeBlock_refused {b : DataBlock} {w : Reason} (h : s.judgeBlock l b = .inl w) (due : Bool) :
    s.takeBlock l b due = s.acknowledge l due (.blockRefused w) := by
  rw [State.takeBlock, h]

theorem State.takeEdit_timed {c : EditCmd} {op : EditOp} (h : s.judge l c = .timed t op) :
    s.takeEdit l c = { t.afterMarks l c .none with
      edit := some { link := l, op := op, answerDue := true, rangeReset := s.rangeReset l c, elapsed := 0 } } := by
  rw [State.takeEdit, h]

theorem State.takeEdit_accepted {c : EditCmd} {res : Results} (h : s.judge l c = .accept t res) :
    s.takeEdit l c = (t.afterMarks l c .none).accept l res (s.rangeReset l c) := by
  rw [State.takeEdit, h]

theorem State.takeEdit_refused {c : EditCmd} {w : Reason} {res : Results} (h : s.judge l c = .refuse w res) :
    s.takeEdit l c = (s.afterMarks l c w).refuseWith l w res (s.rangeReset l c) := by
  rw [State.takeEdit, h]

/-! ### The waiting collections -/

theorem State.endGet_queued (x : Answer) (k : LinkId) : ((s.endGet l x).link k).queued = (s.link k).queued := by
  unfold State.endGet State.closeGet State.answer
  dsimp only
  split
  all_goals
    refine (State.onLink_part Link.queued (fun _ => by rfl) k).trans ?_
    exact (State.onLink_part Link.queued (fun _ => by rfl) k).trans (congrArg Link.queued (by cases k <;> rfl))

theorem State.compareGet_queued (slot : Nat) (tr : TrackId) (g p n : Nat) (b : Bool) (k : LinkId) :
    ((s.compareGet l slot tr g p n b).link k).queued = (s.link k).queued := by
  unfold State.compareGet State.answer
  split
  · exact State.endGet_queued _ k
  split
  · exact State.endGet_queued _ k
  split
  · exact State.endGet_queued _ k
  · exact (State.onLink_part Link.queued (fun _ => by rfl) k).trans (State.onLink_part Link.queued (fun _ => by rfl) k)

theorem State.serveCollection_queued (k : LinkId) : ((s.serveCollection l).link k).queued = (s.link k).queued := by
  unfold State.serveCollection
  split
  · split
    · rfl
    · exact State.compareGet_queued _ _ _ _ _ _ k
  · rfl

theorem State.serveCollections_queued (k : LinkId) : (s.serveCollections.link k).queued = (s.link k).queued :=
  State.serveCollection_queued k |>.trans (State.serveCollection_queued k)

/-- The state in which the arbiter finds the links at the end of an operation. -/
def State.ended (s : State) (r : EditRun) : State := ((s.completeOp r).answerOp r s).serveCollections

theorem State.ended_queued (k : LinkId) : ((s.ended r).link k).queued = (s.link k).queued :=
  (State.serveCollections_queued k).trans
    (Link.queued_of_desk ((State.answerOp_desk k).trans (State.completeOp_desk k)))

theorem State.ended_edit : (s.ended r).edit = none := by
  have hk := (s.answerOp_kept (s.completeOp r) r).trans (State.serveCollections_kept _)
  exact hk.edit_none rfl

theorem State.finishEdit_arbitrates (he : s.edit = some r) (hw : s.resetWaiting = false) :
    s.finishEdit = (s.ended r).arbitrate 4 r.link := by
  unfold State.finishEdit
  rw [he]
  dsimp only
  rw [if_neg (by simp [hw])]
  rfl

/-! ### The arbiter comes to rest -/

theorem State.arbitrate_rests (h : s.edit.isSome = true ∨ s.waiting = 0) (n : Nat) (l : LinkId) :
    s.arbitrate n l = s :=
  h.elim (fun h => State.arbitrate_working h n l) (fun h => State.arbitrate_of_none (State.waiting_eq_zero.1 h) n l)

theorem Link.waits_iff {k : Link} : k.waits = true ↔ k.buffer.isSome = true ∨ k.held.isSome = true := by
  simp [Link.waits]

/-- An item taken is one fewer that waits, the link's last but one, and none of the other link's. -/
theorem State.takeWaiting_waiting (he : s.edit = none) (h : (s.link l).waits = true) :
    ∃ t, s.takeWaiting l = some t ∧ t.waiting + 1 = s.waiting ∧ (t.link l).waiting ≤ 1 ∧
      (t.link l.other).waits = (s.link l.other).waits := by
  obtain ⟨t, ht, htakes⟩ := State.takeWaiting_takes he h
  refine ⟨t, ht, ?_, ?_, ?_⟩
  · rw [State.waiting_congr htakes.queued, State.waiting_served h]
  · have hown := Link.waiting_served h
    have hle := (s.link l).waiting_le
    rw [Link.waiting_of_queued (htakes.queued l), State.onLink_link]
    omega
  · rw [Link.waits_of_queued (htakes.queued l.other), State.onLink_link_ne _ _ (by cases l <;> decide)]

/-- A link alone has at most two items, so that none is left behind the second. -/
theorem State.waiting_other (h : (s.link l.other).waits = false) : s.waiting ≤ 2 := by
  have := Link.waiting_eq_zero.2 h
  have := (s.link l).waiting_le
  rw [s.waiting_eq l]
  omega

/-- Settles O24. Each take of the arbiter by the item it takes; a second item is the last one behind an IDLE unit. -/
theorem theOtherLinkIsServedNext : Obligations.TheOtherLinkIsServedNext := by
  refine ⟨?_, ?_⟩
  · intro s r i he hw hi b o waits working takes
    have hexec : exec i s = .next (b.arbitrate 4 r.link) := by
      have hi' : i = r.op.ending := by
        rw [hi]
        cases r.op <;> rfl
      rw [hi', exec_ending he, State.finishEdit_arbitrates he hw]
      rfl
    have hb : b.edit = none := State.ended_edit
    have hwaits : ∀ u k, waits u k ↔ (u.link k).waits = true := fun u k => Link.waits_iff.symm
    have hnot : ∀ u k, ¬waits u k → (u.link k).waits = false := fun u k h => by
      simpa using mt (hwaits u k).2 h
    have htakes : ∀ u k t, u.takeWaiting k = some t → takes u k t := by
      intro u k t ht
      refine ⟨fun x hx => ?_, fun cmd hn hx => ?_, fun hn hx => ?_⟩
      · intro c
        rw [State.takeWaiting_block hx] at ht
        cases ht
        exact ⟨fun op h => State.takeBlock_begins h _, fun why h => State.takeBlock_refused h _⟩
      · intro c
        rw [State.takeWaiting_command hn hx] at ht
        cases ht
        exact ⟨fun v op h => State.takeEdit_timed h, fun v res h => State.takeEdit_accepted h,
          fun why res h => State.takeEdit_refused h⟩
      · rw [State.takeWaiting_endMarker hn hx] at ht
        cases ht
        refine ⟨fun slot tr n j h => ?_, fun h => ?_⟩
        · rw [State.takeEndMarker_put (by rw [State.onLink_link]; exact h), State.onLink_onLink]
        · rw [State.takeEndMarker_noPut (by rw [State.onLink_link]; exact h), State.onLink_onLink]
    have htake : ∀ u k, u.edit = none → waits u k → ∃ t, u.takeWaiting k = some t ∧ takes u k t ∧
        t.waiting + 1 = u.waiting ∧ (t.link k).waiting ≤ 1 ∧ (t.link k.other).waits = (u.link k.other).waits := by
      intro u k hu hk
      obtain ⟨t, ht, hrest⟩ := State.takeWaiting_waiting hu ((hwaits u k).1 hk)
      exact ⟨t, ht, htakes u k t ht, hrest⟩
    have hoo : o.other = r.link := LinkId.other_other _
    refine ⟨fun k => ?_, hb, fun ho => ?_, fun ho hl => ?_, fun ho hl => ?_, fun t ht he' k => ?_⟩
    · exact ⟨Link.buffer_of_queued (State.ended_queued k), Link.held_of_queued (State.ended_queued k)⟩
    · obtain ⟨t, ht, htk, -, hown, -⟩ := htake b o hb ho
      have hexec' : exec i s = .next (t.arbitrate 3 o) := by rw [hexec, State.arbitrate_other hb ht]
      refine ⟨t, htk, fun hte => ?_, fun hte hl => ?_, fun hte hl ho' => ?_, fun hte hl ho' => ?_⟩
      · rw [hexec', State.arbitrate_rests (.inl hte)]
      · obtain ⟨v, hv, hvk, -⟩ := htake t r.link hte hl
        refine ⟨v, hvk, fun hve => ?_⟩
        rw [hexec', State.arbitrate_other hte (hoo.symm ▸ hv), State.arbitrate_rests (.inl hve)]
      · obtain ⟨v, hv, hvk, hcount', -⟩ := htake t o hte ho'
        have hl' := hnot t _ hl
        have hone : t.waiting = (t.link r.link).waiting + (t.link o).waiting := t.waiting_eq r.link
        rw [Link.waiting_eq_zero.2 hl'] at hone
        refine ⟨v, hvk, ?_⟩
        rw [hexec', State.arbitrate_own hte (State.takeWaiting_of_none (hoo.symm ▸ hl')) hv,
          State.arbitrate_rests (.inr (by omega))]
      · have hnone : ∀ k, (t.link k).waits = false := fun k =>
          (LinkId.eq_or_other k r.link).elim (fun h => h ▸ hnot t _ hl) (fun h => h ▸ hnot t _ ho')
        rw [hexec', State.arbitrate_of_none hnone]
    · obtain ⟨t, ht, htk, hcount, -, hrest⟩ := htake b r.link hb hl
      have ho' := hnot b _ ho
      have hle : b.waiting ≤ 2 := State.waiting_other ho'
      have hto : (t.link o).waits = false := hrest.trans ho'
      have hexec' : exec i s = .next (t.arbitrate 3 r.link) := by
        rw [hexec, State.arbitrate_own hb (State.takeWaiting_of_none ho') ht]
      refine ⟨t, htk, fun h => ?_, fun hte hl' => ?_⟩
      · rw [hexec', State.arbitrate_rests (h.imp_right fun hl' => State.waiting_eq_zero.2 fun k =>
          (LinkId.eq_or_other k r.link).elim (fun h => h ▸ hnot t _ hl') (fun h => h ▸ hto))]
      · obtain ⟨v, hv, hvk, hcount', -⟩ := htake t r.link hte hl'
        refine ⟨v, hvk, ?_⟩
        rw [hexec', State.arbitrate_own hte (State.takeWaiting_of_none hto) hv,
          State.arbitrate_rests (.inr (by omega))]
    · rw [hexec, State.arbitrate_of_none fun k => (LinkId.eq_or_other k r.link).elim
        (fun h => h ▸ hnot b _ hl) (fun h => h ▸ hnot b _ ho)]
    · have hend := State.arbitrate_induction (P := fun _ => True) (fun _ _ _ _ _ _ _ => trivial)
        4 r.link b b.waiting_le trivial
      rw [hexec] at ht
      cases ht
      rw [hwaits, hend.2 he' k]
      exact Bool.false_ne_true
  · intro s l r hs he hr held
    have hheld : ∀ (i : Instr) (c : EditCmd), editOf i = some (l, c) → exec i s = .next (held c) :=
      fun i c hi => exec_edit_held hi hs he hr
    exact ⟨fun _ _ _ _ _ => ⟨hheld _ _ rfl, hheld _ _ rfl, hheld _ _ rfl, hheld _ _ rfl, hheld _ _ rfl,
      hheld _ _ rfl, hheld _ _ rfl⟩, fun _ _ _ _ => ⟨hheld _ _ rfl, hheld _ _ rfl, hheld _ _ rfl,
      hheld _ _ rfl, hheld _ _ rfl⟩⟩

end Sys2Proof.Machine
end

section
/-! SUPPORT. What the axis units, the move clock, the pass controller and the steps leave as it is: the store, the edit
unit, the check and the links' desks. -/

namespace Sys2Proof.Machine

variable (s : State) (a : AxisId)

/-- The part of the state that only the links, the edit unit, the check engine and the resets write. -/
def State.still (s : State) : StorePhase × Vector (Option Move) 64 × Nat × Option EditRun × Option CheckRun ×
    (LinkId → Option (Nat × TrackId) × Marks × Option BufferedBlock × Option HeldItem) :=
  (s.phase, s.slots, s.free, s.edit, s.check, fun k => (s.link k).desk)

/-! ### Axes, the clock, events and setpoints -/

theorem State.still_congr {s t : State} (hp : t.phase = s.phase) (hs : t.slots = s.slots) (hf : t.free = s.free)
    (he : t.edit = s.edit) (hc : t.check = s.check) (hd : ∀ k, (t.link k).desk = (s.link k).desk) :
    t.still = s.still := by
  unfold State.still
  rw [hp, hs, hf, he, hc, funext hd]

@[simp] theorem State.setAxis_still (x : Axis) : (s.setAxis a x).still = s.still := rfl

@[simp] theorem State.onAxis_still (f : Axis → Axis) : (s.onAxis a f).still = s.still := rfl

@[simp] theorem State.onAxes_still (f : Axis → Axis) : (s.onAxes f).still = s.still := rfl

@[simp] theorem State.withClock_still (c : Clock) : (s.withClock c).still = s.still := rfl

@[simp] theorem State.withPass_still (p : Pass) : (s.withPass p).still = s.still := rfl

@[simp] theorem State.raise_still (e : EventKind) : (s.raise e).still = s.still :=
  State.still_congr rfl rfl rfl rfl rfl (fun k => by rw [State.raise_link, Link.raise_desk])

theorem foldl_still {α : Type} (f : State → α → State) (hf : ∀ t x, (f t x).still = t.still) (xs : List α) :
    (xs.foldl f s).still = s.still := by
  induction xs generalizing s with
  | nil => rfl
  | cons x xs ih => exact (ih _).trans (hf s x)

theorem forAxes_still (f : AxisId → State → State) (hf : ∀ b t, (f b t).still = t.still) (as : List AxisId) :
    (forAxes as f s).still = s.still := foldl_still s _ (fun t b => hf b t) as

@[simp] theorem forAxes_onAxis_still (as : List AxisId) (f : Axis → Axis) :
    (forAxes as (fun b t => t.onAxis b f) s).still = s.still := forAxes_still s _ (fun b t => t.onAxis_still b f) as

@[simp] theorem State.easeSetpoints_still (g : GroupEase) (k : Nat) : (s.easeSetpoints g k).still = s.still :=
  foldl_still s _ (fun t _ => t.onAxis_still _ _) _

@[simp] theorem State.handToCreep_still (g : GroupEase) : (s.handToCreep g).still = s.still :=
  foldl_still s _ (fun t _ => t.onAxis_still _ _) _

@[simp] theorem State.groupCreepTick_still (g : GroupEase) : (s.groupCreepTick g).still = s.still :=
  forAxes_onAxis_still s _ _

@[simp] theorem State.writeSetpoints_still (r : PassRecord) (p : Int) : (s.writeSetpoints r p).still = s.still := by
  unfold State.writeSetpoints
  split
  · rfl
  · exact foldl_still s _ (fun t _ => t.onAxis_still _ _) _

@[simp] theorem State.tickAxis_still : (s.tickAxis a).still = s.still := by
  unfold State.tickAxis
  dsimp only
  split
  · split <;> rfl
  all_goals rfl

/-! ### The report and the end of a run -/

@[simp] theorem State.note_still (f : Conditions → Conditions) : (s.note f).still = s.still := rfl

@[simp] theorem State.clearReport_still (r : PassRecord) : (s.clearReport r).still = s.still := rfl

@[simp] theorem State.endRun_still (o : RunOutcome) (c : Option ReportCause) : (s.endRun o c).still = s.still :=
  State.raise_still _ _

@[simp] theorem State.finish_still (e : Option RunEnd) : (s.finish e).still = s.still := by
  unfold State.finish
  split <;> simp

@[simp] theorem State.writeAndFinish_still (r : PassRecord) (e : Option RunEnd) :
    (s.writeAndFinish r e).still = s.still := by
  unfold State.writeAndFinish
  split <;> simp

/-! ### Frame starts, ramps and stops -/

@[simp] theorem State.passFrameStart_still (n : Int) : (s.passFrameStart n).1.still = s.still := by
  unfold State.passFrameStart
  split
  · rfl
  · split <;> rfl

@[simp] theorem State.frameStart_still (n : Int) : (s.frameStart n).1.still = s.still :=
  (State.passFrameStart_still _ n).trans (s.withClock_still _)

@[simp] theorem State.phaseMoves_still (p : Int) : (s.phaseMoves p).1.still = s.still := by
  unfold State.phaseMoves
  dsimp only
  split
  · simp
  · split <;> rfl

@[simp] theorem State.rampEnd_still : s.rampEnd.1.still = s.still := by
  unfold State.rampEnd
  split
  · rfl
  · rfl
  · split
    · exact State.raise_still _ _
    · rfl
  · split <;> rfl
  · split <;> rfl

@[simp] theorem State.tickClocking_still : s.tickClocking.1.still = s.still := by
  unfold State.tickClocking
  dsimp only
  generalize ({ s.clock with ramp := _, appliedRate := _, remainder := _ } : Clock) = c
  generalize c.capLimit _ = p
  have h := State.phaseMoves_still (s.withClock c) p
  rcases hq : (s.withClock c).phaseMoves p with ⟨s1, _ | e⟩
  · rw [hq] at h
    exact s1.rampEnd_still.trans h
  · rw [hq] at h
    exact h

@[simp] theorem State.clockStop_still (hs : Nat) : (s.clockStop hs).1.still = s.still := by
  unfold State.clockStop
  split
  · rfl
  · dsimp only
    split <;> rfl

@[simp] theorem State.followerStop_still (hs : Nat) : (s.followerStop hs).1.still = s.still := by
  unfold State.followerStop
  split
  · exact State.clockStop_still _ hs
  · rfl

@[simp] theorem State.stopRequest_still (hs : Nat) : (s.stopRequest hs).1.still = s.still := by
  unfold State.stopRequest
  split <;> simp

/-! ### Follower mode -/

@[simp] theorem State.loseSync_still : s.loseSync.still = s.still := State.raise_still _ _

@[simp] theorem State.followerExpires_still : s.followerExpires.still = s.still := by
  unfold State.followerExpires
  split
  · simp
  · rfl

@[simp] theorem State.expireBefore_still (n : Nat) : (s.expireBefore n).still = s.still := by
  unfold State.expireBefore
  split
  · split <;> simp
  · rfl

@[simp] theorem State.tickLoss_still : s.tickLoss.still = s.still := by
  unfold State.tickLoss
  split
  · split <;> simp
  · rfl

@[simp] theorem State.tickFollowing_still : s.tickFollowing.1.still = s.still := by
  unfold State.tickFollowing
  split <;> simp

@[simp] theorem State.snap_still : s.snap.1.still = s.still := s.phaseMoves_still _

@[simp] theorem State.overspeedStop_still (r : PassRecord) : (s.overspeedStop r).still = s.still := by
  unfold State.overspeedStop
  simp

@[simp] theorem State.followedEdge_still (r : PassRecord) (e : Option Nat) (n : Nat) :
    (s.followedEdge r e n).still = s.still := by
  unfold State.followedEdge
  split
  · rfl
  · dsimp only
    split
    · simp
    · split <;> simp

@[simp] theorem State.relock_still (r : PassRecord) : (s.relock r).still = s.still := by
  unfold State.relock
  simp

@[simp] theorem State.cameraEdge_still (n : Nat) : (s.cameraEdge n).still = s.still := by
  have hedge : ∀ r, (if (s.expireBefore n).clock.lock = some .syncLost
      then ((s.expireBefore n).withClock { (s.expireBefore n).clock with lastEdge := some n }).relock r
      else ((s.expireBefore n).withClock { (s.expireBefore n).clock with lastEdge := some n }).followedEdge r
        (s.expireBefore n).clock.lastEdge n).still = s.still := by
    intro r
    split <;> simp
  unfold State.cameraEdge
  split
  · dsimp only
    split
    · split
      · simp
      · split
        · simp
        · exact hedge _
    · split
      · simp
      · split
        · simp
        · exact hedge _
  all_goals rfl

/-! ### Rolling and stepping -/

@[simp] theorem State.roll_still (r : PassRecord) : (s.roll r).still = s.still := by
  unfold State.roll
  dsimp only
  split <;> simp

@[simp] theorem State.withStepping_still (t : Stepping) : (s.withStepping t).still = s.still := rfl

@[simp] theorem State.beginStepRun_still (r : PassRecord) : (s.beginStepRun r).still = s.still := rfl

@[simp] theorem State.beginStep_still (f : StepFields) : (s.beginStep f).still = s.still := rfl

@[simp] theorem State.beginExposure_still (f : StepFields) : (s.beginExposure f).still = s.still := rfl

@[simp] theorem State.stepReady_still : s.stepReady.still = s.still := State.raise_still _ _

@[simp] theorem State.exposureOff_still : s.exposureOff.still = s.still := rfl

@[simp] theorem State.exposureCompleted_still (r : PassRecord) (f : StepFields) :
    (s.exposureCompleted r f).still = s.still := by
  unfold State.exposureCompleted
  dsimp only
  split
  · simp
  · split <;> simp

@[simp] theorem State.exposureTimedOut_still : s.exposureTimedOut.still = s.still := State.stepReady_still _

@[simp] theorem State.exposureElapsed_still (r : PassRecord) (f : StepFields) :
    (s.exposureElapsed r f).still = s.still := by
  unfold State.exposureElapsed
  split <;> simp

@[simp] theorem State.stepArrives_still (f : StepFields) : (s.stepArrives f).still = s.still := by
  unfold State.stepArrives
  dsimp only
  split
  · exact State.endRun_still _ _ _
  · split <;> rfl

@[simp] theorem State.tickStep_still (r : PassRecord) (f : StepFields) : (s.tickStep r f).still = s.still := by
  unfold State.tickStep
  split
  · split
    · rfl
    · dsimp only
      split
      · exact (State.stepArrives_still _ f).trans (State.writeSetpoints_still _ r _)
      · exact State.writeSetpoints_still _ r _
  · dsimp only
    split <;> simp
  · dsimp only
    split <;> simp
  · simp
  · rfl

@[simp] theorem State.hold_still (r : PassRecord) : (s.hold r).still = s.still := rfl

@[simp] theorem State.resume_still (r : PassRecord) : (s.resume r).still = s.still := rfl

@[simp] theorem State.abortRun_still (r : PassRecord) : (s.abortRun r).still = s.still := by
  unfold State.abortRun
  simp

@[simp] theorem State.requestStepAbort_still : s.requestStepAbort.still = s.still := by
  unfold State.requestStepAbort
  split <;> simp

@[simp] theorem State.askSteps_still (r : PassRecord) (f : StepFields) (n : Nat) (d : Direction) :
    (s.askSteps r f n d).still = s.still := by
  unfold State.askSteps
  dsimp only
  split <;> split <;> simp

@[simp] theorem State.expose_still (r : PassRecord) (f : StepFields) : (s.expose r f).still = s.still := by
  unfold State.expose
  split <;> simp

/-! ### The approach and the pass's tick -/

@[simp] theorem State.atStart_still : s.atStart.still = s.still := State.raise_still _ _

@[simp] theorem State.approachGivenUp_still : s.approachGivenUp.still = s.still := by
  unfold State.approachGivenUp
  split <;> simp

@[simp] theorem State.beginApproach_still (es : List EaseAxis) (d : Nat) :
    (s.beginApproach es d).still = s.still := by
  unfold State.beginApproach
  split <;> simp

@[simp] theorem State.stopApproach_still : s.stopApproach.still = s.still := by
  unfold State.stopApproach
  split
  · rfl
  · split
    · rfl
    · split <;> simp

@[simp] theorem State.tickApproach_still : s.tickApproach.still = s.still := by
  unfold State.tickApproach
  split
  · rfl
  · split
    all_goals
      dsimp only
      split <;> simp

@[simp] theorem State.tickRun_still (r : PassRecord) : (s.tickRun r).still = s.still := by
  unfold State.tickRun
  dsimp only
  split <;> simp

@[simp] theorem State.tickPass_still : s.tickPass.still = s.still := by
  unfold State.tickPass
  split
  · rfl
  · split
    · simp
    · split
      · split <;> simp
      · split <;> simp

@[simp] theorem State.faultPass_still (c : ReportCause) : (s.faultPass c).still = s.still := by
  unfold State.faultPass
  split
  · simp
  · split <;> simp

@[simp] theorem State.beginPark_still (es : List EaseAxis) (d : Nat) : (s.beginPark es d).still = s.still := by
  unfold State.beginPark
  split
  · simp
  · exact forAxes_onAxis_still _ _ _

end Sys2Proof.Machine
end

section
/-! SUPPORT. What every operation but a link's own commands, the edit unit's takes and MOVE_CHECK does to the links and
the check engine: transfers, marks, waiting items and the check go on as they were, or go away. -/

namespace Sys2Proof.Machine

/-- A link whose transfer, marks and waiting items go on as they were, or go away. -/
structure Link.Recedes (k x : Link) : Prop where
  named : ∀ p, x.named = some p → k.named = some p
  marks : k.marks = .absent → x.marks = .absent
  waits : k.waits = false → x.waits = false

theorem Link.Recedes.of_desk {k x : Link} (h : x.desk = k.desk) : k.Recedes x :=
  ⟨fun _ hp => Link.named_of_desk h ▸ hp, fun hm => (Link.marks_of_desk h).trans hm,
    fun hw => (Link.waits_of_queued (Link.queued_of_desk h)).trans hw⟩

theorem Link.Recedes.trans {k x y : Link} (h : k.Recedes x) (h' : x.Recedes y) : k.Recedes y :=
  ⟨fun p hp => h.named p (h'.named p hp), fun hm => h'.marks (h.marks hm), fun hw => h'.waits (h.waits hw)⟩

/-- What the links and the check engine held goes on as it was, or goes away; initialization may end. -/
structure State.Recedes (s t : State) : Prop where
  phase : t.phase = .serving ∨ t.phase = s.phase
  links : ∀ k, (s.link k).Recedes (t.link k)
  check : t.check = none ∨ t.check = s.check

section
variable {s t u : State} {l : LinkId}

theorem State.Recedes.of_desk (hp : t.phase = s.phase) (hd : ∀ k, (t.link k).desk = (s.link k).desk)
    (hc : t.check = none ∨ t.check = s.check) : s.Recedes t :=
  ⟨.inr hp, fun k => .of_desk (hd k), hc⟩

theorem State.Recedes.of_still (h : t.still = s.still) : s.Recedes t :=
  .of_desk (congrArg Prod.fst h :) (fun k => (congrArg (fun x => x.2.2.2.2.2 k) h :))
    (.inr (congrArg (fun x => x.2.2.2.2.1) h :))

theorem State.Recedes.refl (s : State) : s.Recedes s := .of_still rfl

theorem State.Recedes.trans (h : s.Recedes t) (h' : t.Recedes u) : s.Recedes u :=
  ⟨h'.phase.elim .inl (fun hp => hp ▸ h.phase), fun k => (h.links k).trans (h'.links k),
    h'.check.elim .inl (fun hc => hc ▸ h.check)⟩

theorem forAxes_recedes (f : AxisId → State → State) (hf : ∀ b (t : State), t.Recedes (f b t)) (as : List AxisId)
    (s : State) :
    s.Recedes (forAxes as f s) :=
  forAxes_inv s s.Recedes f (fun b t ht => ht.trans (hf b t)) as (.refl s)

/-- One link is written. -/
theorem State.Recedes.onLink {f : Link → Link} (hf : ∀ k : Link, k.Recedes (f k)) : s.Recedes (s.onLink l f) := by
  refine ⟨.inr (s.onLink_phase l f), fun k => ?_, .inr (s.onLink_check l f)⟩
  by_cases hk : k = l
  · subst hk
    rw [State.onLink_link]
    exact hf _
  · rw [State.onLink_link_ne _ _ hk]
    exact .of_desk rfl

end

/-! ### Records, parks and homes -/

section
variable (s : State) (l : LinkId) (a : AxisId)

theorem State.raise_recedes (e : EventKind) : s.Recedes (s.raise e) := .of_still (s.raise_still e)

theorem State.onAxis_recedes (f : Axis → Axis) : s.Recedes (s.onAxis a f) := .of_still rfl

theorem State.limitsChanged_recedes : s.Recedes (s.limitsChanged a) := by
  refine .of_desk (congrArg State.phase (s.limitsChanged_frame a) :) (fun k => ?_) ?_
  · rw [State.limitsChanged_eq]
    split
    · rw [State.raise_link, Link.raise_desk]
      cases k <;> rfl
    · cases k <;> rfl
  · rw [State.limitsChanged_check]
    split
    · exact .inl rfl
    · exact .inr rfl

theorem State.applyRecord_recedes (r : AxisRecord) : s.Recedes (s.applyRecord a r) := by
  unfold State.applyRecord
  split
  · exact (s.onAxis_recedes a _).trans (State.limitsChanged_recedes _ a)
  · exact s.onAxis_recedes a _

theorem State.applyStaged_recedes : s.Recedes (s.applyStaged a) := by
  unfold State.applyStaged
  split
  · exact .refl s
  · exact (s.onAxis_recedes a _).trans (State.applyRecord_recedes _ a _)

theorem State.applyStagedAll_recedes (as : List AxisId) : s.Recedes (s.applyStagedAll as) :=
  forAxes_recedes _ (fun b t => t.applyStaged_recedes b) _ s

theorem State.endPark_recedes (c : MotionCause) : s.Recedes (s.endPark c) := by
  unfold State.endPark
  split
  · exact .refl s
  · refine .trans (.of_still ?_) (State.applyStagedAll_recedes _ _)
    rw [State.raise_still, forAxes_onAxis_still]
    rfl

theorem State.tickPark_recedes : s.Recedes s.tickPark := by
  unfold State.tickPark
  split
  · exact .refl s
  · next g hg =>
    split
    · have h : s.Recedes (s.groupCreepTick g) := .of_still (s.groupCreepTick_still g)
      dsimp only
      split
      · exact h.trans (State.endPark_recedes _ _)
      · exact h
    · have h : s.Recedes { s.easeSetpoints g (g.elapsed + 1) with
          park := some { g with elapsed := g.elapsed + 1 } } := .of_still (s.easeSetpoints_still g _)
      dsimp only
      split
      · exact h.trans (State.endPark_recedes _ _)
      · exact h

theorem State.faultPark_recedes (c : MotionCause) : s.Recedes (s.faultPark c) := by
  unfold State.faultPark
  split
  · exact .refl s
  · split <;> exact s.endPark_recedes _

theorem State.stopPark_recedes : s.Recedes s.stopPark := by
  unfold State.stopPark
  split
  · exact .refl s
  · split
    · exact .refl s
    · split
      · exact s.endPark_recedes _
      · exact .of_still (State.handToCreep_still _ _)

theorem State.homeSucceeds_recedes : s.Recedes (s.homeSucceeds a) :=
  ((s.onAxis_recedes a _).trans (State.raise_recedes _ _)).trans (State.applyStaged_recedes _ a)

theorem State.homeFails_recedes (c : MotionCause) : s.Recedes (s.homeFails a c) :=
  ((s.onAxis_recedes a _).trans (State.raise_recedes _ _)).trans (State.applyStaged_recedes _ a)

theorem State.faultHome_recedes (c : MotionCause) : s.Recedes (s.faultHome a c) := by
  unfold State.faultHome
  split
  · split <;> exact s.homeFails_recedes a _
  · exact .refl s

theorem State.homeAtRest_recedes : s.Recedes (s.homeAtRest a) := by
  unfold State.homeAtRest
  split
  · exact .refl s
  · split
    · exact s.onAxis_recedes a _
    · exact s.homeSucceeds_recedes a
    · exact s.homeFails_recedes a _
    · exact .refl s
    · exact .refl s
    · exact .refl s

theorem State.tickHome_recedes : s.Recedes (s.tickHome a) := by
  unfold State.tickHome
  split
  · have h := s.onAxis_recedes a Axis.creepTick
    dsimp only
    split
    · exact h.trans (State.onAxis_recedes _ a _)
    · split
      · exact h.trans (State.homeAtRest_recedes _ a)
      · exact h
  · exact .refl s

theorem State.tickHomes_recedes : s.Recedes s.tickHomes :=
  forAxes_recedes _ (fun b t => t.tickHome_recedes b) _ s

theorem State.stopReached_recedes : s.Recedes (s.stopReached a) :=
  (s.onAxis_recedes a _).trans (State.homeSucceeds_recedes _ a)

/-! ### Faults and the step output -/

theorem State.tripAxis_recedes : s.Recedes (s.tripAxis a) := by
  unfold State.tripAxis
  dsimp only
  generalize hu : ((s.setAxis a _).raise .axisTrip) = u
  have h : s.Recedes u := by
    rw [← hu]
    exact .of_still (State.raise_still _ _)
  split
  · exact h.trans (.of_still (u.faultPass_still _))
  · exact h.trans (u.faultPark_recedes _)
  · exact h.trans (u.faultHome_recedes a _)
  · exact h

theorem State.allDrivesOff_recedes (c : ReportCause) (m : MotionCause) : s.Recedes (s.allDrivesOff c m) := by
  have h : s.Recedes ((s.onAxes Axis.driveOff).faultPass c) := .of_still (State.faultPass_still _ c)
  exact (h.trans (State.faultPark_recedes _ m)).trans
    (forAxes_recedes _ (fun b t => t.faultHome_recedes b m) allAxes _)

theorem State.estopAsserted_recedes : s.Recedes s.estopAsserted := by
  have h : s.Recedes (State.raise .estop ({ s with estop := true }.onAxes Axis.driveOff)) :=
    .of_still (State.raise_still _ _)
  exact h.trans (State.allDrivesOff_recedes _ _ _)

theorem State.supplyStop_recedes : s.Recedes s.supplyStop := by
  unfold State.supplyStop
  split
  · exact .refl s
  · exact s.allDrivesOff_recedes _ _

theorem State.compareSupply_recedes : s.Recedes s.compareSupply := by
  unfold State.compareSupply
  split
  · split
    · exact .of_still (State.raise_still _ _)
    · exact .refl s
  · split
    · have h : s.Recedes ({ s with supplyLow := true }.raise .supplyLow) := .of_still (State.raise_still _ _)
      exact h.trans (State.supplyStop_recedes _)
    · exact .refl s

theorem State.setSupply_recedes (level : Nat) (action : SupplyAction) : s.Recedes (s.setSupply level action) := by
  have h0 : s.Recedes { s with supplyLevel := level, supplyAction := action } := .of_still rfl
  have h := h0.trans (State.compareSupply_recedes _)
  unfold State.setSupply
  dsimp only
  split
  · exact h.trans (State.supplyStop_recedes _)
  · exact h

theorem State.tickTrips_recedes : s.Recedes s.tickTrips := by
  unfold State.tickTrips
  split
  · exact .refl s
  · exact s.tripAxis_recedes _
  · have h : s.Recedes { s with freeIx := s.freeIx + 1 } := .of_still rfl
    refine h.trans (forAxes_recedes _ (fun b t => ?_) _ _)
    split
    · exact t.tripAxis_recedes b
    · exact .refl t

theorem State.tickStops_recedes : s.Recedes s.tickStops := by
  refine forAxes_recedes _ (fun b t => ?_) _ s
  split
  · exact t.stopReached_recedes b
  · exact .refl t

theorem State.tickOutput_recedes : s.Recedes s.tickOutput := by
  have h : s.Recedes (forAxes allAxes State.tickAxis s) :=
    .of_still (forAxes_still s _ (fun b t => t.tickAxis_still b) _)
  exact (h.trans (State.tickStops_recedes _)).trans (State.tickTrips_recedes _)

/-! ### The links' own work -/

/-- A link's settings, flags, collection or answer are written, or a transfer that goes on naming its track. -/
theorem State.onLink_recedes (f : Link → Link) (hf : ∀ k, (f k).desk = k.desk) : s.Recedes (s.onLink l f) :=
  .onLink (fun k => .of_desk (hf k))

theorem State.answer_recedes (x : Answer) : s.Recedes (s.answer l x) := s.onLink_recedes l _ (fun _ => by rfl)

theorem Link.Recedes.closes (k : Link) (c : Collection) : k.Recedes { k with transfer := none, collection := c } :=
  ⟨fun _ hp => (by cases hp), id, id⟩

theorem State.closeGet_recedes : s.Recedes (s.closeGet l) := .onLink (fun k => .closes k _)

theorem State.endGet_recedes (x : Answer) : s.Recedes (s.endGet l x) := by
  have h : s.Recedes { s with freeIx := s.freeIx + 1 } := .of_still rfl
  unfold State.endGet
  dsimp only
  split
  · exact (h.trans (State.closeGet_recedes _ l)).trans (State.answer_recedes _ l x)
  · exact (h.trans (State.onLink_recedes _ l _ (fun _ => by rfl))).trans (State.answer_recedes _ l x)

theorem State.compareGet_recedes (slot : Nat) (t : TrackId) (g p n : Nat) (b : Bool) :
    s.Recedes (s.compareGet l slot t g p n b) := by
  unfold State.compareGet
  split
  · exact s.endGet_recedes l _
  · split
    · exact s.endGet_recedes l _
    · split
      · exact s.endGet_recedes l _
      · exact (s.onLink_recedes l _ (fun _ => by rfl)).trans (State.answer_recedes _ l _)

theorem Transfer.collected_target (x : Transfer) : x.collected.target = x.target := by cases x <;> rfl

theorem Transfer.blockSent_target (n : Nat) (x : Transfer) : (x.blockSent n).target = x.target := by cases x <;> rfl

theorem Transfer.idled_target (x : Transfer) : x.idled.target = x.target := by cases x <;> rfl

theorem State.collect_recedes : s.Recedes (s.collect l) := by
  unfold State.collect
  split
  · have h : s.Recedes (s.onLink l (fun k => { k with transfer := k.transfer.map Transfer.collected })) :=
      s.onLink_recedes l _ (Link.desk_transfer Transfer.collected_target)
    dsimp only
    split
    · exact h.trans (State.onLink_recedes _ l _ (fun _ => by rfl))
    · exact h.trans (State.compareGet_recedes _ l _ _ _ _ _ _)
  all_goals
    split
    · exact (s.onLink_recedes l _ (fun _ => by rfl)).trans (State.answer_recedes _ l _)
    · exact s.answer_recedes l _

theorem State.serveCollection_recedes : s.Recedes (s.serveCollection l) := by
  unfold State.serveCollection
  split
  · split
    · exact .refl s
    · exact s.compareGet_recedes l _ _ _ _ _ _
  · exact .refl s

theorem State.serveCollections_recedes : s.Recedes s.serveCollections :=
  (s.serveCollection_recedes .a).trans (State.serveCollection_recedes _ .b)

theorem State.blockSent_recedes : s.Recedes (s.blockSent l) := by
  unfold State.blockSent
  split
  · refine .onLink (fun k => ⟨fun p hp => ?_, id, id⟩)
    exact Link.named_of_desk (Link.desk_transfer (Transfer.blockSent_target _) k) ▸ hp
  all_goals exact .refl s

theorem State.transferTimesOut_recedes : s.Recedes (s.transferTimesOut l) :=
  (s.closeGet_recedes l).trans (State.onLink_recedes _ l _ (fun _ => by rfl))

theorem State.tickLink_recedes : s.Recedes (s.tickLink l) := by
  unfold State.tickLink
  split
  · exact .refl s
  · next x hx =>
    split
    · exact .refl s
    · split
      · exact s.transferTimesOut_recedes l
      · refine .of_desk (s.onLink_phase l _) (fun k => ?_) (.inr (s.onLink_check l _))
        by_cases hk : k = l
        · subst hk
          rw [State.onLink_link]
          simp [Link.desk, Link.named, Link.queued, hx, Transfer.idled_target]
        · rw [State.onLink_link_ne _ _ hk]

theorem State.acknowledge_recedes (due : Bool) (x : Answer) : s.Recedes (s.acknowledge l due x) := by
  have h : s.Recedes (s.onLink l (fun k => { k with transfer := k.transfer.map Transfer.restart })) :=
    s.onLink_recedes l _ (Link.desk_transfer Transfer.restart_target)
  unfold State.acknowledge
  dsimp only
  split
  · exact h.trans (State.answer_recedes _ l x)
  · exact h

theorem State.answerOp_recedes (t : State) (r : EditRun) : t.Recedes (t.answerOp r s) := by
  unfold State.answerOp
  split
  · exact t.acknowledge_recedes _ _ _
  all_goals
    split
    · exact t.answer_recedes _ _
    · exact .refl t

/-- A deselection drops the held item, and the answer due of a buffered block (R177). -/
theorem State.deselect_recedes : s.Recedes (s.deselect l) := by
  refine ⟨.inr (s.deselect_phase l), fun k => ?_, .inr (s.deselect_check l)⟩
  rcases LinkId.eq_or_other k l with rfl | rfl
  · rw [State.deselect_link]
    refine ⟨fun _ hp => hp, id, fun hw => ?_⟩
    obtain ⟨hb, -⟩ := Link.waits_eq_false.1 hw
    simp [Link.waits, hb]
  · rw [State.deselect_link_other]
    exact .of_desk rfl

theorem State.answerReset_recedes : s.Recedes (s.answerReset l) := by
  unfold State.answerReset
  split
  · exact (s.onLink_recedes l _ (fun _ => by rfl)).trans (State.answer_recedes _ l _)
  · exact .refl s

theorem State.frameRejected_recedes (bs : List Byte) : s.Recedes (s.frameRejected l bs) := by
  unfold State.frameRejected
  split
  · exact (s.deselect_recedes l).trans (State.onLink_recedes _ l _ (fun _ => by rfl))
  · exact (s.deselect_recedes l).trans (State.answer_recedes _ l _)
  · exact (s.deselect_recedes l).trans (State.answer_recedes _ l _)
  · exact s.deselect_recedes l

theorem State.collectSelected_recedes : s.Recedes (s.collectSelected l) := by
  unfold State.collectSelected
  split
  · exact (s.deselect_recedes l).trans (State.answer_recedes _ l _)
  · exact (s.deselect_recedes l).trans (State.collect_recedes _ l)

theorem State.initializationEnds_recedes : s.Recedes s.initializationEnds := by
  unfold State.initializationEnds
  split
  · exact ⟨.inl rfl, fun k => .of_desk (by rw [State.raise_link, Link.raise_desk]; cases k <;> rfl), .inr rfl⟩
  · exact .refl s

theorem State.tickInit_recedes : s.Recedes s.tickInit := by
  unfold State.tickInit
  split
  · exact .refl s
  · split
    · exact s.initializationEnds_recedes
    · exact .of_still rfl

end

end Sys2Proof.Machine
end

section
/-! SUPPORT. What keeps the four conditions of R34, R24, R20 and R51 on transfers, waiting items, initialization and the
check: what goes on or goes away, an item the IDLE unit takes, an operation's end, and the resets. -/

namespace Sys2Proof.Machine

variable {s t u : State} {l : LinkId} {r : EditRun}

/-! ### The conditions, by link -/

theorem State.waitingNeedsWork_iff : s.waitingNeedsWork = true ↔
    s.edit = none → ∀ k, (s.link k).waits = false := by
  have hk : (∀ k, (s.link k).waits = false) ↔ s.linkA.waits = false ∧ s.linkB.waits = false :=
    ⟨fun h => ⟨h .a, h .b⟩, fun h k => by cases k; exact h.1; exact h.2⟩
  rw [hk, Link.waits_eq_false, Link.waits_eq_false]
  cases he : s.edit <;> simp [State.waitingNeedsWork, he, and_assoc]

/-- During initialization the store is empty and the edit unit IDLE. -/
def State.EmptyStore (s : State) : Prop := (∀ n, s.move n = none) ∧ s.free = 512 ∧ s.edit = none

theorem State.initQuiet_iff : s.initQuiet = true ↔
    s.phase ≠ .serving → s.EmptyStore ∧ ∀ k, (s.link k).named = none ∧ (s.link k).marks = .absent := by
  have hk : (∀ k, (s.link k).named = none ∧ (s.link k).marks = .absent) ↔
      (s.linkA.transfer = none ∧ s.linkA.marks = .absent) ∧ s.linkB.transfer = none ∧ s.linkB.marks = .absent :=
    ⟨fun h => ⟨(h .a).imp_left Option.map_eq_none_iff.1, (h .b).imp_left Option.map_eq_none_iff.1⟩, fun h k => by
      cases k
      · exact h.1.imp_left Option.map_eq_none_iff.2
      · exact h.2.imp_left Option.map_eq_none_iff.2⟩
  have hm : (∀ n, s.move n = none) ↔ allSlots.all (fun n => (s.move n).isNone) = true := by
    simp only [List.all_eq_true, Option.isNone_iff_eq_none]
    refine ⟨fun h n _ => h n, fun h n => ?_⟩
    cases hn : s.move n with
    | none => rfl
    | some m => rw [h n (mem_allSlots.2 (s.move_bounds hn))] at hn; cases hn
  rw [hk, State.EmptyStore, hm]
  simp only [State.initQuiet, Bool.or_eq_true, Bool.and_eq_true, decide_eq_true_eq, Option.isNone_iff_eq_none]
  tauto

/-- The four conditions go on holding, the one on the check where the directory agrees. -/
structure State.SoundKept (s t : State) : Prop where
  apart : s.transfersApart = true → t.transfersApart = true
  work : s.waitingNeedsWork = true → t.waitingNeedsWork = true
  quiet : s.initQuiet = true → t.initQuiet = true
  check : s.agreeing → s.checkSound = true → t.checkSound = true

theorem State.SoundKept.refl (s : State) : s.SoundKept s := ⟨id, id, id, fun _ => id⟩

theorem State.SoundKept.trans (h : s.SoundKept t) (h' : t.SoundKept u) (ha : s.agreeing → t.agreeing) :
    s.SoundKept u :=
  ⟨h'.apart ∘ h.apart, h'.work ∘ h.work, h'.quiet ∘ h.quiet, fun hs hc => h'.check (ha hs) (h.check hs hc)⟩

/-! ### What goes on or goes away -/

theorem State.Recedes.apart (h : s.Recedes t) : s.transfersApart = true → t.transfersApart = true :=
  State.transfersApart_of_named (fun k p hp => (h.links k).named p hp)

theorem State.Recedes.serving (h : s.Recedes t) (hp : s.phase = .serving) : t.phase = .serving :=
  h.phase.elim id (fun e => e.trans hp)

/-- The links and the check go on or go away, the moves keep their content and the operation goes on. -/
structure State.GoesOn (s t : State) : Prop where
  recedes : s.Recedes t
  moves : MovesKept s t
  op : t.edit.map (·.op) = s.edit.map (·.op)

theorem State.GoesOn.trans (h : s.GoesOn t) (h' : t.GoesOn u) : s.GoesOn u :=
  ⟨h.recedes.trans h'.recedes, h.moves.trans h'.moves, h'.op.trans h.op⟩

theorem State.GoesOn.of_kept (hr : s.Recedes t) (hk : StoreKept s t) : s.GoesOn t := ⟨hr, hk.toMovesKept, hk.op⟩

theorem State.GoesOn.of_still (h : t.still = s.still) : s.GoesOn t := by
  have hs : t.slots = s.slots := (congrArg (fun x => x.2.1) h :)
  have hf : t.free = s.free := (congrArg (fun x => x.2.2.1) h :)
  have he : t.edit = s.edit := (congrArg (fun x => x.2.2.2.1) h :)
  exact ⟨.of_still h, .of_slots hf hs, by rw [he]⟩

theorem State.GoesOn.refl (s : State) : s.GoesOn s := .of_still rfl

theorem State.GoesOn.edit_none (h : s.GoesOn t) : t.edit = none ↔ s.edit = none := by
  rw [← Option.map_eq_none_iff, h.op, Option.map_eq_none_iff]

theorem State.GoesOn.sound (h : s.GoesOn t) : s.checkSound = true → t.checkSound = true :=
  (State.CheckGoesOn.of_moves h.moves h.recedes.check).checkSound (.inr h.op)

theorem State.GoesOn.soundKept (h : s.GoesOn t) : s.SoundKept t := by
  refine ⟨h.recedes.apart, fun hs => ?_, fun hs => ?_, fun _ => h.sound⟩
  · rw [State.waitingNeedsWork_iff] at hs ⊢
    exact fun hte k => (h.recedes.links k).waits (hs (h.edit_none.1 hte) k)
  · rw [State.initQuiet_iff] at hs ⊢
    intro hp
    obtain ⟨⟨hmv, hf, hse⟩, hk⟩ := hs (fun e => hp (h.recedes.serving e))
    refine ⟨⟨fun n => h.moves.move_none (hmv n), h.moves.free.trans hf, h.edit_none.2 hse⟩, fun k =>
      ⟨?_, (h.recedes.links k).marks (hk k).2⟩⟩
    rw [Option.eq_none_iff_forall_ne_some]
    intro p hp'
    exact absurd ((h.recedes.links k).named p hp') (by simp [(hk k).1])

theorem State.SoundKept.goesOn (h : s.SoundKept t) (h' : t.GoesOn u) : s.SoundKept u :=
  ⟨h'.recedes.apart ∘ h.apart, h'.soundKept.work ∘ h.work, h'.soundKept.quiet ∘ h.quiet,
    fun ha hc => h'.sound (h.check ha hc)⟩

/-! ### The links, in SERVING -/

/-- In SERVING a link is written: the transfers stay apart, and nothing comes to wait at an IDLE unit. -/
theorem State.SoundKept.onLink (hp : s.phase = .serving) (f : Link → Link)
    (ha : s.transfersApart = true → (s.onLink l f).transfersApart = true)
    (hw : s.edit = none → ∀ k : Link, (f k).waits = k.waits) : s.SoundKept (s.onLink l f) := by
  refine ⟨ha, fun h => ?_, fun _ => ?_,
    fun _ => State.CheckGoesOn.checkSound (State.onLink_goesOn f) (.inr (by rw [State.onLink_edit]))⟩
  · rw [State.waitingNeedsWork_iff, State.onLink_edit] at *
    exact fun he k => (State.onLink_part Link.waits (hw he) k).trans (h he k)
  · rw [State.initQuiet_iff, State.onLink_phase]
    exact fun h => absurd hp h

/-- An item comes to wait behind the edit unit at work. -/
theorem State.SoundKept.queues (he : s.edit ≠ none) (hp : s.phase = .serving) (f : Link → Link)
    (hn : ∀ k, (f k).named = k.named) : s.SoundKept (s.onLink l f) :=
  .onLink hp f (State.transfersApart_of_named (fun k _ h => State.onLink_part Link.named hn k ▸ h))
    (fun h => absurd h he)

/-- The IDLE edit unit takes an item, with nothing left behind it. -/
theorem State.Takes.soundKept (h : s.Takes t) (he : s.edit = none) (hp : s.phase = .serving) : s.SoundKept t := by
  refine ⟨h.apart, fun hw => ?_, fun _ => ?_, h.sound⟩
  · rw [State.waitingNeedsWork_iff] at hw ⊢
    intro _ k
    rw [Link.waits_of_queued (h.queued k)]
    exact hw he k
  · rw [State.initQuiet_iff]
    exact fun hq => absurd (h.phase.trans hp) hq

theorem State.afterMarks_recedes (c : EditCmd) (w : Reason) : s.Recedes (s.afterMarks l c w) := by
  unfold State.afterMarks
  split
  · exact .onLink (fun _ => ⟨fun _ h => h, fun _ => rfl, id⟩)
  · exact .refl s

theorem State.storeEdit_soundKept (hp : s.phase = .serving) (c : EditCmd) : s.SoundKept (s.storeEdit l c) := by
  unfold State.storeEdit
  split
  · next he => exact (State.takeEdit_takes he c).soundKept he hp
  · next r he =>
    split
    · exact .queues (by simp [he]) hp _ (fun _ => by rfl)
    · exact (State.GoesOn.of_kept ((State.afterMarks_recedes c _).trans (State.answer_recedes _ l _))
        ((s.afterMarks_kept l c _).trans (State.refuseWith_kept _ l _ _ _))).soundKept

@[simp] theorem State.answer_still (x : Answer) : (s.answer l x).still = s.still :=
  State.still_congr (s.onLink_phase l _) (s.onLink_slots l _) (s.onLink_free l _) (s.onLink_edit l _)
    (s.onLink_check l _) (State.answer_desk x)

@[simp] theorem State.ok_still (res : Results) : (s.ok l res).still = s.still := State.answer_still _

@[simp] theorem State.refuse_still (w : Reason) : (s.refuse l w).still = s.still := State.answer_still _

@[simp] theorem State.refuseWith_still (w : Reason) (res : Results) (b : Bool) :
    (s.refuseWith l w res b).still = s.still := State.answer_still _

/-- A get transfer opens on a track that the other link's transfer does not name (R18). -/
theorem State.takeKeysGet_soundKept (hp : s.phase = .serving) (slot track : Nat) :
    s.SoundKept (s.takeKeysGet l slot track) := by
  have hrefused : ∀ w, s.SoundKept (s.refuse l w) := fun w => (State.GoesOn.of_still (State.refuse_still w)).soundKept
  unfold State.takeKeysGet
  split
  · exact hrefused _
  next tr _ =>
  split
  · exact hrefused _
  split
  · exact hrefused _
  split
  · exact hrefused _
  split
  · exact hrefused _
  split
  · exact hrefused _
  next hother =>
  refine State.SoundKept.goesOn (.onLink hp _ (fun _ => ?_) (fun _ _ => by rfl)) (.of_still (State.ok_still _))
  refine State.transfersApart_open (l := l) (p := (slot, tr)) (by rw [State.onLink_link]; rfl) (fun h => hother ?_)
  rw [State.onLink_link_ne _ _ (by cases l <;> decide)] at h
  exact State.transferHas_names_true h

/-! ### A check begins and works -/

/-- A check begins without results, on a move on which no operation works (R50). -/
theorem State.beginCheck_soundKept (hp : s.phase = .serving) {slot : Nat} (m : Move) (ht : s.isTarget slot = false) :
    s.SoundKept (s.beginCheck slot m) := by
  have hlink : ∀ k, (s.beginCheck slot m).link k = s.link k := fun k => by
    unfold State.beginCheck
    rw [State.onMove_link]
    cases k <;> rfl
  have hedit : (s.beginCheck slot m).edit = s.edit := State.onMove_edit _ _ _
  refine ⟨State.transfersApart_of_named (fun k _ h => hlink k ▸ h), fun hw => ?_, fun _ => ?_, fun _ _ => ?_⟩
  · rw [State.waitingNeedsWork_iff, hedit] at *
    exact fun he k => hlink k ▸ hw he k
  · rw [State.initQuiet_iff]
    refine fun hq => absurd ?_ hq
    unfold State.beginCheck
    rw [State.onMove_phase]
    exact hp
  · rw [State.checkSound_iff, hedit]
    intro c hc
    rw [State.beginCheck, State.onMove_check] at hc
    cases hc
    refine ⟨fun k _ => CheckRun.begun_sound slot _ 0, fun op hop k _ => EditOp.spares_of_ne (fun hs => ?_) k⟩
    obtain ⟨r, hr, rfl⟩ := Option.map_eq_some_iff.1 hop
    have hs : slot = r.op.changes := hs
    unfold State.isTarget at ht
    rw [hr] at ht
    cases hop' : r.op <;> simp_all [EditOp.targets, EditOp.changes]

theorem State.endCheck_recedes : s.Recedes s.endCheck := by
  unfold State.endCheck
  split
  · exact .refl s
  · split
    · exact .refl s
    · refine .trans (.of_desk ?_ (fun k => ?_) (.inl ?_)) (State.raise_recedes _ _)
      · exact State.onMove_phase _ _ _
      · rw [State.onMove_link]
        cases k <;> rfl
      · exact State.onMove_check _ _ _

/-- The check engine's tick works on, and the results stay those of the first tracks (R51). -/
theorem State.tickCheck_soundKept : s.SoundKept s.tickCheck := by
  have hend : ∀ t : State, t.GoesOn t.endCheck := fun t => .of_kept State.endCheck_recedes t.endCheck_kept
  unfold State.tickCheck
  split
  · exact .refl s
  · next c hc =>
    split
    · exact .refl s
    · next m hm =>
      have h : s.SoundKept { s with check := some { c.works m 4 with elapsed := c.elapsed + 1 } } := by
        refine ⟨id, id, id, fun _ => State.CheckGoesOn.checkSound (fun c' hc' => ?_) (.inr rfl)⟩
        cases hc'
        have hslot : (c.works m 4).slot = c.slot := by simp
        refine ⟨c, hc, hslot.symm, .of_eq rfl, fun hst k hk => ?_⟩
        have hk : s.move c.slot = some k := hslot ▸ hk
        rw [hm] at hk
        cases hk
        exact CheckRun.works_sound (c := c) (hst m hm) 4
      dsimp only
      split
      · exact h.goesOn (hend _)
      · exact h

/-! ### An operation ends -/

theorem State.rewrite_phase (n : Nat) (m k : Move) : (s.rewrite n m k).phase = s.phase := by
  unfold State.rewrite
  dsimp only
  exact s.setMove_phase n _

theorem State.remove_phase (n : Nat) (tr : TrackId) (f : Nat → Bool) : (s.remove n tr f).phase = s.phase := by
  unfold State.remove
  split
  · rfl
  · split
    · exact State.rewrite_phase _ _ _
    · rfl

theorem State.completeOp_phase : (s.completeOp r).phase = s.phase := by
  have h : (s.completeOp r).phase = (s.applyOp r).phase := rfl
  rw [h]
  unfold State.applyOp
  split
  · unfold State.endBlock
    dsimp only
    rw [State.onLink_phase]
    split
    · exact State.rewrite_phase _ _ _
    · rfl
  · exact State.remove_phase _ _ _
  · exact State.remove_phase _ _ _
  · unfold State.endCopy
    split
    · dsimp only
      exact s.setMove_phase _ _
    · rfl
  · unfold State.endRetire
    dsimp only
    exact s.setMove_phase _ _

/-- A removal that finds no key leaves the store. -/
theorem State.remove_none {n : Nat} {m : Move} {tr : TrackId} {f : Nat → Bool} (hm : s.move n = some m)
    (h : (m.frames tr).any f = false) : s.remove n tr f = s := by
  unfold State.remove
  rw [hm]
  dsimp only
  rw [if_neg (by simp [h])]

theorem State.completeOp_move_of_spares {n : Nat} {m : Move} (hm : s.move n = some m)
    (h : r.op.spares n m = true) : (s.completeOp r).move n = some m := by
  by_cases hn : n = r.op.changes
  · have hremove : s.applyOp r = s := by
      unfold State.applyOp
      cases hop : r.op with
      | keyDrop i tr a b =>
        rw [hop] at hn h
        obtain rfl : n = i := hn
        exact State.remove_none hm (by simpa [EditOp.spares] using h)
      | trackClear i tr =>
        rw [hop] at hn h
        obtain rfl : n = i := hn
        have hc : m.keyCount tr = 0 := by simpa [EditOp.spares] using h
        refine State.remove_none hm ?_
        rw [List.eq_nil_of_length_eq_zero ((m.frames_length tr).trans hc)]
        rfl
      | dataBlock i tr ks => simp_all [EditOp.spares, EditOp.changes]
      | moveCopy i j => simp_all [EditOp.spares, EditOp.changes]
      | moveRetire i => simp_all [EditOp.spares, EditOp.changes]
    exact (State.move_congr (congrArg State.slots hremove) n).trans hm
  · exact ((State.onlySlot_completeOp r).move n hn).trans hm

theorem State.completeOp_sound (he : s.edit = some r) (ha : s.agreeing) (hs : s.checkSound = true) :
    (s.completeOp r).checkSound = true := by
  rw [State.checkSound_iff] at hs
  refine State.CheckGoesOn.checkSound ?_ (.inl rfl) (State.checkSound_iff.2 hs)
  refine .of_content (.inr (State.applyOp_holders r).1) (fun c hc => .of_eq ?_)
  have hc : s.check = some c := (State.applyOp_holders r).1.symm.trans hc
  obtain ⟨m, hm, -⟩ := State.stateOf_eq_some.1 (ha.checking hc)
  rw [hm]
  exact State.completeOp_move_of_spares hm ((hs c hc).2 r.op (by rw [he]; rfl) m hm)

theorem State.completeOp_apart (hs : s.transfersApart = true) : (s.completeOp r).transfersApart = true :=
  State.transfersApart_of_named (fun k _ hp => Link.named_of_desk (State.completeOp_desk k) ▸ hp) hs

/-! ### The resets -/

/-- A soft reset leaves no transfer, no marks and nothing that waits. -/
theorem State.softReset_link (k : LinkId) : (s.softReset.link k).named = none ∧
    (s.softReset.link k).marks = .absent ∧ (s.softReset.link k).waits = false := by
  have hrecedes : ∀ u : State, u.Recedes ((u.answerReset .a).answerReset .b) :=
    fun u => (u.answerReset_recedes .a).trans (State.answerReset_recedes _ .b)
  unfold State.softReset
  dsimp only
  generalize ((_ : State).applyStagedAll allAxes) = x
  generalize hu : ({ x.onLinks Link.softReset with edit := none, resetWaiting := false } : State) = u
  have hlink : u.link k = (x.link k).softReset := by
    rw [← hu]
    cases k <;> rfl
  have h := (hrecedes u).links k
  rw [hlink] at h
  refine ⟨?_, h.marks rfl, h.waits rfl⟩
  rw [Option.eq_none_iff_forall_ne_some]
  intro p hp
  cases h.named p hp

theorem State.resetCheck_check : s.resetCheck.check = none := by
  unfold State.resetCheck
  split
  · assumption
  · exact State.onMove_check _ _ _

theorem State.onMove_recedes (n : Nat) (f : Move → Move) : s.Recedes (s.onMove n f) :=
  .of_desk (s.onMove_phase n f) (fun k => by rw [State.onMove_link]) (.inr (s.onMove_check n f))

theorem State.resetCheck_recedes : s.Recedes s.resetCheck := by
  unfold State.resetCheck
  split
  · exact .refl s
  · refine .trans (.of_desk ?_ (fun k => ?_) (.inl ?_)) (State.onMove_recedes _ _)
    · rfl
    · cases k <;> rfl
    · rfl

theorem State.releaseMove_recedes : s.Recedes s.releaseMove := by
  unfold State.releaseMove
  split
  · exact .refl s
  · exact State.onMove_recedes _ _

theorem Link.softReset_recedes (k : Link) : k.Recedes k.softReset :=
  ⟨fun _ hp => (by cases hp), fun _ => rfl, fun _ => rfl⟩

/-- A soft reset once the check has stopped: nothing goes on but goes away. -/
theorem State.softReset_recedes : s.resetCheck.Recedes s.softReset := by
  have hown : s.resetCheck.releaseMove.Recedes s.resetCheck.releaseMove.resetOwners := .of_still rfl
  have hlinks : ∀ x : State, x.Recedes { x.onLinks Link.softReset with edit := none, resetWaiting := false } :=
    fun x => ⟨.inr rfl, fun k => by cases k <;> exact Link.softReset_recedes _, .inr rfl⟩
  refine State.releaseMove_recedes.trans (hown.trans ?_)
  refine State.Recedes.trans ?_ ((State.answerReset_recedes _ .a).trans (State.answerReset_recedes _ .b))
  refine State.Recedes.trans ?_ (hlinks _)
  refine State.Recedes.trans ?_ (State.applyStagedAll_recedes _ _)
  exact .of_still (State.onAxes_still _ _)

theorem State.softReset_check : s.softReset.check = none :=
  State.softReset_recedes.check.elim id (fun h => h.trans State.resetCheck_check)

theorem State.softReset_serving (h : s.phase = .serving) : s.softReset.phase = .serving :=
  (State.resetCheck_recedes.trans State.softReset_recedes).serving h

/-- A soft reset leaves the conditions in force, whatever held before it. -/
theorem State.softReset_sound : s.softReset.transfersApart = true ∧ s.softReset.waitingNeedsWork = true ∧
    s.softReset.checkSound = true := by
  refine ⟨?_, ?_, ?_⟩
  · rw [State.transfersApart_iff]
    intro k p hp
    rw [(State.softReset_link k).1] at hp
    cases hp
  · rw [State.waitingNeedsWork_iff]
    exact fun _ k => (State.softReset_link k).2.2
  · rw [State.checkSound_iff, State.softReset_check]
    intro c hc
    cases hc

theorem State.softReset_soundKept : s.SoundKept s.softReset := by
  obtain ⟨ha, hw, hc⟩ := State.softReset_sound (s := s)
  refine ⟨fun _ => ha, fun _ => hw, fun hq => ?_, fun _ _ => hc⟩
  have hm := s.softReset_movesKept
  rw [State.initQuiet_iff] at hq ⊢
  intro hp
  obtain ⟨⟨hmv, hf, -⟩, -⟩ := hq (fun e => hp (State.softReset_serving e))
  exact ⟨⟨fun n => hm.move_none (hmv n), hm.free.trans hf, s.softReset_edit⟩, fun k =>
    ⟨(State.softReset_link k).1, (State.softReset_link k).2.1⟩⟩

/-- An operation in progress, or a state in SERVING, has nothing of initialization to keep. -/
theorem State.initQuiet_serving (h : s.initQuiet = true) (he : s.edit ≠ none) : s.phase = .serving := by
  by_contra hp
  exact he (State.initQuiet_iff.1 h hp).1.2.2

theorem State.initQuiet_of_serving (h : s.phase = .serving) : s.initQuiet = true :=
  State.initQuiet_iff.2 (fun hp => absurd h hp)

theorem State.completeOp_softReset_soundKept (he : s.edit = some r) : s.SoundKept (s.completeOp r).softReset := by
  obtain ⟨ha, hw, hc⟩ := State.softReset_sound (s := s.completeOp r)
  exact ⟨fun _ => ha, fun _ => hw, fun hq => State.initQuiet_of_serving (State.softReset_serving
    (State.completeOp_phase.trans (State.initQuiet_serving hq (by simp [he])))), fun _ _ => hc⟩

/-! ### The arbiter -/

theorem Link.served_recedes (k : Link) : k.Recedes k.served := by
  refine ⟨fun p hp => ?_, fun h => ?_, fun h => ?_⟩
  · unfold Link.served at hp
    split at hp <;> exact hp
  · unfold Link.served
    split <;> exact h
  · obtain ⟨hb, hh⟩ := Link.waits_eq_false.1 h
    simp [Link.served, Link.waits, hb]

theorem State.served_goesOn : s.GoesOn (s.onLink l Link.served) :=
  .of_kept (.onLink Link.served_recedes) (s.onLink_kept l _)

theorem State.arbitrate_apart (h : s.transfersApart = true) : (s.arbitrate 4 l).transfersApart = true :=
  (State.arbitrate_induction (P := fun u => u.transfersApart = true)
    (fun _ _ _ _ _ htakes hu => htakes.apart (State.served_goesOn.recedes.apart hu)) 4 l s s.waiting_le h).1

theorem State.arbitrate_serving (h : s.phase = .serving) : (s.arbitrate 4 l).phase = .serving :=
  (State.arbitrate_induction (P := fun u => u.phase = .serving)
    (fun _ _ _ _ _ htakes hu => htakes.phase.trans ((State.onLink_phase _ _ _).trans hu)) 4 l s s.waiting_le h).1

theorem State.arbitrate_sound (ha : s.agreeing) (h : s.checkSound = true) : (s.arbitrate 4 l).checkSound = true :=
  (State.arbitrate_induction (P := fun u => u.agreeing ∧ u.checkSound = true)
    (fun u t k he ht htakes hu => by
      obtain ⟨x, c, hx, -, hxe, heff, -⟩ := State.takeWaiting_cases ht he
      exact ⟨heff.agreeing hxe (hx.agreeing hu.1),
        htakes.sound ((u.onLink_kept k _).agreeing hu.1) (State.served_goesOn.sound hu.2)⟩)
    4 l s s.waiting_le ⟨ha, h⟩).1.2

theorem State.ended_goesOn : (s.completeOp r).GoesOn (s.ended r) :=
  .of_kept ((State.answerOp_recedes s (s.completeOp r) r).trans (State.serveCollections_recedes _))
    ((s.answerOp_kept (s.completeOp r) r).trans (State.serveCollections_kept _))

/-- An operation ends: a soft reset that waits, or what the arbiter then takes (R21, R24). -/
theorem State.finishEdit_soundKept : s.SoundKept s.finishEdit := by
  cases he : s.edit with
  | none =>
    have h : s.finishEdit = s := by
      unfold State.finishEdit
      rw [he]
    rw [h]
    exact .refl s
  | some r =>
    cases hw : s.resetWaiting with
    | true =>
      have h : s.finishEdit = (s.completeOp r).softReset := by
        unfold State.finishEdit
        rw [he]
        exact if_pos hw
      rw [h]
      exact State.completeOp_softReset_soundKept he
    | false =>
      have hend := State.ended_goesOn (s := s) (r := r)
      rw [State.finishEdit_arbitrates he hw]
      refine ⟨fun h => State.arbitrate_apart (hend.recedes.apart (State.completeOp_apart h)), fun _ => ?_, fun h => ?_,
        fun ha h => State.arbitrate_sound ?_ (hend.sound (State.completeOp_sound he ha h))⟩
      · rw [State.waitingNeedsWork_iff]
        exact (State.arbitrate_induction (P := fun _ => True) (fun _ _ _ _ _ _ _ => trivial) 4 _ _
          (State.waiting_le _) trivial).2
      · have hp := State.initQuiet_serving h (by simp [he])
        exact State.initQuiet_of_serving (State.arbitrate_serving
          (hend.recedes.serving (State.completeOp_phase.trans hp)))
      · exact ((s.answerOp_kept (s.completeOp r) r).trans (State.serveCollections_kept _)).agreeing
          (State.completeOp_agreeing he ha)

end Sys2Proof.Machine
end

section
/-! SUPPORT. Every row of the command table keeps the four conditions on transfers, waiting items, initialization
and the check. -/

namespace Sys2Proof.Machine

variable {s t u : State} {l : LinkId} {r : EditRun} {body : State → State}

/-! ### A command of a link -/

theorem State.deselect_goesOn : s.GoesOn (s.deselect l) := .of_kept (s.deselect_recedes l) (s.deselect_kept l)

theorem State.GoesOn.then (h : s.GoesOn t) (hk : StoreKept s t) (h' : t.SoundKept u) : s.SoundKept u :=
  h.soundKept.trans h' hk.agreeing

/-- A command is taken: during initialization it is only answered, and in SERVING its body runs. -/
theorem State.SoundKept.taken (h : ∀ u : State, u.phase = .serving → u.SoundKept (body u)) :
    s.SoundKept (s.taken l body) := by
  cases hp : s.phase with
  | initializing =>
    rw [State.taken_initializing s l hp]
    exact (State.deselect_goesOn.trans (.of_still (State.answer_still _))).soundKept
  | serving =>
    rw [State.taken_serving s l hp]
    exact State.deselect_goesOn.then (s.deselect_kept l) (h _ ((s.deselect_phase l).trans hp))

theorem State.SoundKept.taken_goesOn (h : ∀ u : State, u.GoesOn (body u)) : s.SoundKept (s.taken l body) :=
  .taken (fun u _ => (h u).soundKept)

theorem State.SoundKept.taken_still (h : ∀ u : State, (body u).still = u.still) : s.SoundKept (s.taken l body) :=
  .taken_goesOn (fun u => .of_still (h u))

theorem State.onLink_still (f : Link → Link) (hf : ∀ k, (f k).desk = k.desk) : (s.onLink l f).still = s.still :=
  State.still_congr (s.onLink_phase l f) (s.onLink_slots l f) (s.onLink_free l f) (s.onLink_edit l f)
    (s.onLink_check l f) (State.onLink_part Link.desk hf)

theorem State.okEvents_still : (s.okEvents l).still = s.still := State.ok_still _

theorem State.takeSteps_still (r : PassRecord) (n : Nat) (d : Direction) : (s.takeSteps l r n d).still = s.still := by
  unfold State.takeSteps
  split <;> simp

theorem State.takeRecord_goesOn (a : AxisId) (r : AxisRecord) : s.GoesOn (s.takeRecord l a r) := by
  refine .of_kept ?_ (s.takeRecord_kept l a r)
  unfold State.takeRecord
  split
  · exact (s.applyRecord_recedes a r).trans (State.answer_recedes _ l _)
  all_goals exact (s.onAxis_recedes a _).trans (State.answer_recedes _ l _)

theorem State.arm_goesOn (r : PassRecord) : s.GoesOn (s.arm r) := by
  refine ⟨State.Recedes.trans (State.onMove_recedes r.slot (fun m => { m with state := .bound })) (.of_still ?_),
    s.arm_movesKept r, s.arm_op r⟩
  exact (State.withPass_still _ _).trans (forAxes_onAxis_still _ _ _)

theorem State.disarm_goesOn (r : PassRecord) : s.GoesOn (s.disarm r) := by
  have hclock : s.Recedes (s.withClock s.clock.disarmed) := .of_still rfl
  have haxes : ∀ x : State, x.Recedes (x.releaseAxes r) := fun x =>
    State.Recedes.trans (.of_still (forAxes_onAxis_still _ _ _)) (State.applyStagedAll_recedes _ _)
  refine ⟨?_, s.disarm_movesKept r, s.disarm_op r⟩
  exact (hclock.trans State.releaseMove_recedes).trans ((haxes _).trans (.of_still (State.withPass_still _ _)))

theorem State.takeReset_soundKept : s.SoundKept (s.takeReset l) := by
  have h : s.GoesOn (s.onLink l (fun k => { k with resetDue := true })) :=
    .of_still (State.onLink_still _ (fun _ => by rfl))
  have hwait : ∀ x : State, x.GoesOn { x with resetWaiting := true } := fun _ => .of_still rfl
  unfold State.takeReset
  dsimp only
  split
  · exact h.then (s.onLink_kept l _) State.softReset_soundKept
  · exact (h.trans (hwait _)).soundKept

theorem State.softResetMoment_soundKept : s.SoundKept s.softResetMoment := by
  unfold State.softResetMoment
  split
  · exact .refl s
  · split
    · exact State.softReset_soundKept
    · next r he => exact State.completeOp_softReset_soundKept he

theorem State.finishIf_soundKept (f : EditRun → Bool) : s.SoundKept (s.finishIf f) := by
  unfold State.finishIf
  split
  · split
    · exact State.finishEdit_soundKept
    · exact .refl s
  · exact .refl s

/-! ### Data blocks, end markers and collect requests -/

theorem State.acknowledge_goesOn (due : Bool) (x : Answer) : s.GoesOn (s.acknowledge l due x) :=
  .of_kept (s.acknowledge_recedes l due x) (s.acknowledge_kept l due x)

theorem State.blockReceived_soundKept (b : DataBlock) : s.SoundKept (s.blockReceived l b) := by
  unfold State.blockReceived
  split
  · exact (State.GoesOn.of_still (State.answer_still _)).soundKept
  · next hp =>
    split
    · exact (State.acknowledge_goesOn true _).soundKept
    · split
      · next he => exact (State.takeBlock_takes he b true).soundKept he hp
      · next r he => exact .queues (by simp [he]) hp _ (fun _ => by rfl)

theorem State.endMarkerArrives_soundKept (hp : s.phase = .serving) : s.SoundKept (s.endMarkerArrives l) := by
  unfold State.endMarkerArrives
  split
  · next he => exact (State.takeEndMarker_takes he).soundKept he hp
  · next r he => exact .queues (by simp [he]) hp _ (fun _ => by rfl)

theorem State.endMarkerSelected_soundKept : s.SoundKept (s.endMarkerSelected l) := by
  unfold State.endMarkerSelected
  split
  · exact (State.deselect_goesOn.trans (.of_still (State.answer_still _))).soundKept
  · next hp =>
    exact State.deselect_goesOn.then (s.deselect_kept l)
      (State.endMarkerArrives_soundKept ((s.deselect_phase l).trans hp))

theorem State.blockArrives_soundKept (bs : List Byte) : s.SoundKept (s.blockArrives l bs) := by
  unfold State.blockArrives
  dsimp only
  split
  · exact (State.deselect_goesOn.trans (.of_still (State.onLink_still _ (fun _ => by rfl)))).soundKept
  · exact (State.deselect_goesOn.trans (State.acknowledge_goesOn true _)).soundKept
  · exact State.deselect_goesOn.then (s.deselect_kept l) (State.blockReceived_soundKept _)

theorem State.frameRejected_goesOn (bs : List Byte) : s.GoesOn (s.frameRejected l bs) :=
  .of_kept (s.frameRejected_recedes l bs) (s.frameRejected_kept l bs)

theorem State.collectSelected_goesOn : s.GoesOn (s.collectSelected l) :=
  .of_kept (s.collectSelected_recedes l) (s.collectSelected_kept l)

theorem State.selection_soundKept (bs : List Byte) : s.SoundKept (s.selection l bs) := by
  unfold State.selection
  split
  · exact State.deselect_goesOn.soundKept
  · split
    · exact (State.frameRejected_goesOn _).soundKept
    · exact State.blockArrives_soundKept _
    · exact State.endMarkerSelected_soundKept
    · exact State.collectSelected_goesOn.soundKept
    · exact State.deselect_goesOn.soundKept

/-! ### The servo tick -/

theorem State.tickEdit_soundKept : s.SoundKept s.tickEdit := by
  unfold State.tickEdit
  split
  · exact .refl s
  · next r he =>
    split
    · exact State.finishEdit_soundKept
    · exact State.GoesOn.soundKept ⟨.of_desk rfl (fun _ => rfl) (.inr rfl), .of_slots rfl rfl, by simp [he]⟩

theorem State.tickEdit_agreeing (h : s.agreeing) : s.tickEdit.agreeing := by
  unfold State.tickEdit
  split
  · exact h
  · next r he =>
    split
    · exact State.agreeing_invariant.finishEdit s h
    · have hk : StoreKept s { s with edit := some { r with elapsed := r.elapsed + 1 } } :=
        .of_same rfl rfl (by simp [he]) rfl rfl id
      exact hk.agreeing h

theorem State.beforeEdit_goesOn : s.GoesOn ((s.nextTick.tickLink .a).tickLink .b).tickInit := by
  have h : s.Recedes s.nextTick := .of_still rfl
  exact .of_kept (((h.trans (State.tickLink_recedes _ .a)).trans (State.tickLink_recedes _ .b)).trans
    (State.tickInit_recedes _)) s.beforeEdit_kept

theorem State.tickLoss_kept (s : State) : StoreKept s s.tickLoss := by
  unfold State.tickLoss
  split
  · split
    · exact s.followerExpires_kept
    · exact .refl s
  · exact .refl s

theorem State.afterCheck_goesOn : s.GoesOn (s.compareSupply.tickLoss.tickPass.tickPark.tickHomes.tickOutput) := by
  refine .of_kept ?_ ?_
  · refine .trans ?_ (State.tickOutput_recedes _)
    refine .trans ?_ (State.tickHomes_recedes _)
    refine .trans ?_ (State.tickPark_recedes _)
    refine s.compareSupply_recedes.trans (.of_still ?_)
    rw [State.tickPass_still, State.tickLoss_still]
  · refine .trans ?_ (State.tickOutput_kept _)
    refine .trans ?_ (forAxes_kept _ _ (fun a t => t.tickHome_kept a) _)
    refine .trans ?_ (State.tickPark_kept _)
    refine .trans ?_ (State.tickPass_kept _)
    exact s.compareSupply_kept.trans (State.tickLoss_kept _)

theorem State.servoTick_soundKept : s.SoundKept s.servoTick := by
  have hbefore := State.beforeEdit_goesOn (s := s)
  have hk := s.beforeEdit_kept
  unfold State.servoTick State.beforeOutput
  generalize ((s.nextTick.tickLink .a).tickLink .b).tickInit = u at hbefore hk
  refine hbefore.then hk ?_
  exact (State.tickEdit_soundKept.trans State.tickCheck_soundKept State.tickEdit_agreeing).goesOn
    State.afterCheck_goesOn

/-! ### The rows that test before they act -/

section
variable (s : State) (l : LinkId) (a : AxisId)

theorem execEventsClear_soundKept (kinds : WireEvents) :
    ∃ t, execEventsClear l kinds s = .next t ∧ s.SoundKept t := by
  refine ⟨_, rfl, .taken_still (fun u => ?_)⟩
  split
  · simp
  · exact State.okEvents_still.trans (State.onLink_still _ (fun _ => by rfl))

theorem execCrcMode_soundKept (mode : Nat) : ∃ t, execCrcMode l mode s = .next t ∧ s.SoundKept t := by
  refine ⟨_, rfl, .taken_still (fun u => ?_)⟩
  split
  · simp
  · exact (State.ok_still _).trans (State.onLink_still _ (fun _ => by rfl))

theorem execMoveInfo_soundKept (slot : Nat) : ∃ t, execMoveInfo l slot s = .next t ∧ s.SoundKept t := by
  refine ⟨_, rfl, .taken_still (fun u => ?_)⟩
  repeat' split
  all_goals simp

/-- A check begins on a move that is no target of the edit unit (R50). -/
theorem execMoveCheck_soundKept (slot : Nat) (e : Option Nat) :
    ∃ t, execMoveCheck l slot e s = .next t ∧ s.SoundKept t := by
  have hrefused : ∀ (u : State) w res b, u.SoundKept (u.refuseWith l w res b) := fun u w res b =>
    (State.GoesOn.of_still (State.refuseWith_still w res b)).soundKept
  refine ⟨_, rfl, .taken (fun u hp => ?_)⟩
  split
  · exact hrefused _ _ _ _
  split
  · exact hrefused _ _ _ _
  next m _ =>
  split
  · exact hrefused _ _ _ _
  next htarget =>
  split
  · exact hrefused _ _ _ _
  split
  · exact hrefused _ _ _ _
  split
  · exact hrefused _ _ _ _
  exact (State.beginCheck_soundKept hp m (by simpa using htarget)).goesOn (.of_still (State.ok_still _))

theorem execAxisSet_soundKept (axis : Nat) (rec : RecordArgs) :
    ∃ t, execAxisSet l axis rec s = .next t ∧ s.SoundKept t := by
  refine ⟨_, rfl, .taken_goesOn (fun u => ?_)⟩
  split
  · exact State.takeRecord_goesOn _ _
  · exact .of_still (State.refuse_still _)

theorem execAxisGet_soundKept (axis : Nat) : ∃ t, execAxisGet l axis s = .next t ∧ s.SoundKept t := by
  refine ⟨_, rfl, .taken_still (fun u => ?_)⟩
  split <;> simp

theorem execAxisEnable_soundKept (axis : Nat) : ∃ t, execAxisEnable l axis s = .next t ∧ s.SoundKept t := by
  refine ⟨_, rfl, .taken_still (fun u => ?_)⟩
  repeat' split
  all_goals simp

theorem execAxisDisable_soundKept (axis : Nat) : ∃ t, execAxisDisable l axis s = .next t ∧ s.SoundKept t := by
  refine ⟨_, rfl, .taken_still (fun u => ?_)⟩
  repeat' split
  all_goals simp

theorem execAxisHome_soundKept (axis : Nat) : ∃ t, execAxisHome l axis s = .next t ∧ s.SoundKept t := by
  refine ⟨_, rfl, .taken_still (fun u => ?_)⟩
  repeat' split
  all_goals simp

theorem execAxisPark_soundKept (targets : List (Nat × Int)) :
    ∃ t, execAxisPark l targets s = .next t ∧ s.SoundKept t := by
  refine ⟨_, rfl, .taken_still (fun u => ?_)⟩
  repeat' split
  all_goals simp

theorem execAxisStop_soundKept (axis : Nat) : ∃ t, execAxisStop l axis s = .next t ∧ s.SoundKept t := by
  have hstop : ∀ u : State, u.GoesOn (u.stopPark.ok l .none) := fun u =>
    (State.GoesOn.of_kept u.stopPark_recedes u.stopPark_kept).trans (.of_still (State.ok_still _))
  refine ⟨_, rfl, .taken_goesOn (fun u => ?_)⟩
  split
  · exact .of_still (State.refuse_still _)
  split
  · exact .of_still (State.refuse_still _)
  · exact .of_still (State.ok_still _)
  · split
    · exact .of_still (State.ok_still _)
    · exact .of_still ((State.ok_still _).trans (State.onAxis_still _ _ _))
  · exact hstop u

theorem execPassArm_soundKept (args : PassArgs) : ∃ t, execPassArm l args s = .next t ∧ s.SoundKept t := by
  have hrefused : ∀ (u : State) w, u.GoesOn (u.refuse l w) := fun u w => .of_still (State.refuse_still w)
  refine ⟨_, rfl, .taken_goesOn (fun u => ?_)⟩
  split
  · exact hrefused _ _
  split
  · exact hrefused _ _
  split
  · exact hrefused _ _
  split
  · exact hrefused _ _
  split
  · split
    · exact hrefused _ _
    · exact (State.arm_goesOn _).trans (.of_still (State.ok_still _))
  · exact hrefused _ _

theorem execPassDisarm_soundKept : ∃ t, execPassDisarm l s = .next t ∧ s.SoundKept t := by
  refine ⟨_, rfl, .taken_goesOn (fun u => ?_)⟩
  split
  · exact .of_still (State.refuse_still _)
  split
  · exact .of_still (State.refuse_still _)
  split <;> exact (State.disarm_goesOn _).trans (.of_still (State.ok_still _))

theorem execPassGoStart_soundKept : ∃ t, execPassGoStart l s = .next t ∧ s.SoundKept t := by
  refine ⟨_, rfl, .taken_still (fun u => ?_)⟩
  repeat' split
  all_goals simp

theorem execPassRun_soundKept : ∃ t, execPassRun l s = .next t ∧ s.SoundKept t := by
  refine ⟨_, rfl, .taken_still (fun u => ?_)⟩
  repeat' split
  all_goals simp

theorem execPassHold_soundKept : ∃ t, execPassHold l s = .next t ∧ s.SoundKept t := by
  refine ⟨_, rfl, .taken_still (fun u => ?_)⟩
  repeat' split
  all_goals simp

theorem execPassResume_soundKept : ∃ t, execPassResume l s = .next t ∧ s.SoundKept t := by
  refine ⟨_, rfl, .taken_still (fun u => ?_)⟩
  repeat' split
  all_goals simp

theorem execPassAbort_soundKept : ∃ t, execPassAbort l s = .next t ∧ s.SoundKept t := by
  refine ⟨_, rfl, .taken_still (fun u => ?_)⟩
  repeat' split
  all_goals simp

theorem execPassStep_soundKept (count direction : Nat) :
    ∃ t, execPassStep l count direction s = .next t ∧ s.SoundKept t := by
  refine ⟨_, rfl, .taken_still (fun u => ?_)⟩
  repeat' split
  all_goals simp [State.takeSteps_still]

theorem execPassExpose_soundKept : ∃ t, execPassExpose l s = .next t ∧ s.SoundKept t := by
  refine ⟨_, rfl, .taken_still (fun u => ?_)⟩
  repeat' split
  all_goals simp

theorem execSupplySet_soundKept (level action : Nat) :
    ∃ t, execSupplySet l level action s = .next t ∧ s.SoundKept t := by
  refine ⟨_, rfl, .taken_goesOn (fun u => ?_)⟩
  split
  · exact .of_still (State.refuse_still _)
  split
  · exact .of_still (State.refuse_still _)
  · exact (State.GoesOn.of_kept (u.setSupply_recedes _ _) (u.setSupply_kept _ _)).trans (.of_still (State.ok_still _))

/-! ### The events -/

/-- An event that is due does its part of the tick, and otherwise nothing. -/
theorem State.SoundKept.ite {t : State} (b : Prop) [Decidable b] (h : s.GoesOn t) :
    s.SoundKept (if b then t else s) := by
  split
  · exact h.soundKept
  · exact .refl s

theorem State.SoundKept.ite_else {t : State} (b : Prop) [Decidable b] (h : s.GoesOn t) :
    s.SoundKept (if b then s else t) := by
  split
  · exact .refl s
  · exact h.soundKept

theorem State.SoundKept.of_still {t : State} (h : t.still = s.still) : s.SoundKept t :=
  (State.GoesOn.of_still h).soundKept

theorem execDriveSettleEnd_soundKept : ∃ t, execDriveSettleEnd a s = .next t ∧ s.SoundKept t := by
  refine ⟨_, rfl, .of_still s ?_⟩
  split
  · split <;> rfl
  all_goals rfl

theorem execRollTriggerEdge_soundKept : ∃ t, execRollTriggerEdge s = .next t ∧ s.SoundKept t := by
  refine ⟨_, rfl, .of_still s ?_⟩
  split
  · rfl
  · split <;> simp

theorem execStepAdvanceEdge_soundKept : ∃ t, execStepAdvanceEdge s = .next t ∧ s.SoundKept t := by
  refine ⟨_, rfl, .of_still s ?_⟩
  split
  · rfl
  split
  · rfl
  · split <;> simp

theorem execExposureDoneEdge_soundKept : ∃ t, execExposureDoneEdge s = .next t ∧ s.SoundKept t := by
  refine ⟨_, rfl, .of_still s ?_⟩
  split
  · rfl
  · split <;> simp

theorem execExposureTimeEnd_soundKept : ∃ t, execExposureTimeEnd s = .next t ∧ s.SoundKept t := by
  refine ⟨_, rfl, .of_still s ?_⟩
  split
  · rfl
  split
  · split <;> simp
  · rfl

theorem execExposureTimeout_soundKept : ∃ t, execExposureTimeout s = .next t ∧ s.SoundKept t := by
  refine ⟨_, rfl, .of_still s ?_⟩
  split
  · rfl
  split
  · split <;> simp
  · rfl

theorem State.supplyRead_soundKept (n : Nat) : s.SoundKept ({ s with supplyTenths := n } : State).compareSupply := by
  have h : s.GoesOn { s with supplyTenths := n } := .of_still rfl
  exact (h.trans (.of_kept (State.compareSupply_recedes _) (State.compareSupply_kept _))).soundKept

theorem State.hardReset_desk (k : LinkId) : (s.hardReset.link k).desk = (none, .absent, none, none) := by
  unfold State.hardReset
  split
  · rw [State.raise_link, Link.raise_desk]
    cases k <;> rfl
  · cases k <;> rfl

/-- A hard reset leaves the conditions in force, whatever held before it (R20). -/
theorem State.hardReset_soundKept : s.SoundKept s.hardReset := by
  obtain ⟨-, hfree, hedit, hcheck, -⟩ := s.hardReset_store
  have hnamed : ∀ k, (s.hardReset.link k).named = none := fun k => (congrArg Prod.fst (s.hardReset_desk k) :)
  have hmarks : ∀ k, (s.hardReset.link k).marks = .absent := fun k =>
    (congrArg (fun d => d.2.1) (s.hardReset_desk k) :)
  have hqueued : ∀ k, (s.hardReset.link k).queued = (none, none) := fun k =>
    (congrArg (fun d => d.2.2) (s.hardReset_desk k) :)
  refine ⟨fun _ => ?_, fun _ => ?_, fun _ => ?_, fun _ _ => ?_⟩
  · rw [State.transfersApart_iff]
    intro k p hp
    rw [hnamed] at hp
    cases hp
  · rw [State.waitingNeedsWork_iff]
    exact fun _ k => Link.waits_eq_false.2 (Prod.mk.inj (hqueued k))
  · rw [State.initQuiet_iff]
    exact fun _ => ⟨⟨s.hardReset_move, hfree, hedit⟩, fun k => ⟨hnamed k, hmarks k⟩⟩
  · rw [State.checkSound_iff, hcheck]
    intro c hc
    cases hc

end

/-- Every command keeps the four conditions. -/
theorem exec_soundKept (i : Instr) (s : State) : ∃ t, exec i s = .next t ∧ s.SoundKept t := by
  cases i with
  | hardReset => exact ⟨_, rfl, s.hardReset_soundKept⟩
  | initializationEnd =>
    exact ⟨_, rfl, (State.GoesOn.of_kept s.initializationEnds_recedes s.initializationEnds_kept).soundKept⟩
  | softReset => exact ⟨_, rfl, State.softResetMoment_soundKept⟩
  | status l => exact ⟨_, rfl, (State.deselect_goesOn.trans (.of_still (State.ok_still _))).soundKept⟩
  | eventsRead l => exact ⟨_, rfl, (State.deselect_goesOn.trans (.of_still (State.ok_still _))).soundKept⟩
  | eventsMask l mask =>
    exact ⟨_, rfl, .taken_still (fun u => State.okEvents_still.trans (State.onLink_still _ (fun _ => by rfl)))⟩
  | eventsClear l kinds => exact execEventsClear_soundKept s l kinds
  | crcMode l mode => exact execCrcMode_soundKept s l mode
  | reset l => exact ⟨_, rfl, .taken (fun _ _ => State.takeReset_soundKept)⟩
  | faultStatus l => exact ⟨_, rfl, .taken_still (fun _ => State.ok_still _)⟩
  | moveInfo l slot => exact execMoveInfo_soundKept s l slot
  | keysGet l slot track => exact ⟨_, rfl, .taken (fun _ hp => State.takeKeysGet_soundKept hp slot track)⟩
  | moveNew l slot first last label exp => exact ⟨_, rfl, .taken (fun _ hp => State.storeEdit_soundKept hp _)⟩
  | moveSpan l slot first last exp => exact ⟨_, rfl, .taken (fun _ hp => State.storeEdit_soundKept hp _)⟩
  | moveLabel l slot label exp => exact ⟨_, rfl, .taken (fun _ hp => State.storeEdit_soundKept hp _)⟩
  | keysPut l slot track exp => exact ⟨_, rfl, .taken (fun _ hp => State.storeEdit_soundKept hp _)⟩
  | keyMarkFirst l slot track frame exp =>
    exact ⟨_, rfl, .taken (fun _ hp => State.storeEdit_soundKept hp _)⟩
  | keyMarkLast l frame exp => exact ⟨_, rfl, .taken (fun _ hp => State.storeEdit_soundKept hp _)⟩
  | keyDrop l exp => exact ⟨_, rfl, .taken (fun _ hp => State.storeEdit_soundKept hp _)⟩
  | trackClear l slot track exp => exact ⟨_, rfl, .taken (fun _ hp => State.storeEdit_soundKept hp _)⟩
  | moveCopy l src dst exp => exact ⟨_, rfl, .taken (fun _ hp => State.storeEdit_soundKept hp _)⟩
  | moveRetire l slot exp => exact ⟨_, rfl, .taken (fun _ hp => State.storeEdit_soundKept hp _)⟩
  | moveProtect l slot exp => exact ⟨_, rfl, .taken (fun _ hp => State.storeEdit_soundKept hp _)⟩
  | moveUnprotect l slot exp => exact ⟨_, rfl, .taken (fun _ hp => State.storeEdit_soundKept hp _)⟩
  | moveCheck l slot exp => exact execMoveCheck_soundKept s l slot exp
  | axisSet l axis rec => exact execAxisSet_soundKept s l axis rec
  | axisGet l axis => exact execAxisGet_soundKept s l axis
  | axisEnable l axis => exact execAxisEnable_soundKept s l axis
  | axisDisable l axis => exact execAxisDisable_soundKept s l axis
  | axisHome l axis => exact execAxisHome_soundKept s l axis
  | axisPark l targets => exact execAxisPark_soundKept s l targets
  | axisStop l axis => exact execAxisStop_soundKept s l axis
  | passArm l args => exact execPassArm_soundKept s l args
  | passGoStart l => exact execPassGoStart_soundKept s l
  | passRun l => exact execPassRun_soundKept s l
  | passHold l => exact execPassHold_soundKept s l
  | passResume l => exact execPassResume_soundKept s l
  | passAbort l => exact execPassAbort_soundKept s l
  | passDisarm l => exact execPassDisarm_soundKept s l
  | passStep l count direction => exact execPassStep_soundKept s l count direction
  | passExpose l => exact execPassExpose_soundKept s l
  | passStatus l => exact ⟨_, rfl, .taken_still (fun _ => State.ok_still _)⟩
  | clockStatus l => exact ⟨_, rfl, .taken_still (fun _ => State.ok_still _)⟩
  | supplySet l level action => exact execSupplySet_soundKept s l level action
  | commandFrameRejected l bytes => exact ⟨_, rfl, State.selection_soundKept bytes⟩
  | dataBlock l bytes => exact ⟨_, rfl, State.selection_soundKept bytes⟩
  | endMarker l => exact ⟨_, rfl, State.endMarkerSelected_soundKept⟩
  | collectRequest l => exact ⟨_, rfl, State.collectSelected_goesOn.soundKept⟩
  | linkDeselect l => exact ⟨_, rfl, State.deselect_goesOn.soundKept⟩
  | dataBlockApplied => exact ⟨_, rfl, State.finishIf_soundKept _⟩
  | keyDropEnd => exact ⟨_, rfl, State.finishIf_soundKept _⟩
  | trackClearEnd => exact ⟨_, rfl, State.finishIf_soundKept _⟩
  | moveCopyEnd => exact ⟨_, rfl, State.finishIf_soundKept _⟩
  | moveRetireEnd => exact ⟨_, rfl, State.finishIf_soundKept _⟩
  | checkEnd => exact ⟨_, rfl, (State.GoesOn.of_kept State.endCheck_recedes s.endCheck_kept).soundKept⟩
  | servoTick => exact ⟨_, rfl, State.servoTick_soundKept⟩
  | driveSettleEnd axis => exact execDriveSettleEnd_soundKept s axis
  | putTransferTimeout l =>
    exact ⟨_, rfl, .ite s _ (.of_kept (s.transferTimesOut_recedes l) (s.transferTimesOut_kept l))⟩
  | getTransferTimeout l =>
    exact ⟨_, rfl, .ite s _ (.of_kept (s.transferTimesOut_recedes l) (s.transferTimesOut_kept l))⟩
  | parkEaseEnd => exact ⟨_, rfl, .ite s _ (.of_kept s.tickPark_recedes s.tickPark_kept)⟩
  | parkStopAtRest => exact ⟨_, rfl, .ite s _ (.of_kept s.tickPark_recedes s.tickPark_kept)⟩
  | approachEaseEnd => exact ⟨_, rfl, .ite s _ (.of_still s.tickApproach_still)⟩
  | approachStopAtRest => exact ⟨_, rfl, .ite s _ (.of_still s.tickApproach_still)⟩
  | homeBrakingAtRest axis => exact ⟨_, rfl, .ite s _ (.of_kept (s.tickHome_recedes axis) (s.tickHome_kept axis))⟩
  | homeFinishingAtRest axis => exact ⟨_, rfl, .ite s _ (.of_kept (s.tickHome_recedes axis) (s.tickHome_kept axis))⟩
  | homeStopReached axis =>
    exact ⟨_, rfl, .ite s _ (.of_kept (s.stopReached_recedes axis) (s.stopReached_kept axis))⟩
  | homeTravelExceeded axis => exact ⟨_, rfl, .ite s _ (.of_kept (s.tickHome_recedes axis) (s.tickHome_kept axis))⟩
  | homeAbandonAtRest axis => exact ⟨_, rfl, .ite s _ (.of_kept (s.tickHome_recedes axis) (s.tickHome_kept axis))⟩
  | holdRampEnd => exact ⟨_, rfl, .ite s _ (.of_still s.tickPass_still)⟩
  | resumeRampEnd => exact ⟨_, rfl, .ite s _ (.of_still s.tickPass_still)⟩
  | stopRampEnd => exact ⟨_, rfl, .ite s _ (.of_still s.tickPass_still)⟩
  | syncLossTimeout => exact ⟨_, rfl, .ite s _ (.of_still s.loseSync_still)⟩
  | lockTimeout => exact ⟨_, rfl, .ite s _ (.of_still (s.withClock_still _))⟩
  | stepEaseEnd => exact ⟨_, rfl, .ite s _ (.of_still s.tickPass_still)⟩
  | stepSettleEnd => exact ⟨_, rfl, .ite s _ (.of_still s.tickPass_still)⟩
  | exposureTimeEnd => exact execExposureTimeEnd_soundKept s
  | exposureTimeout => exact execExposureTimeout_soundKept s
  | cameraFrameEdge offset => exact ⟨_, rfl, .of_still s (s.cameraEdge_still _)⟩
  | rollTriggerEdge => exact execRollTriggerEdge_soundKept s
  | stepAdvanceEdge => exact execStepAdvanceEdge_soundKept s
  | exposureDoneEdge => exact execExposureDoneEdge_soundKept s
  | estopAssert => exact ⟨_, rfl, .ite_else s _ (.of_kept s.estopAsserted_recedes s.estopAsserted_kept)⟩
  | estopRelease => exact ⟨_, rfl, .ite s _ (.of_still (State.raise_still _ _))⟩
  | supplyMonitorLow tenths => exact ⟨_, rfl, s.supplyRead_soundKept tenths⟩
  | supplyMonitorOk tenths => exact ⟨_, rfl, s.supplyRead_soundKept tenths⟩
  | homeSwitchAssert axis => exact ⟨_, rfl, .ite_else s _ (.of_still (s.onAxis_still axis _))⟩
  | homeSwitchRelease axis => exact ⟨_, rfl, .ite s _ (.of_still (s.onAxis_still axis _))⟩
  | encoderTransition axis positive => exact ⟨_, rfl, .of_still s (s.onAxis_still axis _)⟩
  | getDataBlockSent l => exact ⟨_, rfl, (State.GoesOn.of_kept (s.blockSent_recedes l) (s.blockSent_kept l)).soundKept⟩

theorem step_soundKept (h : step s = .next t) : s.SoundKept t := by
  unfold Machine.step at h
  split at h
  · cases h
    exact .refl s
  · next i rest _ =>
    obtain ⟨u, hu, hk⟩ := exec_soundKept i (s.withPending rest)
    rw [hu] at h
    cases h
    have hpending : s.GoesOn (s.withPending rest) := .of_still rfl
    exact hpending.then (.of_pass rfl rfl rfl rfl rfl) hk

/-- Settles O50. Each condition is kept by every row, from any state that meets it. -/
theorem transfersAndWaitingItemsStaySound : Obligations.TransfersAndWaitingItemsStaySound :=
  ⟨fun _ _ hs h => (step_soundKept h).apart hs,
    ⟨fun _ _ hs h => (step_soundKept h).work hs, fun _ _ hs h => (step_soundKept h).quiet hs⟩,
    fun _ _ hs hd hr h => (step_soundKept h).check (State.agreeing_iff.2 ⟨hd, hr⟩) hs⟩

end Sys2Proof.Machine
end

section
/-! SUPPORT. The searches of a check (00_scope.md): the integer square root and the quotient rounded up; and the
ceiling of an axis and of a move as the largest rate within the limits (R58, R59). -/

namespace Sys2Proof.Machine

/-! ### The searches -/

/-- A root whose bits above `b` are found stays below the next one of them. -/
theorem isqrtBits_eq_sqrt {n b r : Nat} (hlow : r * r ≤ n) (hhigh : n < (r + 2 ^ b) * (r + 2 ^ b)) :
    isqrtBits n b r = Nat.sqrt n := by
  induction b generalizing r with
  | zero => exact Nat.eq_sqrt.2 ⟨hlow, hhigh⟩
  | succ b ih =>
    have htwice : r + 2 ^ b + 2 ^ b = r + 2 ^ (b + 1) := by rw [pow_succ]; omega
    unfold isqrtBits
    split
    · next h => exact ih h (htwice ▸ hhigh)
    · next h => exact ih hlow (not_le.1 h)

theorem isqrt_eq_sqrt (n : Nat) : isqrt n = Nat.sqrt n := by
  refine isqrtBits_eq_sqrt (Nat.zero_le n) ?_
  calc n < 2 ^ (n.log2 + 1) := Nat.lt_log2_self
    _ ≤ 2 ^ ((n.log2 / 2 + 1) + (n.log2 / 2 + 1)) := Nat.pow_le_pow_right (by omega) (by omega)
    _ = (0 + 2 ^ (n.log2 / 2 + 1)) * (0 + 2 ^ (n.log2 / 2 + 1)) := by rw [pow_add, Nat.zero_add]

theorem ceilDiv_le_iff {n d x : Nat} (hd : 0 < d) : ceilDiv n d ≤ x ↔ n ≤ x * d := by
  rw [ceilDiv, ← Nat.ceilDiv_eq_add_pred_div, ceilDiv_le_iff_le_mul hd, Nat.mul_comm]

/-! ### The terms of an axis ceiling (R58) -/

/-- A term is the largest rate that keeps `P`, with the cause and the frame it is put down to; there is none when
every rate keeps it. -/
structure IsLargest (t : Option Ceiling) (P : Nat → Prop) (cause : LimitingCause) (frame : Nat) : Prop where
  keeps : ∀ q, P q ↔ ∀ c, t = some c → q ≤ c.rate
  named : ∀ c, t = some c → c.cause = cause ∧ c.frame = frame

section
variable {t : Option Ceiling} {P : Nat → Prop} {cause : LimitingCause} {frame : Nat}

theorem IsLargest.breaks_iff (h : IsLargest t P cause frame) {q : Nat} : ¬P q ↔ ∃ c, t = some c ∧ c.rate < q := by
  simp [h.keeps q]

theorem IsLargest.keeps_of_succ (h : IsLargest t P cause frame) {q : Nat} (hq : P (q + 1)) : P q :=
  (h.keeps q).2 (fun c hc => Nat.le_of_succ_le ((h.keeps _).1 hq c hc))

/-- The rate of a term is the one that keeps `P` while the next one does not. -/
theorem IsLargest.eq_some_iff (h : IsLargest t P cause frame) {c : Ceiling} :
    t = some c ↔ P c.rate ∧ ¬P (c.rate + 1) ∧ c.cause = cause ∧ c.frame = frame := by
  constructor
  · intro hc
    exact ⟨(h.keeps _).2 (fun d hd => by rw [Option.some.inj (hc.symm.trans hd)]),
      h.breaks_iff.2 ⟨c, hc, Nat.lt_succ_self _⟩, h.named c hc⟩
  · rintro ⟨hkeeps, hbreaks, hcause, hframe⟩
    obtain ⟨d, hd, hlt⟩ := h.breaks_iff.1 hbreaks
    have hle := (h.keeps _).1 hkeeps d hd
    obtain ⟨hcause', hframe'⟩ := h.named d hd
    obtain ⟨rate, cause', frame'⟩ := c
    obtain ⟨rate', cause'', frame''⟩ := d
    have hrate : rate' = rate := by simp only at hlt hle; omega
    simp_all

end

theorem linearTerm_isLargest (p : Peak) (limit : Nat) (cause : LimitingCause) :
    IsLargest (linearTerm p limit cause) (fun q => q * p.value ≤ 1000 * limit) cause p.frame := by
  unfold linearTerm
  split
  · next h => exact ⟨by simp [h], by simp⟩
  · next h => exact ⟨by simp [Nat.le_div_iff_mul_le (Nat.pos_of_ne_zero h)], by simp⟩

theorem accelerationTerm_isLargest (p : Peak) (limit : Nat) :
    IsLargest (accelerationTerm p limit) (fun q => q * q * p.value ≤ 1000000 * limit) .acceleration p.frame := by
  unfold accelerationTerm
  split
  · next h => exact ⟨by simp [h], by simp⟩
  · next h =>
    exact ⟨by simp [isqrt_eq_sqrt, Nat.le_sqrt, Nat.le_div_iff_mul_le (Nat.pos_of_ne_zero h)], by simp⟩

theorem lowerTerm_eq_some_iff {x y : Option Ceiling} {c : Ceiling} : lowerTerm x y = some c ↔
    (x = some c ∧ ∀ d, y = some d → c.rate ≤ d.rate) ∨ (y = some c ∧ ∀ d, x = some d → c.rate < d.rate) := by
  unfold lowerTerm
  split
  · next a b =>
    split
    · next h =>
      simp only [Option.some.injEq, forall_eq']
      constructor
      · rintro rfl; exact .inr ⟨rfl, h⟩
      · rintro (⟨rfl, hle⟩ | ⟨rfl, -⟩)
        · omega
        · rfl
    · next h =>
      simp only [Option.some.injEq, forall_eq']
      constructor
      · rintro rfl; exact .inl ⟨rfl, by omega⟩
      · rintro (⟨rfl, -⟩ | ⟨rfl, hlt⟩)
        · rfl
        · omega
  · simp
  · simp

/-- What two terms keep, the smaller one keeps; and where the first gives it, the second keeps its rate, while where
the second gives it, the first keeps one mfps more. -/
theorem lowerTerm_of_keeps {x y : Option Ceiling} {P Q : Nat → Prop}
    (hx : ∀ q, P q ↔ ∀ c, x = some c → q ≤ c.rate) (hy : ∀ q, Q q ↔ ∀ c, y = some c → q ≤ c.rate) :
    (∀ q, P q ∧ Q q ↔ ∀ c, lowerTerm x y = some c → q ≤ c.rate) ∧
    ∀ c, lowerTerm x y = some c ↔ (x = some c ∧ Q c.rate) ∨ (y = some c ∧ P (c.rate + 1)) := by
  refine ⟨fun q => ?_, fun c => by rw [lowerTerm_eq_some_iff, hx, hy]; rfl⟩
  rw [hx, hy]
  unfold lowerTerm
  split
  · split <;> simp only [Option.some.injEq, forall_eq'] <;> omega
  · simp
  · simp

/-! ### The ceiling of an axis (R58) -/

/-- A rate keeps every peak of an axis within the axis's limits. -/
def AxisLimits.Admits (lim : AxisLimits) (p : AxisPeaks) (q : Nat) : Prop :=
  q * p.velocity.value ≤ 1000 * lim.vmax ∧ q * q * p.acceleration.value ≤ 1000000 * lim.amax ∧
    q * p.corner.value ≤ 1000 * lim.jmax

/-- One mfps more breaks a limit, and the cause and the frame are those of the first limit it breaks. -/
def AxisLimits.Blames (lim : AxisLimits) (p : AxisPeaks) (c : Ceiling) : Prop :=
  if 1000 * lim.vmax < (c.rate + 1) * p.velocity.value then c.cause = .velocity ∧ c.frame = p.velocity.frame
  else if 1000000 * lim.amax < (c.rate + 1) * (c.rate + 1) * p.acceleration.value then
    c.cause = .acceleration ∧ c.frame = p.acceleration.frame
  else 1000 * lim.jmax < (c.rate + 1) * p.corner.value ∧ c.cause = .corner ∧ c.frame = p.corner.frame

/-- The axis ceiling is the largest rate within every limit, with the first limit in its way. -/
theorem axisCeiling_spec (lim : AxisLimits) (p : AxisPeaks) :
    (∀ q, lim.Admits p q ↔ ∀ c, axisCeiling lim p = some c → q ≤ c.rate) ∧
    ∀ c, axisCeiling lim p = some c ↔ lim.Admits p c.rate ∧ lim.Blames p c := by
  have hv := linearTerm_isLargest p.velocity lim.vmax .velocity
  have ha := accelerationTerm_isLargest p.acceleration lim.amax
  have hj := linearTerm_isLargest p.corner lim.jmax .corner
  obtain ⟨hkeeps₂, heq₂⟩ := lowerTerm_of_keeps hv.keeps ha.keeps
  obtain ⟨hkeeps₃, heq₃⟩ := lowerTerm_of_keeps hkeeps₂ hj.keeps
  refine ⟨fun q => and_assoc.symm.trans (hkeeps₃ q), fun c => (heq₃ c).trans ?_⟩
  have hv1 := hv.keeps_of_succ (q := c.rate)
  have ha1 := ha.keeps_of_succ (q := c.rate)
  rw [heq₂, hv.eq_some_iff, ha.eq_some_iff, hj.eq_some_iff]
  unfold AxisLimits.Admits AxisLimits.Blames
  split
  · next hbreaks => simp [not_le.2 hbreaks, and_assoc, and_comm, and_left_comm]
  · next hvelocity =>
    have hvelocity := not_lt.1 hvelocity
    have hvelocity' := hv1 hvelocity
    split
    · next hbreaks => simp [hvelocity, hvelocity', not_le.2 hbreaks, and_assoc, and_comm, and_left_comm]
    · next hacceleration =>
      have hacceleration := not_lt.1 hacceleration
      simp [hvelocity, hvelocity', hacceleration, ha1 hacceleration]


/-! ### The ceiling of a move (R59) -/

theorem allAxes_pairwise : allAxes.Pairwise (· < ·) := by decide

/-- An axis track is present. -/
theorem Move.mem_presentAxes {m : Move} {a : AxisId} : a ∈ m.presentAxes ↔ m.axisTrack a ≠ [] := by
  simp [Move.presentAxes, Move.hasTrack, allAxes_mem]

/-- The ceiling of an axis track against the limits a check read; none without limits, or where nothing moves. -/
def Move.axisCeiling (m : Move) (limits : List AxisLimits) (a : AxisId) : Option Ceiling :=
  match limits.find? (fun x => decide (x.axis = a)) with
  | some lim => Machine.axisCeiling lim (axisPeaks a (m.axisTrack a))
  | none => none

/-- A rate keeps an axis track within the limits a check read of its axis. -/
def Move.Within (m : Move) (limits : List AxisLimits) (a : AxisId) (q : Nat) : Prop :=
  ∀ lim, limits.find? (fun x => decide (x.axis = a)) = some lim → lim.Admits (axisPeaks a (m.axisTrack a)) q

/-- The move ceiling, before the greatest rate of the part (R59). -/
def Move.ceiling (m : Move) (limits : List AxisLimits) : Option (AxisId × Ceiling) :=
  lowestCeiling (ceilings limits (peaksOf m m.presentAxes))

/-- The least rate of a list, the first that has it. -/
theorem lowestCeiling_spec {xs : List (AxisId × Option Ceiling)} (hxs : xs.Pairwise (fun x y => x.1 < y.1)) :
    (lowestCeiling xs = none → ∀ x ∈ xs, x.2 = none) ∧
    ∀ a c, lowestCeiling xs = some (a, c) → (a, some c) ∈ xs ∧
      ∀ x ∈ xs, ∀ d, x.2 = some d → c.rate ≤ d.rate ∧ (x.1 < a → c.rate < d.rate) := by
  induction xs with
  | nil => simp [lowestCeiling]
  | cons x rest ih =>
    obtain ⟨b, e⟩ := x
    obtain ⟨hb, hrest⟩ := List.pairwise_cons.1 hxs
    obtain ⟨hnone, hsome⟩ := ih hrest
    cases e with
    | none =>
      simp only [lowestCeiling]
      refine ⟨fun h => by simpa using hnone h, fun a c h => ?_⟩
      obtain ⟨hmem, hle⟩ := hsome a c h
      exact ⟨List.mem_cons_of_mem _ hmem, by simpa using fun a b => hle (a, b)⟩
    | some e =>
      cases hl : lowestCeiling rest with
      | none =>
        have hnone := hnone hl
        simp only [lowestCeiling, hl]
        refine ⟨by simp, fun a c h => ?_⟩
        cases h
        refine ⟨List.mem_cons_self, List.forall_mem_cons.2 ⟨?_, fun x hx d hd => ?_⟩⟩
        · rintro d ⟨⟩; simp
        · simp [hnone x hx] at hd
      | some y =>
        obtain ⟨a', c'⟩ := y
        obtain ⟨hmem, hle⟩ := hsome a' c' hl
        simp only [lowestCeiling, hl]
        split
        · next hlt =>
          refine ⟨by simp, fun a c h => ?_⟩
          cases h
          refine ⟨List.mem_cons_of_mem _ hmem, List.forall_mem_cons.2 ⟨?_, hle⟩⟩
          rintro d ⟨⟩
          exact ⟨hlt.le, fun _ => hlt⟩
        · next hge =>
          refine ⟨by simp, fun a c h => ?_⟩
          cases h
          refine ⟨List.mem_cons_self, List.forall_mem_cons.2 ⟨?_, fun x hx d hd => ?_⟩⟩
          · rintro d ⟨⟩; simp
          · exact ⟨(not_lt.1 hge).trans (hle x hx d hd).1, fun h => absurd h (hb x hx).asymm⟩

section
variable {m : Move} {limits : List AxisLimits} {a : AxisId} {c : Ceiling} {q : Nat}

theorem Move.within_iff : m.Within limits a q ↔ ∀ c, m.axisCeiling limits a = some c → q ≤ c.rate := by
  unfold Move.Within Move.axisCeiling
  cases limits.find? (fun x => decide (x.axis = a)) with
  | none => simp
  | some lim => simpa using (axisCeiling_spec lim _).1 q

theorem Move.axisCeiling_eq_some_iff : m.axisCeiling limits a = some c ↔ m.Within limits a c.rate ∧
    ∃ lim, limits.find? (fun x => decide (x.axis = a)) = some lim ∧
      lim.Blames (axisPeaks a (m.axisTrack a)) c := by
  unfold Move.Within Move.axisCeiling
  cases limits.find? (fun x => decide (x.axis = a)) with
  | none => simp
  | some lim => simpa using (axisCeiling_spec lim _).2 c

theorem Move.ceilings_eq : ceilings limits (peaksOf m m.presentAxes) =
    m.presentAxes.map (fun a => (a, m.axisCeiling limits a)) := by
  simp only [ceilings, peaksOf, List.map_map]
  rfl

theorem Move.ceilings_pairwise :
    (m.presentAxes.map (fun a => (a, m.axisCeiling limits a))).Pairwise (fun x y => x.1 < y.1) :=
  List.pairwise_map.2 (allAxes_pairwise.filter _)

/-- No present axis has a ceiling. -/
theorem Move.axisCeiling_of_ceiling_none (h : m.ceiling limits = none) (ha : m.axisTrack a ≠ []) :
    m.axisCeiling limits a = none := by
  rw [Move.ceiling, Move.ceilings_eq] at h
  simpa using (lowestCeiling_spec Move.ceilings_pairwise).1 h _
    (List.mem_map_of_mem (Move.mem_presentAxes.2 ha))

/-- A rate is the least of the present axes, and of those that have it the axis is the lowest-numbered. -/
def Move.Lowest (m : Move) (limits : List AxisLimits) (a : AxisId) (q : Nat) : Prop :=
  m.axisTrack a ≠ [] ∧
    ∀ b, m.axisTrack b ≠ [] → m.Within limits b q ∧ (b < a → m.Within limits b (q + 1))

theorem Move.ceiling_some (h : m.ceiling limits = some (a, c)) :
    m.Lowest limits a c.rate ∧ m.axisCeiling limits a = some c := by
  rw [Move.ceiling, Move.ceilings_eq] at h
  obtain ⟨hmem, hle⟩ := (lowestCeiling_spec Move.ceilings_pairwise).2 a c h
  obtain ⟨b, hb, hab⟩ := List.mem_map.1 hmem
  obtain ⟨rfl, hc⟩ := Prod.mk.inj hab
  refine ⟨⟨Move.mem_presentAxes.1 hb, fun k hk => ?_⟩, hc⟩
  have hk := hle _ (List.mem_map_of_mem (Move.mem_presentAxes.2 hk))
  exact ⟨Move.within_iff.2 (fun d hd => (hk d hd).1), fun hlt => Move.within_iff.2 (fun d hd => (hk d hd).2 hlt)⟩

/-- The ceiling of the lowest-numbered axis that has the least one is the move's. -/
theorem Move.ceiling_eq_some (hlow : m.Lowest limits a c.rate) (hc : m.axisCeiling limits a = some c) :
    m.ceiling limits = some (a, c) := by
  obtain ⟨hpresent, hlow⟩ := hlow
  cases h : m.ceiling limits with
  | none =>
    rw [Move.axisCeiling_of_ceiling_none h hpresent] at hc
    cases hc
  | some x =>
    obtain ⟨b, d⟩ := x
    obtain ⟨⟨hpresent', hlow'⟩, hd⟩ := Move.ceiling_some h
    have hcd := Move.within_iff.1 (hlow b hpresent').1 d hd
    have hdc := Move.within_iff.1 (hlow' a hpresent).1 c hc
    have hba : ¬b < a := fun hlt => by
      have := Move.within_iff.1 ((hlow b hpresent').2 hlt) d hd
      omega
    have hab : ¬a < b := fun hlt => by
      have := Move.within_iff.1 ((hlow' a hpresent).2 hlt) c hc
      omega
    obtain rfl := le_antisymm (not_lt.1 hab) (not_lt.1 hba)
    rw [hc] at hd
    cases hd
    rfl

/-- The move ceiling is the largest rate that keeps every present axis within its limits. -/
theorem Move.within_all_iff : (∀ a, m.axisTrack a ≠ [] → m.Within limits a q) ↔
    ∀ a c, m.ceiling limits = some (a, c) → q ≤ c.rate := by
  constructor
  · intro h a c hac
    obtain ⟨⟨hpresent, -⟩, hc⟩ := Move.ceiling_some hac
    exact Move.within_iff.1 (h a hpresent) c hc
  · intro h b hb
    rw [Move.within_iff]
    intro d hd
    cases hx : m.ceiling limits with
    | none =>
      rw [Move.axisCeiling_of_ceiling_none hx hb] at hd
      cases hd
    | some x =>
      obtain ⟨a, c⟩ := x
      exact (h a c hx).trans (Move.within_iff.1 ((Move.ceiling_some hx).1.2 b hb).1 d hd)

end

end Sys2Proof.Machine
end

section
/-! SUPPORT. The failure order of a check (R52), what its result is (R59, R62, R63), and the extents and the peaks it
is formed from (R54 to R57, R61). -/

namespace Sys2Proof.Machine

variable {m : Move} {limits : List AxisLimits}

/-! ### The first track that fails (R52) -/

/-- A search of an ordered list finds the element below which there is nothing to find. -/
theorem findSome?_eq_of_lowest {α β : Type} {l : List α} {f : α → Option β} {r : α → α → Prop} {x : α} {y : β}
    (hl : l.Pairwise r) (hx : x ∈ l) (hf : f x = some y) (hlow : ∀ z ∈ l, r z x → f z = none) :
    l.findSome? f = some y := by
  obtain ⟨before, rest, rfl⟩ := List.append_of_mem hx
  refine List.findSome?_eq_some_iff.2 ⟨before, x, rest, rfl, hf, fun z hz => hlow z (List.mem_append_left _ hz) ?_⟩
  exact (List.pairwise_append.1 hl).2.2 z hz x List.mem_cons_self

/-- The place of a track in the order of R52: the axis tracks by number, then the speed track. -/
def TrackId.place : TrackId → Nat
  | .axis a => a.val
  | .speed => 16

theorem allTracks_pairwise : allTracks.Pairwise (fun t u => t.place < u.place) := by decide

theorem firstTrack_eq_none_iff {f : List Nat → Option Nat} :
    firstTrack m f = none ↔ ∀ t n, f (m.frames t) ≠ some n := by
  unfold firstTrack
  rw [List.findSome?_eq_none_iff]
  simp only [mem_allTracks, forall_const, Option.map_eq_none_iff]
  simp only [Option.eq_none_iff_forall_ne_some]

theorem firstTrack_eq_some {f : List Nat → Option Nat} {t : TrackId} {n : Nat} (ht : f (m.frames t) = some n)
    (hlow : ∀ u g, f (m.frames u) = some g → t.place ≤ u.place) : firstTrack m f = some (t, n) := by
  refine findSome?_eq_of_lowest allTracks_pairwise (mem_allTracks t) (by rw [ht]; rfl) (fun u _ hu => ?_)
  rw [Option.map_eq_none_iff, Option.eq_none_iff_forall_ne_some]
  exact fun g hg => absurd (hlow u g hg) (not_le.2 hu)

theorem shortTrackFrame_eq_some_iff {fs : List Nat} {f : Nat} : shortTrackFrame fs = some f ↔ fs = [f] := by
  unfold shortTrackFrame
  split <;> simp_all

theorem spanFrame_eq_some_iff {first last f : Nat} {fs : List Nat} : spanFrame first last fs = some f ↔
    ∃ x y, fs.head? = some x ∧ fs.getLast? = some y ∧ ((x ≠ first ∧ f = x) ∨ (x = first ∧ y ≠ last ∧ f = y)) := by
  unfold spanFrame
  split
  · next x y hx hy =>
    simp only [hx, hy, Option.some.injEq]
    by_cases h1 : x = first
    · by_cases h2 : y = last <;> simp [h1, h2, eq_comm (b := f)]
    · simp [h1, eq_comm (b := f)]
  · next h =>
    simp only [reduceCtorEq, false_iff, not_exists, not_and]
    exact fun x y hx hy => absurd hy (h x y hx)

/-- A present axis was read as unset (R51, R52). -/
def Move.ReadUnset (m : Move) (limits : List AxisLimits) (a : AxisId) : Prop :=
  m.axisTrack a ≠ [] ∧ ∃ x ∈ limits, x.axis = a ∧ x.unset = true

theorem readUnset_any_iff {a : AxisId} :
    limits.any (fun l => decide (l.axis = a) && l.unset) = true ↔ ∃ x ∈ limits, x.axis = a ∧ x.unset = true := by
  simp

theorem unsetAxis_eq_none_iff : unsetAxis m limits = none ↔ ∀ a, ¬m.ReadUnset limits a := by
  unfold unsetAxis Move.ReadUnset
  simp only [List.findSome?_eq_none_iff, ite_eq_right_iff, reduceCtorEq, imp_false, readUnset_any_iff,
    Move.mem_presentAxes, not_and]

theorem unsetAxis_eq_some {a : AxisId} (ha : m.ReadUnset limits a) (hlow : ∀ b, m.ReadUnset limits b → a ≤ b) :
    unsetAxis m limits = some (a, ((m.axisTrack a).head?.map (·.frame)).getD 0) := by
  refine findSome?_eq_of_lowest (allAxes_pairwise.filter _) (Move.mem_presentAxes.2 ha.1)
    (if_pos (readUnset_any_iff.2 ha.2)) (fun b hb hlt => if_neg (fun h => ?_))
  exact absurd (hlow b ⟨Move.mem_presentAxes.1 hb, readUnset_any_iff.1 h⟩) (not_le.2 hlt)

/-- A track that begins at the first frame has its first key there. -/
theorem Move.head_frame_of_spans {a : AxisId} (hpresent : m.axisTrack a ≠ [])
    (hspan : ∀ t n, spanFrame m.first m.last (m.frames t) ≠ some n) :
    ((m.axisTrack a).head?.map (·.frame)).getD 0 = m.first := by
  by_contra hne
  obtain ⟨k, ks, hk⟩ := List.exists_cons_of_ne_nil hpresent
  refine hspan (.axis a) k.frame (spanFrame_eq_some_iff.2 ?_)
  obtain ⟨y, hy⟩ := Option.isSome_iff_exists.1 (List.getLast?_isSome.2 (List.cons_ne_nil k.frame (ks.map (·.frame))))
  rw [hk] at hne
  exact ⟨k.frame, y, by simp [Move.frames, hk], by simpa [Move.frames, hk] using hy, .inl ⟨by simpa using hne, rfl⟩⟩

/-! ### The reasons 1 to 4 (R52) -/

theorem Move.presentAxes_isEmpty_iff : m.presentAxes.isEmpty = true ↔ ∀ a, m.axisTrack a = [] := by
  rw [List.isEmpty_iff, List.eq_nil_iff_forall_not_mem]
  simp [Move.mem_presentAxes]

theorem formFailure_emptyMove (h : ∀ a, m.axisTrack a = []) :
    formFailure m limits = some { reason := .emptyMove, track := none, frame := 0 } := by
  rw [formFailure, if_pos (Move.presentAxes_isEmpty_iff.2 h)]

section
variable (hpresent : ∃ a, m.axisTrack a ≠ [])
include hpresent

theorem formFailure_of_present : formFailure m limits =
    match firstTrack m shortTrackFrame with
    | some (t, f) => some { reason := .shortTrack, track := some t, frame := f }
    | none =>
      match firstTrack m (spanFrame m.first m.last) with
      | some (t, f) => some { reason := .span, track := some t, frame := f }
      | none =>
        (unsetAxis m limits).map
          (fun q => { reason := .axisUnset, track := some (.axis q.1), frame := q.2 }) :=
  if_neg (fun h => hpresent.elim (fun a ha => ha (Move.presentAxes_isEmpty_iff.1 h a)))

theorem formFailure_shortTrack {t : TrackId} {f : Nat} (ht : shortTrackFrame (m.frames t) = some f)
    (hlow : ∀ u g, shortTrackFrame (m.frames u) = some g → t.place ≤ u.place) :
    formFailure m limits = some { reason := .shortTrack, track := some t, frame := f } := by
  rw [formFailure_of_present hpresent, firstTrack_eq_some ht hlow]

theorem formFailure_span (hshort : ∀ t n, shortTrackFrame (m.frames t) ≠ some n) {t : TrackId} {f : Nat}
    (ht : spanFrame m.first m.last (m.frames t) = some f)
    (hlow : ∀ u g, spanFrame m.first m.last (m.frames u) = some g → t.place ≤ u.place) :
    formFailure m limits = some { reason := .span, track := some t, frame := f } := by
  rw [formFailure_of_present hpresent, firstTrack_eq_none_iff.2 hshort, firstTrack_eq_some ht hlow]

theorem formFailure_axisUnset (hshort : ∀ t n, shortTrackFrame (m.frames t) ≠ some n)
    (hspan : ∀ t n, spanFrame m.first m.last (m.frames t) ≠ some n) {a : AxisId} (ha : m.ReadUnset limits a)
    (hlow : ∀ b, m.ReadUnset limits b → a ≤ b) :
    formFailure m limits = some { reason := .axisUnset, track := some (.axis a), frame := m.first } := by
  rw [formFailure_of_present hpresent, firstTrack_eq_none_iff.2 hshort, firstTrack_eq_none_iff.2 hspan,
    unsetAxis_eq_some ha hlow, Move.head_frame_of_spans ha.1 hspan]
  rfl

end

theorem formFailure_eq_none_iff : formFailure m limits = none ↔ (∃ a, m.axisTrack a ≠ []) ∧
    (∀ t n, shortTrackFrame (m.frames t) ≠ some n) ∧
    (∀ t n, spanFrame m.first m.last (m.frames t) ≠ some n) ∧ ∀ a, ¬m.ReadUnset limits a := by
  by_cases hpresent : ∃ a, m.axisTrack a ≠ []
  · rw [formFailure_of_present hpresent, ← firstTrack_eq_none_iff, ← firstTrack_eq_none_iff, ← unsetAxis_eq_none_iff]
    cases firstTrack m shortTrackFrame with
    | some x => simp
    | none =>
      cases firstTrack m (spanFrame m.first m.last) with
      | some x => simp
      | none => simp only [Option.map_eq_none_iff, hpresent, true_and]
  · rw [formFailure_emptyMove (by simpa using hpresent)]
    simp [hpresent]

/-! ### The result (R52, R59, R62, R63) -/

/-- The summary of a move that no axis holds below the greatest rate of the part (R59). -/
def Move.deviceSummary (m : Move) : Summary :=
  { ceiling := 300000, limitingAxis := .device, cause := .deviceMax, frame := m.first,
    extents := extentsOf m m.presentAxes }

/-- The summary of a move that an axis limits (R59). -/
def Move.axisSummary (m : Move) (a : AxisId) (c : Ceiling) : Summary :=
  { ceiling := c.rate, limitingAxis := .axis a, cause := c.cause, frame := c.frame,
    extents := extentsOf m m.presentAxes }

theorem checkResult_of_form_fails {f : Failure} (h : formFailure m limits = some f) :
    checkResult m limits = .failed f := by simp [checkResult, h]

theorem checkResult_of_ceiling_none (hform : formFailure m limits = none) (h : m.ceiling limits = none) :
    checkResult m limits = .certified m.deviceSummary := by
  have h : lowestCeiling (ceilings limits (peaksOf m m.presentAxes)) = none := h
  simp [checkResult, hform, tooSlow, summaryOf, h, Move.deviceSummary]

/-- Past the reasons 1 to 4, a move ceiling decides. -/
theorem checkResult_of_ceiling {a : AxisId} {c : Ceiling} (hform : formFailure m limits = none)
    (h : m.ceiling limits = some (a, c)) : checkResult m limits =
      if c.rate < 1000 then .failed { reason := .tooSlow, track := some (.axis a), frame := c.frame }
      else .certified (if 300000 < c.rate then m.deviceSummary else m.axisSummary a c) := by
  have h : lowestCeiling (ceilings limits (peaksOf m m.presentAxes)) = some (a, c) := h
  by_cases hslow : c.rate < 1000 <;>
    simp [checkResult, hform, tooSlow, summaryOf, h, hslow, Move.deviceSummary, Move.axisSummary]

/-- A check that certifies ends in the ceiling of an axis, or in the greatest rate of the part. -/
theorem checkResult_certified_iff {sum : Summary} : checkResult m limits = .certified sum ↔
    formFailure m limits = none ∧ (∀ a c, m.ceiling limits = some (a, c) → 1000 ≤ c.rate) ∧
    ((∃ a c, m.ceiling limits = some (a, c) ∧ c.rate ≤ 300000 ∧ sum = m.axisSummary a c) ∨
      ((∀ a c, m.ceiling limits = some (a, c) → 300000 < c.rate) ∧ sum = m.deviceSummary)) := by
  cases hf : formFailure m limits with
  | some f => simp [checkResult_of_form_fails hf]
  | none =>
    cases hc : m.ceiling limits with
    | none => simp [checkResult_of_ceiling_none hf hc, eq_comm]
    | some x =>
      obtain ⟨a, c⟩ := x
      rw [checkResult_of_ceiling hf hc]
      by_cases hslow : c.rate < 1000
      · simp [hslow]
      · by_cases hdevice : 300000 < c.rate
        · simp [hslow, hdevice, not_le.2 hdevice, not_lt.1 hslow, eq_comm]
        · simp [hslow, hdevice, not_lt.1 hdevice, not_lt.1 hslow, eq_comm]

end Sys2Proof.Machine
end

section
/-! SUPPORT. What a check samples and takes the greatest of: extents (R61), the peaks of a segment (R54, R55), corners
(R56), and the peaks of an axis track (R57). -/

namespace Sys2Proof.Machine

/-! ### Extents (R61) -/

theorem saturateCount_eq (x : Int) : saturateCount x = max (-1073741824) (min 1073741823 x) := by
  unfold saturateCount saturate countMin countMax
  split
  · omega
  · split <;> omega

/-- An extent is the least and the greatest of a track's samples. -/
theorem extentOf_spec (a : AxisId) {keys : List AxisKey} (h : samples keys ≠ []) :
    (extentOf a keys).axis = a ∧ (extentOf a keys).low ∈ samples keys ∧ (extentOf a keys).high ∈ samples keys ∧
    ∀ v ∈ samples keys, (extentOf a keys).low ≤ v ∧ v ≤ (extentOf a keys).high := by
  obtain ⟨v, vs, hvs⟩ := List.exists_cons_of_ne_nil h
  have hext : extentOf a keys = { axis := a, low := vs.foldl min v, high := vs.foldl max v } := by
    simp only [extentOf, hvs]
  obtain ⟨hlow, hle⟩ := List.min?_eq_some_iff.1 (List.min?_cons' (x := v) (xs := vs))
  obtain ⟨hhigh, hge⟩ := List.max?_eq_some_iff.1 (List.max?_cons' (x := v) (xs := vs))
  rw [hext, hvs]
  exact ⟨rfl, hlow, hhigh, fun w hw => ⟨hle w hw, hge w hw⟩⟩

/-- The samples of a track that has a last key. -/
theorem samples_eq {keys : List AxisKey} {k : AxisKey} (hk : keys.getLast? = some k) : samples keys =
    (segments (resolve keys)).flatMap
      (fun g => (List.range 64).map (fun i => saturateCount (g.value (1024 * i)))) ++ [saturateCount k.value] := by
  rw [samples, hk]

/-! ### The peaks of a segment (R54, R55) -/

/-- The vertex −b/(2a) lies between 0 and 1, by the sign of a. -/
theorem Segment.vertexInside_iff (g : Segment) :
    g.vertexInside = true ↔ g.qa ≠ 0 ∧ 0 < -(g.qb * g.qa) ∧ -(g.qb * g.qa) < 2 * (g.qa * g.qa) := by
  unfold Segment.vertexInside
  rw [decide_eq_true_eq]
  generalize g.qa = a
  generalize g.qb = b
  rcases lt_trichotomy a 0 with ha | rfl | ha
  · have hpos : 0 < -(b * a) ↔ 0 < b := by rw [← mul_neg, mul_pos_iff_of_pos_right (neg_pos.2 ha)]
    have hlt : -(b * a) < 2 * (a * a) ↔ b < -(2 * a) := by
      rw [← mul_neg, show 2 * (a * a) = -(2 * a) * -a by ring, mul_lt_mul_iff_left₀ (neg_pos.2 ha)]
    rw [hpos, hlt]
    omega
  · simp
  · have hpos : 0 < -(b * a) ↔ b < 0 := by rw [← neg_mul, mul_pos_iff_of_pos_right ha]; omega
    have hlt : -(b * a) < 2 * (a * a) ↔ -b < 2 * a := by
      rw [← neg_mul, ← mul_assoc, mul_lt_mul_iff_left₀ ha]
    rw [hpos, hlt]
    omega

theorem Segment.velocityPeak_le_iff {g : Segment} (hlength : 0 < g.length) {x : Nat} : g.velocityPeak ≤ x ↔
    g.m0.natAbs ≤ x ∧ g.m1.natAbs ≤ x ∧ (g.qa ≠ 0 → 0 < -(g.qb * g.qa) → -(g.qb * g.qa) < 2 * (g.qa * g.qa) →
      (4 * g.qa * g.qc - g.qb * g.qb).natAbs ≤ x * (4 * g.qa.natAbs * g.length)) := by
  unfold Segment.velocityPeak
  rw [max_le_iff, max_le_iff, and_assoc]
  by_cases hv : g.vertexInside = true
  · obtain ⟨ha, hpos, hlt⟩ := g.vertexInside_iff.1 hv
    have hd : 0 < 4 * g.qa.natAbs * g.length :=
      Nat.mul_pos (Nat.mul_pos (by decide) (Int.natAbs_pos.2 ha)) hlength
    rw [if_pos hv, Segment.vertexSpeed, ceilDiv_le_iff hd]
    simp only [ha, hpos, hlt, ne_eq, not_false_eq_true, forall_const]
  · rw [if_neg hv]
    rw [g.vertexInside_iff] at hv
    simp only [Nat.zero_le, and_true]
    tauto

theorem Segment.accelerationPeak_le_iff {g : Segment} (hlength : 0 < g.length) {x : Nat} :
    g.accelerationPeak ≤ x ↔ g.qb.natAbs ≤ x * (g.length * g.length) ∧
      (-6 * g.dv + 2 * (g.length : Int) * g.m0 + 4 * (g.length : Int) * g.m1).natAbs ≤ x * (g.length * g.length) := by
  have hd := Nat.mul_pos hlength hlength
  rw [Segment.accelerationPeak, max_le_iff, ceilDiv_le_iff hd, ceilDiv_le_iff hd]

/-! ### Corners (R56) -/

theorem cornersAfter_eq (rs : List ResolvedKey) : cornersAfter rs = rs.mapIdx (fun i x =>
    { value := if i + 1 = rs.length then x.inSlope.natAbs else (x.inSlope - x.outSlope).natAbs, frame := x.frame }) := by
  induction rs with
  | nil => rfl
  | cons k rest ih =>
    cases rest with
    | nil => rfl
    | cons n rest =>
      rw [cornersAfter, ih, List.mapIdx_cons]
      · simp [eq_comm (a := 0)]
      · simp

theorem corners_eq (rs : List ResolvedKey) : corners rs = rs.mapIdx (fun i x =>
    { value := if i = 0 then x.outSlope.natAbs else if i + 1 = rs.length then x.inSlope.natAbs
        else (x.inSlope - x.outSlope).natAbs, frame := x.frame }) := by
  cases rs with
  | nil => rfl
  | cons k rest =>
    rw [corners, cornersAfter_eq, List.mapIdx_cons]
    simp

/-- The corner peaks with their frames: the first key leaves from rest, the last one arrives at rest. -/
theorem corners_values (rs : List ResolvedKey) : (corners rs).map (fun p => (p.value, p.frame)) =
    rs.mapIdx (fun i x => (if i = 0 then x.outSlope.natAbs else if i + 1 = rs.length then x.inSlope.natAbs
      else (x.inSlope - x.outSlope).natAbs, x.frame)) := by
  rw [corners_eq, List.mapIdx_eq_zipIdx_map, List.map_map, List.mapIdx_eq_zipIdx_map]
  rfl

/-! ### The greatest peak (R57) -/

/-- The greatest of some peaks stays where it starts unless a peak is above that; then it is the first that no other
one is above. -/
theorem greatest_cases (start : Peak) (ps : List Peak) :
    (greatest start ps = start ∧ ∀ p ∈ ps, p.value ≤ start.value) ∨
    ∃ before rest, ps = before ++ greatest start ps :: rest ∧ start.value < (greatest start ps).value ∧
      (∀ p ∈ before, p.value < (greatest start ps).value) ∧ ∀ p ∈ rest, p.value ≤ (greatest start ps).value := by
  induction ps generalizing start with
  | nil => exact .inl ⟨rfl, by simp⟩
  | cons p ps ih =>
    by_cases hp : start.value < p.value
    · have hstep : greatest start (p :: ps) = greatest p ps := by simp [greatest, hp]
      rw [hstep]
      rcases ih p with ⟨heq, hle⟩ | ⟨before, rest, hps, hlt, hbefore, hrest⟩
      · exact .inr ⟨[], ps, by rw [heq]; rfl, by rwa [heq], by simp, by rwa [heq]⟩
      · refine .inr ⟨p :: before, rest, ?_, hp.trans hlt, List.forall_mem_cons.2 ⟨hlt, hbefore⟩, hrest⟩
        rw [List.cons_append, ← hps]
    · have hstep : greatest start (p :: ps) = greatest start ps := by simp [greatest, hp]
      rw [hstep]
      rcases ih start with ⟨heq, hle⟩ | ⟨before, rest, hps, hlt, hbefore, hrest⟩
      · exact .inl ⟨heq, List.forall_mem_cons.2 ⟨not_lt.1 hp, hle⟩⟩
      · refine .inr ⟨p :: before, rest, ?_, hlt, List.forall_mem_cons.2 ⟨?_, hbefore⟩, hrest⟩
        · rw [List.cons_append, ← hps]
        · exact (not_lt.1 hp).trans_lt hlt

/-- The peak `p` is the greatest of some values at their frames, at the lowest frame of those that reach it; `first`
stands where every value is 0. -/
def Peak.Tops (p : Peak) (first : Nat) (vs : List (Nat × Nat)) : Prop :=
  (p.value = 0 ∧ p.frame = first ∧ ∀ v ∈ vs, v.1 = 0) ∨
  (0 < p.value ∧ ∃ before rest, vs = before ++ (p.value, p.frame) :: rest ∧
    (∀ v ∈ before, v.1 < p.value) ∧ ∀ v ∈ rest, v.1 ≤ p.value)

theorem greatest_tops (first : Nat) (ps : List Peak) :
    (greatest { value := 0, frame := first } ps).Tops first (ps.map (fun p => (p.value, p.frame))) := by
  rcases greatest_cases { value := 0, frame := first } ps with ⟨heq, hle⟩ | ⟨before, rest, hps, hlt, hbefore, hrest⟩
  · exact .inl ⟨by rw [heq], by rw [heq], List.forall_mem_map.2 (fun p hp => Nat.le_zero.1 (hle p hp))⟩
  · refine .inr ⟨hlt, before.map (fun p => (p.value, p.frame)), rest.map (fun p => (p.value, p.frame)), ?_,
      List.forall_mem_map.2 hbefore, List.forall_mem_map.2 hrest⟩
    conv_lhs => rw [hps]
    simp

/-- The peaks of an axis track are the greatest of its segments and of its corners, at the first frame when the track
does not move. -/
theorem axisPeaks_tops (a : AxisId) {keys : List AxisKey} {k : AxisKey} (hk : keys.head? = some k) :
    (axisPeaks a keys).velocity.Tops k.frame
      ((segments (resolve keys)).map (fun g => (g.velocityPeak, g.start))) ∧
    (axisPeaks a keys).acceleration.Tops k.frame
      ((segments (resolve keys)).map (fun g => (g.accelerationPeak, g.start))) ∧
    (axisPeaks a keys).corner.Tops k.frame ((resolve keys).mapIdx (fun i x =>
      (if i = 0 then x.outSlope.natAbs else if i + 1 = (resolve keys).length then x.inSlope.natAbs
        else (x.inSlope - x.outSlope).natAbs, x.frame))) := by
  rw [← corners_values]
  simp only [axisPeaks, hk, Option.map_some, Option.getD_some]
  refine ⟨?_, ?_, greatest_tops _ _⟩
  · simpa [Function.comp_def] using greatest_tops k.frame ((segments (resolve keys)).map _)
  · simpa [Function.comp_def] using greatest_tops k.frame ((segments (resolve keys)).map _)

end Sys2Proof.Machine
end

section
/-! SUPPORT. The result of a check and the rate it certifies (R52, R57 to R63). -/

namespace Sys2Proof.Machine

/-! ### What a certified summary says -/

section
variable {m : Move} {limits : List AxisLimits} {sum : Summary}

/-- The ceiling certified lies in the range of the part and keeps every present axis within its limits. -/
theorem certified_within (h : checkResult m limits = .certified sum) :
    1000 ≤ sum.ceiling ∧ sum.ceiling ≤ 300000 ∧ ∀ a, m.axisTrack a ≠ [] → m.Within limits a sum.ceiling := by
  obtain ⟨-, hmin, ⟨a, c, hc, hmax, rfl⟩ | ⟨hmax, rfl⟩⟩ := checkResult_certified_iff.1 h
  · refine ⟨hmin a c hc, hmax, Move.within_all_iff.2 (fun b d hd => ?_)⟩
    rw [hc] at hd
    cases hd
    exact le_rfl
  · exact ⟨show 1000 ≤ 300000 by decide, le_rfl, Move.within_all_iff.2 (fun a c hc => (hmax a c hc).le)⟩

/-- Where an axis limits the move, the summary blames the first limit one mfps more breaks. -/
theorem certified_blames {a : AxisId} (h : checkResult m limits = .certified sum)
    (ha : sum.limitingAxis = .axis a) : ∃ lim, limits.find? (fun x => decide (x.axis = a)) = some lim ∧
      lim.Blames (axisPeaks a (m.axisTrack a)) { rate := sum.ceiling, cause := sum.cause, frame := sum.frame } := by
  obtain ⟨-, -, ⟨b, c, hc, -, rfl⟩ | ⟨-, rfl⟩⟩ := checkResult_certified_iff.1 h
  · cases ha
    exact (Move.axisCeiling_eq_some_iff.1 (Move.ceiling_some hc).2).2
  · cases ha

theorem AxisLimits.Blames.breaks {lim : AxisLimits} {p : AxisPeaks} {c : Ceiling} (h : lim.Blames p c) :
    (c.cause = .velocity ∧ 1000 * lim.vmax < (c.rate + 1) * p.velocity.value) ∨
    (c.cause = .acceleration ∧ 1000000 * lim.amax < (c.rate + 1) * (c.rate + 1) * p.acceleration.value) ∨
    (c.cause = .corner ∧ 1000 * lim.jmax < (c.rate + 1) * p.corner.value) := by
  unfold AxisLimits.Blames at h
  split at h
  · next hv => exact .inl ⟨h.1, hv⟩
  · split at h
    · next ha => exact .inr (.inl ⟨h.1, ha⟩)
    · obtain ⟨hj, hcause, -⟩ := h
      exact .inr (.inr ⟨hcause, hj⟩)

/-! ### The results, reason by reason -/

/-- A check certifies exactly when no reason of R52 fails the move. -/
theorem certifies_iff : (∃ sum, checkResult m limits = .certified sum) ↔
    formFailure m limits = none ∧ ∀ a, m.axisTrack a ≠ [] → m.Within limits a 1000 := by
  rw [Move.within_all_iff]
  constructor
  · rintro ⟨sum, h⟩
    obtain ⟨hform, hmin, -⟩ := checkResult_certified_iff.1 h
    exact ⟨hform, hmin⟩
  · rintro ⟨hform, hmin⟩
    cases hc : m.ceiling limits with
    | none => exact ⟨_, checkResult_of_ceiling_none hform hc⟩
    | some x => exact ⟨_, (checkResult_of_ceiling hform hc).trans (if_neg (not_lt.2 (hmin _ _ hc)))⟩

section
variable (hform : formFailure m limits = none)
include hform

section
variable {a : AxisId} {c : Ceiling} (hlow : m.Lowest limits a c.rate) (hc : m.axisCeiling limits a = some c)
include hlow hc

theorem checkResult_tooSlow (hslow : c.rate < 1000) :
    checkResult m limits = .failed { reason := .tooSlow, track := some (.axis a), frame := c.frame } :=
  (checkResult_of_ceiling hform (Move.ceiling_eq_some hlow hc)).trans (if_pos hslow)

theorem checkResult_axis (hmin : 1000 ≤ c.rate) (hmax : c.rate ≤ 300000) :
    checkResult m limits = .certified (m.axisSummary a c) := by
  rw [checkResult_of_ceiling hform (Move.ceiling_eq_some hlow hc), if_neg (not_lt.2 hmin), if_neg (not_lt.2 hmax)]

end

theorem checkResult_device (h : ∀ a, m.axisTrack a ≠ [] → m.Within limits a 300001) :
    checkResult m limits = .certified m.deviceSummary := by
  rw [Move.within_all_iff] at h
  exact checkResult_certified_iff.2 ⟨hform, fun a c hc => le_trans (by decide) (h a c hc), .inr ⟨h, rfl⟩⟩

end
end

/-- Settles O58: what a certified summary says, each result with its reason, the extents, and the peaks of a segment
and of a track. -/
theorem theCeilingIsTheLargestSafeRate : Obligations.TheCeilingIsTheLargestSafeRate := by
  refine ⟨fun m limits sum h => ?_, fun m limits => ?_, fun a keys k hk => ?_,
    fun g hg => ⟨fun x => Segment.velocityPeak_le_iff hg, fun x => Segment.accelerationPeak_le_iff hg⟩,
    fun a keys k hk => ?_⟩
  · obtain ⟨hmin, hmax, hwithin⟩ := certified_within h
    refine ⟨hmin, hmax, fun a lim ha => hwithin a (Move.mem_presentAxes.1 ha) lim, fun a ha => ?_⟩
    obtain ⟨lim, hlim, hblames⟩ := certified_blames h ha
    refine ⟨lim, hlim, ?_⟩
    rcases hblames.breaks with ⟨hcause, hbreaks⟩ | ⟨hcause, hbreaks⟩ | ⟨hcause, hbreaks⟩
    all_goals
      simp only at hcause
      simp only [hcause]
      exact hbreaks
  · intro num short off unset within ceiling lowest extents failed
    have hnum : ∀ t, num t = t.place := fun t => by cases t <;> rfl
    have hshort : ∀ t f, short t f ↔ shortTrackFrame (m.frames t) = some f := fun _ _ =>
      shortTrackFrame_eq_some_iff.symm
    have hoff : ∀ t f, off t f ↔ spanFrame m.first m.last (m.frames t) = some f := fun _ _ =>
      spanFrame_eq_some_iff.symm
    have hceiling : ∀ a q cause f, ceiling a q cause f → m.axisCeiling limits a = some ⟨q, cause, f⟩ :=
      fun _ _ _ _ => (Move.axisCeiling_eq_some_iff (c := ⟨_, _, _⟩)).2
    have hform : formFailure m limits = none ↔ (∃ a, m.axisTrack a ≠ []) ∧ (∀ t f, ¬short t f) ∧
        (∀ t f, ¬off t f) ∧ ∀ a, ¬unset a := by
      simp only [hshort, hoff]
      exact formFailure_eq_none_iff
    refine ⟨?_, fun h => checkResult_of_form_fails (formFailure_emptyMove h), fun hpresent =>
      ⟨fun t f ht hlow => ?_, fun hns => ⟨fun t f ht hlow => ?_, fun hno => ⟨fun a ha hlow => ?_, fun hnu => ?_⟩⟩⟩⟩
    · rw [certifies_iff, hform, and_assoc, and_assoc, and_assoc]
      exact Iff.rfl
    · simp only [hshort, hnum] at ht hlow
      exact checkResult_of_form_fails (formFailure_shortTrack hpresent ht hlow)
    · simp only [hshort, hoff, hnum] at hns ht hlow
      exact checkResult_of_form_fails (formFailure_span hpresent hns ht hlow)
    · simp only [hshort, hoff] at hns hno
      exact checkResult_of_form_fails (formFailure_axisUnset hpresent hns hno ha hlow)
    · have hf := hform.2 ⟨hpresent, hns, hno, hnu⟩
      refine ⟨fun a q cause f hlow hc => ?_, fun h => checkResult_device hf h⟩
      have hc := hceiling a q cause f hc
      exact ⟨checkResult_tooSlow (c := ⟨q, cause, f⟩) hf hlow hc, checkResult_axis (c := ⟨q, cause, f⟩) hf hlow hc⟩
  · intro counts vs
    have hvs : samples keys = vs := by
      rw [samples_eq hk]
      simp only [saturateCount_eq]
      rfl
    have hne : samples keys ≠ [] := by simp [samples_eq hk]
    rw [← hvs]
    exact extentOf_spec a hne
  · exact ⟨rfl, axisPeaks_tops a hk⟩

end Sys2Proof.Machine
end

section
/-! SUPPORT. A check as it begins and as it ends (R49 to R51, R62, R63, R66, R67). -/

namespace Sys2Proof.Machine

variable {s : State} {l : LinkId} {slot : Nat} {e : Option Nat} {m : Move}

/-! ### MOVE_CHECK (R50) -/

theorem exec_moveCheck_of_empty (hs : s.phase = .serving) (h1 : 1 ≤ slot) (h64 : slot ≤ 64)
    (hm : s.move slot = none) : exec (.moveCheck l slot e) s = .next ((s.deselect l).refuse l .state) := by
  show execMoveCheck l slot e s = _
  unfold execMoveCheck
  rw [State.taken_serving s l hs, slotOk_of_bounds h1 h64, State.deselect_move, hm]
  rfl

/-- MOVE_CHECK of a move, past the deselection of its link. -/
theorem exec_moveCheck_of_move (hs : s.phase = .serving) (hm : s.move slot = some m) :
    exec (.moveCheck l slot e) s = .next (
      if s.isTarget slot then (s.deselect l).refuse l .busyOther
      else if m.staleFor e then (s.deselect l).refuseWith l .stale (.generation m.generation) false
      else if m.state ≠ .opened then (s.deselect l).refuse l .state
      else if s.check.isSome then (s.deselect l).refuse l .busyOther
      else ((s.deselect l).beginCheck slot m).ok l (.slotGeneration slot m.generation)) := by
  show execMoveCheck l slot e s = _
  unfold execMoveCheck
  rw [State.taken_serving s l hs, slotOk_of_move hm, State.deselect_move, hm, State.deselect_isTarget,
    State.deselect_check]
  rfl

theorem exec_moveCheck_of_no_slot (hs : s.phase = .serving) (hslot : slot = 0 ∨ 64 < slot) :
    exec (.moveCheck l slot e) s = .next ((s.deselect l).refuse l .range) := by
  have h : slotOk slot = false := by
    rw [Bool.eq_false_iff, ne_eq, slotOk_iff]
    omega
  show execMoveCheck l slot e s = _
  unfold execMoveCheck
  rw [State.taken_serving s l hs, h]
  rfl

/-- The state in which a check has begun: the move CHECKING and the engine at work with the limits in force. -/
theorem State.beginCheck_eq (hm : s.move slot = some m) : s.beginCheck slot m =
    { s.setMove slot (some { m with state := .checking, failure := none }) with
      check := some { slot := slot, limits := m.presentAxes.map (fun a => limitsOf a (s.axis a).conf),
                      peaks := [], extents := [], elapsed := 0 } } := by
  unfold State.beginCheck
  dsimp only
  rw [State.setMove_eq_onMove (m := m) (by exact hm)]
  unfold State.setMove
  split <;> rfl

/-! ### CHECK_END (R62, R63) -/

theorem State.raise_checkDone (s : State) : s.raise .checkDone =
    { s with linkA := { s.linkA with flags := s.linkA.flags ||| 0x2#17 },
             linkB := { s.linkB with flags := s.linkB.flags ||| 0x2#17 } } := by
  unfold State.raise State.onLinks Link.raise
  rw [EventKind.checkDone_bit]

/-- The state after the engine has worked for one tick. -/
def State.checkWorked (s : State) (c : CheckRun) (m : Move) : State :=
  { s with check := some { c.works m 4 with elapsed := c.elapsed + 1 } }

section
variable {c : CheckRun} (hc : s.check = some c) (hm : s.move c.slot = some m)
include hc hm

theorem State.tickCheck_eq : s.tickCheck =
    if checkBound m ≤ c.elapsed + 1 then (s.checkWorked c m).endCheck else s.checkWorked c m := by
  unfold State.tickCheck
  rw [hc]
  dsimp only
  rw [hm]
  rfl

/-- A tick's work does not change what a sound check ends in. -/
theorem State.checkWorked_endCheck (hw : s.resetWaiting = false) (h : c.sound m = true) :
    (s.checkWorked c m).endCheck = s.endCheck := by
  have hsound : ({ c.works m 4 with elapsed := c.elapsed + 1 } : CheckRun).sound m = true :=
    CheckRun.works_sound h 4
  have hm' : (s.checkWorked c m).move ({ c.works m 4 with elapsed := c.elapsed + 1 } : CheckRun).slot = some m := by
    rw [CheckRun.works_slot]
    exact hm
  rw [State.endCheck_ends hw hc hm h, State.endCheck_ends (s := s.checkWorked c m) hw rfl hm' hsound]
  simp only [CheckRun.works_slot, CheckRun.works_limits]
  rfl

end

theorem State.checkWorked_eq (s : State) (c : CheckRun) (m : Move) : ∃ peaks extents, s.checkWorked c m =
    { s with check := some { c with peaks := peaks, extents := extents, elapsed := c.elapsed + 1 } } :=
  ⟨_, _, by rw [State.checkWorked, c.works_eq m 4]⟩

/-- Settles O26: the row of MOVE_CHECK test by test, CHECK_END by the check's result, and the engine's tick by its
bound and by a soft reset that waits. -/
theorem moveCheckAndCheckEnd : Obligations.MoveCheckAndCheckEnd := by
  refine ⟨fun s l slot e hs => ?_, fun s c m hc hm h hw => ?_, fun s hc => ?_, fun s c m hc hm => ?_⟩
  · intro d
    refine ⟨exec_moveCheck_of_no_slot hs, fun h1 h64 => ?_⟩
    refine ⟨exec_moveCheck_of_empty hs h1 h64, fun m hm => ?_⟩
    have hexec := exec_moveCheck_of_move (l := l) (e := e) hs hm
    refine ⟨fun ht => ?_, fun ht => ⟨fun g he hg => ?_, fun hgen => ⟨fun hst => ?_, fun hst =>
      ⟨fun hbusy => ?_, fun hidle => ?_⟩⟩⟩⟩
    · rw [hexec]; simp [ht, d]
    · rw [hexec]; simp [ht, Move.staleFor_of_other he hg, d]
    · rw [hexec]; simp [ht, Move.staleFor_of_met hgen, hst, d]
    · rw [hexec]; simp [ht, Move.staleFor_of_met hgen, hst, hbusy, d]
    · have hm' : d.move slot = some m := (s.deselect_move l slot).trans hm
      rw [hexec]
      simp only [ht, Move.staleFor_of_met hgen, hst, hidle, Option.isSome_none, Bool.false_eq_true, if_false, ne_eq,
        not_true_eq_false]
      have hconf : ∀ a, d.axis a = s.axis a := s.deselect_axis l
      rw [State.beginCheck_eq hm']
      simp only [limitsOf, hconf]
  · intro done
    have hend : exec .checkEnd s = .next s.endCheck := rfl
    rw [State.endCheck_ends hw hc hm h, State.raise_checkDone] at hend
    refine ⟨fun sum hr => ?_, fun f hr => ?_⟩
    · rw [hend, hr]
    · rw [hend, hr]
  · unfold State.tickCheck
    rw [hc]
  · intro bound
    have htick : s.tickCheck = if bound ≤ c.elapsed + 1 then _ else _ := State.tickCheck_eq hc hm
    refine ⟨fun hlt => ?_, fun hw hle h => ?_, fun hw => ⟨?_, ?_⟩⟩
    · rw [htick, if_neg (not_le.2 hlt)]
      exact s.checkWorked_eq c m
    · rw [htick, if_pos hle, State.checkWorked_endCheck hc hm hw h]
      rfl
    · exact congrArg _ (State.endCheck_waiting hw)
    · rw [htick, State.endCheck_waiting (s := s.checkWorked c m) hw, ite_self]
      exact s.checkWorked_eq c m

end Sys2Proof.Machine
end

section
/-! SUPPORT. The track evaluation at a key's frame start and outside the span (R70 to R75). -/

namespace Sys2Proof.Machine

/-! ### One segment at its start (R71 to R74) -/

@[simp] theorem Segment.reduction_start (g : Segment) : g.reduction ((g.start : Int) * puPerFrame) = 0 := by
  simp [Segment.reduction]

/-- At u = 0 every basis value is 0, and the rounding of R74 adds nothing. -/
@[simp] theorem Segment.value_zero (g : Segment) : g.value 0 = g.v0 := by
  simp [Segment.value, basis1, basis2, basis3]

theorem Segment.holds_frame_iff (g : Segment) (f : Nat) :
    g.holds ((f : Int) * puPerFrame) = true ↔ g.start ≤ f ∧ f < g.start + g.length := by
  rw [Segment.holds, puPerFrame, decide_eq_true_iff]
  omega

/-! ### The segments of a track in frame order -/

theorem segments_resolveFrom_cons (before : Option AxisKey) (k n : AxisKey) (rest : List AxisKey) :
    segments (resolveFrom before (k :: n :: rest)) =
      { start := k.frame, length := n.frame - k.frame, v0 := k.value, dv := n.value - k.value,
        m0 := (resolveSlopes before k (some n)).2, m1 := (resolveSlopes (some k) n rest.head?).1 } ::
      segments (resolveFrom (some k) (n :: rest)) := rfl

/-- A key's frame start that is not the track's last lies in the segment that begins at the key, and in none before
it (R71). -/
theorem find_segment_of_key {keys : List AxisKey} (before : Option AxisKey) {k kn : AxisKey}
    (h : (keys.map (·.frame)).Pairwise (· < ·)) (hk : k ∈ keys) (hkn : kn ∈ keys) (hlt : k.frame < kn.frame) :
    ∃ g, (segments (resolveFrom before keys)).find? (fun g => g.holds ((k.frame : Int) * puPerFrame)) = some g ∧
      g.start = k.frame ∧ g.v0 = k.value := by
  induction keys generalizing before with
  | nil => cases hk
  | cons k0 rest ih =>
    obtain ⟨hfirst, hrest⟩ := List.pairwise_cons.1 h
    have hafter : ∀ x ∈ rest, k0.frame < x.frame := fun x hx => hfirst _ (List.mem_map_of_mem hx)
    have hkn' : kn ∈ rest := by
      rcases List.mem_cons.1 hkn with rfl | hmem
      · rcases List.mem_cons.1 hk with rfl | hmem
        · omega
        · have := hafter k hmem
          omega
      · exact hmem
    cases rest with
    | nil => cases hkn'
    | cons n rest =>
      have hn := hafter n (List.mem_cons_self ..)
      rw [segments_resolveFrom_cons]
      rcases List.mem_cons.1 hk with rfl | hk'
      · refine ⟨_, List.find?_cons_of_pos ?_, rfl, rfl⟩
        simp only [Segment.holds_frame_iff]
        omega
      · have hle : n.frame ≤ k.frame := by
          rcases List.mem_cons.1 hk' with rfl | hmem
          · exact le_rfl
          · exact ((List.pairwise_cons.1 hrest).1 _ (List.mem_map_of_mem hmem)).le
        rw [List.find?_cons_of_neg]
        · exact ih (some k0) hrest hk' hkn'
        · simp only [Segment.holds_frame_iff]
          omega

/-! ### The value of a track (R70, R71) -/

section
variable {keys : List AxisKey} {k k0 kn : AxisKey} {p : Int}

theorem frame_lt_or_eq_getLast (h : (keys.map (·.frame)).Pairwise (· < ·)) (hkn : keys.getLast? = some kn)
    (hk : k ∈ keys) : k.frame < kn.frame ∨ k = kn := by
  obtain ⟨front, rfl⟩ := List.getLast?_eq_some_iff.1 hkn
  rw [List.map_append, List.pairwise_append] at h
  obtain ⟨-, -, hacross⟩ := h
  rcases List.mem_append.1 hk with hk | hk
  · exact .inl (hacross _ (List.mem_map_of_mem hk) _ (by simp))
  · exact .inr (List.mem_singleton.1 hk)

theorem head_le_frame (h : (keys.map (·.frame)).Pairwise (· < ·)) (hk0 : keys.head? = some k0) (hk : k ∈ keys) :
    k0.frame ≤ k.frame := by
  obtain ⟨rest, rfl⟩ := List.head?_eq_some_iff.1 hk0
  rcases List.mem_cons.1 hk with rfl | hk
  · exact le_rfl
  · exact ((List.pairwise_cons.1 h).1 _ (List.mem_map_of_mem hk)).le

/-- The three cases of R70 and R71 on a track with keys. -/
theorem trackRaw_eq (hk0 : keys.head? = some k0) (hkn : keys.getLast? = some kn) (p : Int) : trackRaw keys p =
    if p < (k0.frame : Int) * puPerFrame then k0.value
    else if (kn.frame : Int) * puPerFrame ≤ p then kn.value
    else (((segments (resolve keys)).find? (fun g => g.holds p)).map (fun g => g.value (g.reduction p))).getD
      kn.value := by
  simp only [trackRaw, hk0, hkn]
  cases (segments (resolve keys)).find? (fun g => g.holds p) <;> rfl

theorem trackRaw_below (hk0 : keys.head? = some k0) (hp : p < (k0.frame : Int) * puPerFrame) :
    trackRaw keys p = k0.value := by
  obtain ⟨rest, rfl⟩ := List.head?_eq_some_iff.1 hk0
  rw [trackRaw_eq hk0 (List.getLast?_cons), if_pos hp]

theorem trackRaw_above (h : (keys.map (·.frame)).Pairwise (· < ·)) (hkn : keys.getLast? = some kn)
    (hp : (kn.frame : Int) * puPerFrame ≤ p) : trackRaw keys p = kn.value := by
  have hmem := List.mem_of_getLast? hkn
  have hk0 := List.head?_eq_some_head (List.ne_nil_of_mem hmem)
  have hle := head_le_frame h hk0 hmem
  rw [trackRaw_eq hk0 hkn, if_neg, if_pos hp]
  unfold puPerFrame at *
  omega

/-- The curve meets every key: the last one by R70, any other at the start of its own segment. -/
theorem trackRaw_key (h : (keys.map (·.frame)).Pairwise (· < ·)) (hk : k ∈ keys) :
    trackRaw keys ((k.frame : Int) * puPerFrame) = k.value := by
  have hk0 := List.head?_eq_some_head (List.ne_nil_of_mem hk)
  have hkn := List.getLast?_eq_some_getLast (List.ne_nil_of_mem hk)
  have hfirst := head_le_frame h hk0 hk
  rcases frame_lt_or_eq_getLast h hkn hk with hlt | hlast
  · obtain ⟨g, hfind, hstart, hv0⟩ := find_segment_of_key none h hk (List.mem_of_getLast? hkn) hlt
    rw [trackRaw_eq hk0 hkn, if_neg, if_neg, resolve, hfind, Option.map_some, Option.getD_some, ← hstart,
      g.reduction_start, g.value_zero, hv0]
    all_goals
      unfold puPerFrame
      omega
  · rw [hlast]
    exact trackRaw_above h hkn le_rfl

end

/-- Settles O59: at a key's frame start, below the span and from its end on; and the saturated answer. -/
theorem theCurveMeetsItsKeys : Obligations.TheCurveMeetsItsKeys := by
  intro keys hinc
  have h := increasing_iff.1 hinc
  exact ⟨fun k hk => trackRaw_key h hk, fun k p hk hp => trackRaw_below hk hp,
    fun k p hk hp => trackRaw_above h hk hp, fun p o => saturateCount_eq _⟩

end Sys2Proof.Machine
end

section
/-! SUPPORT. The ease profile (R77), its duration (R78), and the tick at which a stop begins (R115). -/

namespace Sys2Proof.Machine

/-! ### The ease profile (R77) -/

/-- What the magnitude of an ease grows with: k² × (3D − 2k), which reaches D³ at k = D. -/
def easeWeight (duration k : Nat) : Nat := k * k * (3 * duration - 2 * k)

theorem easeWeight_zero (n : Nat) : easeWeight n 0 = 0 := by simp [easeWeight]

theorem easeWeight_self (n : Nat) : easeWeight n n = n ^ 3 := by
  rw [easeWeight, show 3 * n - 2 * n = n by omega]
  ring

theorem easeWeight_le_succ {n k : Nat} (h : k < n) : easeWeight n k ≤ easeWeight n (k + 1) := by
  obtain ⟨c, rfl⟩ := Nat.exists_eq_add_of_lt h
  rw [easeWeight, easeWeight, show 3 * (k + c + 1) - 2 * k = k + 3 * c + 3 by omega,
    show 3 * (k + c + 1) - 2 * (k + 1) = k + 3 * c + 1 by omega]
  nlinarith

theorem easeMagnitude_eq (d n k : Nat) :
    easeMagnitude d n k = (2 * d * easeWeight n k + n ^ 3) / (2 * n ^ 3) := by
  rw [easeMagnitude, easeWeight, Nat.mul_assoc (2 * d)]

theorem easeMagnitude_zero (d n : Nat) : easeMagnitude d n 0 = 0 := by
  rw [easeMagnitude_eq, easeWeight_zero]
  rcases Nat.eq_zero_or_pos (n ^ 3) with h | h
  · simp [h]
  · exact Nat.div_eq_of_lt (by omega)

theorem easeMagnitude_self (d : Nat) {n : Nat} (h : 1 ≤ n) : easeMagnitude d n n = d := by
  have hpos : 0 < n ^ 3 := Nat.pow_pos h
  rw [easeMagnitude_eq, easeWeight_self, show 2 * d * n ^ 3 = 2 * n ^ 3 * d by ring,
    Nat.mul_add_div (by omega), Nat.div_eq_of_lt (by omega), Nat.add_zero]

theorem easeMagnitude_le_succ (d : Nat) {n k : Nat} (h : k < n) :
    easeMagnitude d n k ≤ easeMagnitude d n (k + 1) := by
  rw [easeMagnitude_eq, easeMagnitude_eq]
  gcongr
  exact easeWeight_le_succ h

theorem easeMagnitude_le (d : Nat) {n k : Nat} (hn : 1 ≤ n) (h : k ≤ n) : easeMagnitude d n k ≤ d := by
  induction h using Nat.decreasingInduction with
  | self => exact (easeMagnitude_self d hn).le
  | of_succ k hk ih => exact (easeMagnitude_le_succ d hk).trans ih

/-- The offset is the magnitude with the sign of the distance. -/
theorem easeOffset_eq_sign_mul (d : Int) (n k : Nat) : easeOffset d n k = d.sign * easeMagnitude d.natAbs n k := by
  unfold easeOffset
  rcases lt_trichotomy d 0 with h | rfl | h
  · rw [if_pos h, Int.sign_eq_neg_one_of_neg h, neg_one_mul]
  · have h0 : easeMagnitude 0 n k = 0 := by simpa [easeMagnitude] using easeMagnitude_zero 0 n
    simp [h0]
  · rw [if_neg h.not_gt, Int.sign_eq_one_of_pos h, one_mul]

theorem natAbs_easeOffset (d : Int) (n k : Nat) : (easeOffset d n k).natAbs = easeMagnitude d.natAbs n k := by
  unfold easeOffset
  split <;> simp

/-! ### The searches (R78, R115) -/

theorem ceilSqrt_le_iff {n r : Nat} : ceilSqrt n ≤ r ↔ n ≤ r * r := by
  rw [ceilSqrt, isqrt_eq_sqrt]
  split
  · next hsquare => rw [← Nat.mul_self_le_mul_self_iff, hsquare]
  · next hbetween =>
    have hne : n ≠ r * r := fun h => hbetween (by rw [h, Nat.sqrt_eq])
    rw [Nat.succ_le_iff, Nat.sqrt_lt, hne.le_iff_lt]

/-- The duration term is the least D that meets the two inequalities of R78. -/
theorem EaseTerm.duration_le_iff (t : EaseTerm) (hv : 0 < t.vc) (ha : 0 < t.ac) {k : Nat} :
    t.duration ≤ k ↔ 3000 * t.dist.natAbs ≤ k * t.vc ∧ 24000000 * t.dist.natAbs ≤ k * k * t.ac := by
  unfold EaseTerm.duration
  split
  · next h => simp [h]
  · rw [Nat.max_le, ceilDiv_le_iff hv, ceilSqrt_le_iff, ceilDiv_le_iff ha]

theorem stopTick_le_iff {hs q hp j : Nat} (h : 0 < hp) : stopTick hs q hp ≤ j ↔ (hs - j) * hp ≤ q * hs := by
  rw [stopTick, tsub_le_iff_tsub_le, Nat.le_div_iff_mul_le h]

/-- Settles O60: the ease by its magnitude and its sign, each search as the least or the largest integer. -/
theorem easesAndSearchesAreExact : Obligations.EasesAndSearchesAreExact := by
  refine ⟨fun d n hn => ⟨?_, ?_, fun k hk => ?_, fun k hk => ?_, fun k => ?_⟩, fun n => ?_,
    fun hs q hp hpos _ => ⟨Nat.sub_le .., (stopTick_le_iff hpos).1 le_rfl, fun j hj => ?_⟩,
    fun d vc ac _ hv ha => ?_⟩
  · rw [easeOffset_eq_sign_mul, easeMagnitude_zero, Nat.cast_zero, mul_zero]
  · rw [easeOffset_eq_sign_mul, easeMagnitude_self _ hn, Int.sign_mul_natAbs]
  · rw [natAbs_easeOffset, natAbs_easeOffset]
    exact easeMagnitude_le_succ _ hk
  · rw [natAbs_easeOffset]
    exact easeMagnitude_le _ hn hk
  · rw [easeOffset_eq_sign_mul, easeOffset_eq_sign_mul, Int.sign_neg, Int.natAbs_neg, neg_mul]
  · rw [isqrt_eq_sqrt]
    exact ⟨Nat.sqrt_le n, Nat.lt_succ_sqrt n⟩
  · exact not_le.1 (fun hle => hj.not_ge ((stopTick_le_iff hpos).2 hle))
  · have hleast : ∀ k, EaseTerm.duration ⟨d, vc, ac⟩ ≤ k ↔ _ := fun k => EaseTerm.duration_le_iff ⟨d, vc, ac⟩ hv ha
    refine ⟨(hleast _).1 le_rfl, fun k hk => ?_⟩
    by_contra hmeets
    rw [not_or, not_lt, not_lt] at hmeets
    exact hk.not_ge ((hleast k).2 hmeets)

end Sys2Proof.Machine
end

section
/-! SUPPORT. What the links, the edit unit and the check engine leave as it is: the axes, the park, the clock, the pass and
the E-stop state. -/

namespace Sys2Proof.Machine

variable (s : State) (l : LinkId)

/-- The part of the state that only the axis units, the clock, the pass controller, the faults and the resets write. -/
def State.motion (s : State) : Vector Axis 16 × Option GroupEase × Clock × Pass × Bool :=
  (s.axes, s.park, s.clock, s.pass, s.estop)

theorem State.axis_of_motion {s t : State} (h : t.motion = s.motion) (a : AxisId) : t.axis a = s.axis a :=
  congrArg (fun m : Vector Axis 16 × Option GroupEase × Clock × Pass × Bool => m.1[a]) h

theorem State.park_of_motion {s t : State} (h : t.motion = s.motion) : t.park = s.park :=
  congrArg (fun m => m.2.1) h

theorem State.pass_of_motion {s t : State} (h : t.motion = s.motion) : t.pass = s.pass :=
  congrArg (fun m => m.2.2.2.1) h

/-! ### Links, answers and moves (Machine/Ops, Machine/Flags) -/

@[simp] theorem State.setLink_motion (k : Link) : (s.setLink l k).motion = s.motion := by cases l <;> rfl

@[simp] theorem State.onLink_motion (f : Link → Link) : (s.onLink l f).motion = s.motion := s.setLink_motion l _

@[simp] theorem State.onLinks_motion (f : Link → Link) : (s.onLinks f).motion = s.motion := rfl

@[simp] theorem State.raise_motion (e : EventKind) : (s.raise e).motion = s.motion := rfl

@[simp] theorem State.setMove_motion (n : Nat) (m : Option Move) : (s.setMove n m).motion = s.motion := by
  unfold State.setMove
  split <;> rfl

@[simp] theorem State.onMove_motion (n : Nat) (f : Move → Move) : (s.onMove n f).motion = s.motion :=
  s.setMove_motion n _

@[simp] theorem State.answer_motion (x : Answer) : (s.answer l x).motion = s.motion := s.onLink_motion l _

@[simp] theorem State.accept_motion (r : Results) (b : Bool) : (s.accept l r b).motion = s.motion :=
  s.answer_motion l _

@[simp] theorem State.ok_motion (r : Results) : (s.ok l r).motion = s.motion := s.answer_motion l _

@[simp] theorem State.refuseWith_motion (w : Reason) (r : Results) (b : Bool) :
    (s.refuseWith l w r b).motion = s.motion := s.answer_motion l _

@[simp] theorem State.refuse_motion (w : Reason) : (s.refuse l w).motion = s.motion := s.answer_motion l _

@[simp] theorem State.deselect_motion : (s.deselect l).motion = s.motion := by cases l <;> rfl

/-! ### The check engine -/

@[simp] theorem State.cancelCheck_motion (n : Nat) : (s.cancelCheck n).motion = s.motion :=
  State.onMove_motion { s with check := none } n _

@[simp] theorem State.contentChange_motion (n : Nat) : (s.contentChange n).motion = s.motion := by
  unfold State.contentChange
  split
  · split
    · exact s.cancelCheck_motion n
    · exact s.onMove_motion n _
    all_goals rfl
  · rfl

@[simp] theorem State.endCheck_motion : s.endCheck.motion = s.motion := by
  unfold State.endCheck
  split
  · rfl
  · split
    · rfl
    · exact State.onMove_motion { s with check := none } _ _

@[simp] theorem State.tickCheck_motion : s.tickCheck.motion = s.motion := by
  unfold State.tickCheck
  split
  · rfl
  · split
    · rfl
    · dsimp only
      split
      · exact State.endCheck_motion _
      · rfl

@[simp] theorem State.resetCheck_motion : s.resetCheck.motion = s.motion := by
  unfold State.resetCheck
  split
  · rfl
  · exact State.onMove_motion { s with check := none } _ _

@[simp] theorem State.releaseMove_motion : s.releaseMove.motion = s.motion := by
  unfold State.releaseMove
  split
  · rfl
  · exact s.onMove_motion _ _

@[simp] theorem State.beginCheck_motion (n : Nat) (m : Move) : (s.beginCheck n m).motion = s.motion := by
  simp [State.beginCheck, State.motion]

/-! ### The edit unit (Machine/EditOps) -/

@[simp] theorem State.afterMarks_motion (c : EditCmd) (w : Reason) : (s.afterMarks l c w).motion = s.motion := by
  unfold State.afterMarks
  split
  · exact s.onLink_motion l _
  · rfl

/-- What the edit unit decides leaves the motion as it is. -/
def Verdict.KeepsMotion (s : State) : Verdict → Prop
  | .refuse _ _ => True
  | .accept t _ => t.motion = s.motion
  | .timed t _ => t.motion = s.motion

section
variable {s l}

theorem State.takeMoveNew_motion (slot first last : Nat) (label : List Byte) :
    (s.takeMoveNew slot first last label).KeepsMotion s := by
  unfold State.takeMoveNew
  repeat' split
  all_goals simp [Verdict.KeepsMotion]

theorem State.takeMoveSpan_motion (slot first last : Nat) (e : Option Nat) :
    (s.takeMoveSpan slot first last e).KeepsMotion s := by
  unfold State.takeMoveSpan
  repeat' split
  all_goals simp [Verdict.KeepsMotion, refusesStale]

theorem State.takeMoveLabel_motion (slot : Nat) (label : List Byte) (e : Option Nat) :
    (s.takeMoveLabel slot label e).KeepsMotion s := by
  unfold State.takeMoveLabel
  repeat' split
  all_goals simp [Verdict.KeepsMotion, refusesStale]

theorem State.takeKeysPut_motion (slot track : Nat) (e : Option Nat) :
    (s.takeKeysPut l slot track e).KeepsMotion s := by
  unfold State.takeKeysPut
  repeat' split
  all_goals simp [Verdict.KeepsMotion, refusesStale]

theorem State.takeMarkFirst_motion (slot track frame : Nat) (e : Option Nat) :
    (s.takeMarkFirst l slot track frame e).KeepsMotion s := by
  unfold State.takeMarkFirst
  repeat' split
  all_goals simp [Verdict.KeepsMotion, refusesStale]

theorem State.takeMarkLast_motion (frame : Nat) :
    (s.takeMarkLast l frame).KeepsMotion s := by
  unfold State.takeMarkLast
  repeat' split
  all_goals simp [Verdict.KeepsMotion]

theorem State.takeKeyDrop_motion (e : Option Nat) :
    (s.takeKeyDrop l e).KeepsMotion s := by
  unfold State.takeKeyDrop
  repeat' split
  all_goals simp [Verdict.KeepsMotion, refusesStale]

theorem State.takeTrackClear_motion (slot track : Nat) (e : Option Nat) :
    (s.takeTrackClear l slot track e).KeepsMotion s := by
  unfold State.takeTrackClear
  repeat' split
  all_goals simp [Verdict.KeepsMotion, refusesStale]

theorem State.takeCopy_motion (src dst : Nat) (e : Option Nat) :
    (s.takeCopy src dst e).KeepsMotion s := by
  unfold State.takeCopy
  split
  · trivial
  split
  · trivial
  next m _ =>
  generalize m.blocks = b
  repeat' split
  all_goals simp [Verdict.KeepsMotion, refusesStale]

theorem State.takeRetire_motion (slot : Nat) (e : Option Nat) :
    (s.takeRetire slot e).KeepsMotion s := by
  unfold State.takeRetire
  repeat' split
  all_goals simp [Verdict.KeepsMotion, refusesStale]

theorem State.takeProtect_motion (slot : Nat) (e : Option Nat) :
    (s.takeProtect slot e).KeepsMotion s := by
  unfold State.takeProtect
  repeat' split
  all_goals simp [Verdict.KeepsMotion, refusesStale]

theorem State.takeUnprotect_motion (slot : Nat) (e : Option Nat) :
    (s.takeUnprotect slot e).KeepsMotion s := by
  unfold State.takeUnprotect
  repeat' split
  all_goals simp [Verdict.KeepsMotion, refusesStale]

end

/-- The state an edit is accepted with, or begins with, is made of the updates above. -/
theorem State.judge_motion (c : EditCmd) : (s.judge l c).KeepsMotion s := by
  cases c with
  | moveNew slot first last label => exact State.takeMoveNew_motion slot first last label
  | moveSpan slot first last e => exact State.takeMoveSpan_motion slot first last e
  | moveLabel slot label e => exact State.takeMoveLabel_motion slot label e
  | keysPut slot track e => exact State.takeKeysPut_motion slot track e
  | keyMarkFirst slot track frame e => exact State.takeMarkFirst_motion slot track frame e
  | keyMarkLast frame => exact State.takeMarkLast_motion frame
  | keyDrop e => exact State.takeKeyDrop_motion e
  | trackClear slot track e => exact State.takeTrackClear_motion slot track e
  | moveCopy src dst e => exact State.takeCopy_motion src dst e
  | moveRetire slot e => exact State.takeRetire_motion slot e
  | moveProtect slot e => exact State.takeProtect_motion slot e
  | moveUnprotect slot e => exact State.takeUnprotect_motion slot e

@[simp] theorem State.takeEdit_motion (c : EditCmd) : (s.takeEdit l c).motion = s.motion := by
  have h := s.judge_motion l c
  unfold State.takeEdit
  split
  · simp
  · next t res hj =>
    rw [hj] at h
    rw [State.accept_motion, State.afterMarks_motion, h]
  · next t op hj =>
    rw [hj] at h
    exact (t.afterMarks_motion l c _).trans h

@[simp] theorem State.storeEdit_motion (c : EditCmd) : (s.storeEdit l c).motion = s.motion := by
  unfold State.storeEdit
  split
  · simp
  · split <;> simp

@[simp] theorem State.acknowledge_motion (due : Bool) (x : Answer) : (s.acknowledge l due x).motion = s.motion := by
  unfold State.acknowledge
  dsimp only
  split <;> simp

@[simp] theorem State.takeBlock_motion (b : DataBlock) (due : Bool) : (s.takeBlock l b due).motion = s.motion := by
  unfold State.takeBlock
  split
  · simp
  · exact s.contentChange_motion _

@[simp] theorem State.takeEndMarker_motion : (s.takeEndMarker l).motion = s.motion := by
  unfold State.takeEndMarker
  split <;> simp

@[simp] theorem State.endMarkerArrives_motion : (s.endMarkerArrives l).motion = s.motion := by
  unfold State.endMarkerArrives
  split <;> simp

theorem State.takeWaiting_motion {s t : State} {l : LinkId} (h : s.takeWaiting l = some t) :
    t.motion = s.motion := by
  unfold State.takeWaiting at h
  split at h
  · cases h; simp
  · cases h; simp
  · cases h; simp
  · cases h

@[simp] theorem State.arbitrate_motion (n : Nat) : (s.arbitrate n l).motion = s.motion := by
  induction n generalizing s l with
  | zero => rfl
  | succ n ih =>
    unfold State.arbitrate
    split
    · rfl
    · split
      · next t ht => rw [ih, State.takeWaiting_motion ht]
      · split
        · next t ht => rw [ih, State.takeWaiting_motion ht]
        · rfl

@[simp] theorem State.rewrite_motion (n : Nat) (m k : Move) : (s.rewrite n m k).motion = s.motion := by
  simp [State.rewrite, State.motion]

@[simp] theorem State.remove_motion (n : Nat) (t : TrackId) (f : Nat → Bool) :
    (s.remove n t f).motion = s.motion := by
  unfold State.remove
  split
  · rfl
  · split <;> simp

@[simp] theorem State.applyOp_motion (r : EditRun) : (s.applyOp r).motion = s.motion := by
  unfold State.applyOp
  split
  · unfold State.endBlock
    dsimp only
    split <;> simp
  · exact s.remove_motion _ _ _
  · exact s.remove_motion _ _ _
  · unfold State.endCopy
    split
    · simp [State.motion]
    · rfl
  · simp [State.endRetire, State.motion]

@[simp] theorem State.completeOp_motion (r : EditRun) : (s.completeOp r).motion = s.motion := s.applyOp_motion r

@[simp] theorem State.answerOp_motion (t : State) (r : EditRun) : (t.answerOp r s).motion = t.motion := by
  unfold State.answerOp
  split
  · simp
  all_goals split <;> simp

/-! ### The links' own work (Machine/LinkOps) -/

@[simp] theorem State.endGet_motion (x : Answer) : (s.endGet l x).motion = s.motion := by
  unfold State.endGet State.closeGet
  dsimp only
  split <;>
  · rw [State.answer_motion, State.onLink_motion]
    rfl

@[simp] theorem State.compareGet_motion (n : Nat) (t : TrackId) (g p k : Nat) (b : Bool) :
    (s.compareGet l n t g p k b).motion = s.motion := by
  unfold State.compareGet
  repeat' split
  all_goals simp

@[simp] theorem State.serveCollections_motion : s.serveCollections.motion = s.motion := by
  have h : ∀ (l : LinkId) (t : State), (t.serveCollection l).motion = t.motion := by
    intro l t
    unfold State.serveCollection
    repeat' split
    all_goals simp
  exact (h .b _).trans (h .a s)

@[simp] theorem State.collect_motion : (s.collect l).motion = s.motion := by
  unfold State.collect
  repeat' split
  all_goals simp

@[simp] theorem State.collectSelected_motion : (s.collectSelected l).motion = s.motion := by
  unfold State.collectSelected
  split <;> simp

@[simp] theorem State.endMarkerSelected_motion : (s.endMarkerSelected l).motion = s.motion := by
  unfold State.endMarkerSelected
  split <;> simp

@[simp] theorem State.blockSent_motion : (s.blockSent l).motion = s.motion := by
  unfold State.blockSent
  split <;> simp

@[simp] theorem State.transferTimesOut_motion : (s.transferTimesOut l).motion = s.motion :=
  ((s.closeGet l).onLink_motion l _).trans (s.onLink_motion l _)

@[simp] theorem State.tickLink_motion : (s.tickLink l).motion = s.motion := by
  unfold State.tickLink
  repeat' split
  all_goals simp

@[simp] theorem State.blockReceived_motion (b : DataBlock) : (s.blockReceived l b).motion = s.motion := by
  unfold State.blockReceived
  repeat' split
  all_goals simp [State.blockAnswer]

@[simp] theorem State.selection_motion (bs : List Byte) : (s.selection l bs).motion = s.motion := by
  unfold State.selection State.frameRejected State.blockArrives State.blockAnswer State.rejectFrame
  repeat' split
  all_goals simp

@[simp] theorem State.answerReset_motion : (s.answerReset l).motion = s.motion := by
  unfold State.answerReset
  split <;> simp

/-! ### Initialization and the edit unit's own tick -/

@[simp] theorem State.initializationEnds_motion : s.initializationEnds.motion = s.motion := by
  unfold State.initializationEnds
  split <;> rfl

@[simp] theorem State.tickInit_motion : s.tickInit.motion = s.motion := by
  unfold State.tickInit
  split
  · rfl
  · split
    · exact s.initializationEnds_motion
    · rfl

/-- The part of a servo tick that comes before the edit unit's own. -/
theorem State.beforeEdit_motion : ((s.nextTick.tickLink .a).tickLink .b).tickInit.motion = s.motion := by
  rw [State.tickInit_motion, State.tickLink_motion, State.tickLink_motion]
  rfl

/-- An operation's end, or a tick of it, leaves the motion as it is, but for a soft reset that waited. -/
theorem State.finishEdit_motion : s.finishEdit.motion = s.motion ∨
    ∃ u : State, u.motion = s.motion ∧ s.finishEdit = u.softReset := by
  unfold State.finishEdit
  split
  · exact .inl rfl
  · split
    · exact .inr ⟨_, s.completeOp_motion _, rfl⟩
    · exact .inl (by simp)

theorem State.tickEdit_motion : s.tickEdit.motion = s.motion ∨
    ∃ u : State, u.motion = s.motion ∧ s.tickEdit = u.softReset := by
  unfold State.tickEdit
  split
  · exact .inl rfl
  · split
    · exact s.finishEdit_motion
    · exact .inl rfl

end Sys2Proof.Machine
end

section
/-! SUPPORT. Who holds an axis (R94): what the axis units, the clock, the pass controller and the faults leave of the owners
of the axes, the homes in progress and the axes of the park. -/

namespace Sys2Proof.Machine

variable (s : State) (l : LinkId) (a : AxisId)

/-- Owner of an axis, and whether it holds a home in progress. -/
def Axis.claim (x : Axis) : Owner × Bool := (x.owner, x.home.isSome)

/-- The axes of the park in progress. -/
def State.parkIds (s : State) : List AxisId := (s.park.map (·.ids)).getD []

/-- The axes of the pass record. -/
def State.passIds (s : State) : List AxisId := (s.pass.record.map (·.axisIds)).getD []

/-- The claims on the axes: owner and home of each, and the axes of the park. -/
def State.claims (s : State) : (AxisId → Owner × Bool) × List AxisId := (fun a => (s.axis a).claim, s.parkIds)

theorem State.claims_congr {s t : State} (h : ∀ b, (t.axis b).claim = (s.axis b).claim)
    (hp : t.parkIds = s.parkIds) : t.claims = s.claims := by
  unfold State.claims
  rw [funext h, hp]

theorem State.claim_of_claims {s t : State} (h : t.claims = s.claims) (b : AxisId) :
    (t.axis b).claim = (s.axis b).claim := congrArg (fun c => c.1 b) h

theorem State.parkIds_of_claims {s t : State} (h : t.claims = s.claims) : t.parkIds = s.parkIds :=
  congrArg Prod.snd h

theorem State.claims_of_motion {s t : State} (h : t.motion = s.motion) : t.claims = s.claims :=
  State.claims_congr (fun b => by rw [State.axis_of_motion h]) (by unfold State.parkIds; rw [State.park_of_motion h])

/-! ### Axes, the clock, events and setpoints -/

@[simp] theorem State.raise_claims (e : EventKind) : (s.raise e).claims = s.claims := rfl

@[simp] theorem State.withClock_claims (c : Clock) : (s.withClock c).claims = s.claims := rfl

@[simp] theorem State.withPass_claims (p : Pass) : (s.withPass p).claims = s.claims := rfl

/-- An axis is written but for its owner and its home. -/
theorem State.setAxis_claims (x : Axis) (h : x.claim = (s.axis a).claim) : (s.setAxis a x).claims = s.claims := by
  refine State.claims_congr (fun b => ?_) rfl
  by_cases hb : b = a
  · subst hb
    rw [State.setAxis_axis, h]
  · rw [State.setAxis_axis_ne _ _ hb]

theorem State.onAxis_claims {f : Axis → Axis} (h : ∀ x : Axis, (f x).claim = x.claim) :
    (s.onAxis a f).claims = s.claims := s.setAxis_claims a _ (h _)

theorem State.onAxes_claims {f : Axis → Axis} (h : ∀ x : Axis, (f x).claim = x.claim) :
    (s.onAxes f).claims = s.claims :=
  State.claims_congr (fun b => by rw [State.onAxes_axis, h]) rfl

theorem foldl_claims {α : Type} (f : State → α → State) (hf : ∀ t x, (f t x).claims = t.claims) (xs : List α) :
    (xs.foldl f s).claims = s.claims := by
  induction xs generalizing s with
  | nil => rfl
  | cons x xs ih => exact (ih _).trans (hf s x)

theorem forAxes_onAxis_claims (as : List AxisId) {f : Axis → Axis} (h : ∀ x : Axis, (f x).claim = x.claim) :
    (forAxes as (fun b t => t.onAxis b f) s).claims = s.claims :=
  foldl_claims s _ (fun t b => t.onAxis_claims b h) as

theorem foldAxes_claims {α : Type} (xs : List α) (id : α → AxisId) (f : α → Axis → Axis)
    (h : ∀ x y, (f x y).claim = y.claim) : (xs.foldl (fun t x => t.onAxis (id x) (f x)) s).claims = s.claims :=
  foldl_claims s _ (fun t x => t.onAxis_claims (id x) (h x)) xs

@[simp] theorem State.easeSetpoints_claims (g : GroupEase) (k : Nat) : (s.easeSetpoints g k).claims = s.claims :=
  foldAxes_claims s g.axes (·.axis) _ (fun _ _ => by rfl)

@[simp] theorem State.handToCreep_claims (g : GroupEase) : (s.handToCreep g).claims = s.claims :=
  foldAxes_claims s g.axes (·.axis) _ (fun _ _ => by rfl)

theorem Axis.creepTick_claim (x : Axis) : x.creepTick.claim = x.claim := by
  unfold Axis.creepTick
  split <;> rfl

@[simp] theorem State.groupCreepTick_claims (g : GroupEase) : (s.groupCreepTick g).claims = s.claims :=
  forAxes_onAxis_claims s _ Axis.creepTick_claim

@[simp] theorem State.writeSetpoints_claims (r : PassRecord) (p : Int) :
    (s.writeSetpoints r p).claims = s.claims := by
  refine State.claims_congr (fun b => ?_) ?_
  · have h := s.writeSetpoints_axis r p b
    exact (congrArg Axis.claim h :)
  · exact (congrArg State.parkIds (s.writeSetpoints_frame r p) :)

theorem Axis.idleTick_claim (x : Axis) : x.idleTick.claim = x.claim := by
  unfold Axis.idleTick
  dsimp only
  repeat' split
  all_goals rfl

@[simp] theorem State.tickAxis_claims : (s.tickAxis a).claims = s.claims := by
  unfold State.tickAxis
  dsimp only
  split
  · split <;> exact s.setAxis_claims a _ rfl
  all_goals exact s.setAxis_claims a _ (Axis.idleTick_claim _)

/-! ### Records -/

theorem Axis.appliedStaged_claim (x : Axis) : x.appliedStaged.claim = x.claim := rfl

theorem State.applyRecord_claims (r : AxisRecord) : (s.applyRecord a r).claims = s.claims := by
  refine State.claims_congr (fun b => ?_) ?_
  · rw [State.applyRecord_axis]
    exact State.claim_of_claims (s.onAxis_claims a (fun x => by rw [Axis.applyRecord_eq]; rfl)) b
  · exact (congrArg State.parkIds (s.applyRecord_frame a r) :)

@[simp] theorem State.applyStaged_claims : (s.applyStaged a).claims = s.claims := by
  refine State.claims_congr (fun b => ?_) ?_
  · by_cases hb : b = a
    · subst hb
      rw [State.applyStaged_axis, Axis.appliedStaged_claim]
    · rw [State.applyStaged_axis_ne _ _ hb]
  · exact (congrArg State.parkIds (s.applyStaged_frame a) :)

@[simp] theorem State.applyStagedAll_claims (as : List AxisId) : (s.applyStagedAll as).claims = s.claims :=
  foldl_claims s _ (fun t b => t.applyStaged_claims b) _

/-! ### The report, the end of a run, frame starts, ramps and stops -/

@[simp] theorem State.note_claims (f : Conditions → Conditions) : (s.note f).claims = s.claims := rfl

@[simp] theorem State.clearReport_claims (r : PassRecord) : (s.clearReport r).claims = s.claims :=
  State.onAxes_claims _ (fun _ => rfl)

@[simp] theorem State.endRun_claims (o : RunOutcome) (c : Option ReportCause) : (s.endRun o c).claims = s.claims :=
  rfl

@[simp] theorem State.finish_claims (e : Option RunEnd) : (s.finish e).claims = s.claims := by
  unfold State.finish
  split <;> simp

@[simp] theorem State.writeAndFinish_claims (r : PassRecord) (e : Option RunEnd) :
    (s.writeAndFinish r e).claims = s.claims := by
  unfold State.writeAndFinish
  split <;> simp

@[simp] theorem State.frameStart_claims (n : Int) : (s.frameStart n).1.claims = s.claims :=
  (congrArg State.claims (s.frameStart_frame n) :)

@[simp] theorem State.phaseMoves_claims (p : Int) : (s.phaseMoves p).1.claims = s.claims :=
  (congrArg State.claims (s.phaseMoves_frame p) :)

@[simp] theorem State.tickClocking_claims : s.tickClocking.1.claims = s.claims :=
  (congrArg State.claims s.tickClocking_frame :)

@[simp] theorem State.stopRequest_claims (hs : Nat) : (s.stopRequest hs).1.claims = s.claims := by
  unfold State.stopRequest State.followerStop State.clockStop
  dsimp only
  repeat' split
  all_goals rfl

@[simp] theorem State.followerStop_claims (hs : Nat) : (s.followerStop hs).1.claims = s.claims := by
  unfold State.followerStop State.clockStop
  dsimp only
  repeat' split
  all_goals rfl

/-! ### Follower mode -/

@[simp] theorem State.loseSync_claims : s.loseSync.claims = s.claims := rfl

@[simp] theorem State.loseLock_claims : s.loseLock.claims = s.claims := rfl

@[simp] theorem State.followerExpires_claims : s.followerExpires.claims = s.claims := by
  unfold State.followerExpires
  split <;> rfl

@[simp] theorem State.expireBefore_claims (n : Nat) : (s.expireBefore n).claims = s.claims := by
  unfold State.expireBefore
  repeat' split
  all_goals simp

@[simp] theorem State.tickLoss_claims : s.tickLoss.claims = s.claims := by
  unfold State.tickLoss
  repeat' split
  all_goals simp

@[simp] theorem State.tickFollowing_claims : s.tickFollowing.1.claims = s.claims := by
  unfold State.tickFollowing
  split <;> simp

@[simp] theorem State.snap_claims : s.snap.1.claims = s.claims := s.phaseMoves_claims _

@[simp] theorem State.followedEdge_claims (r : PassRecord) (e : Option Nat) (n : Nat) :
    (s.followedEdge r e n).claims = s.claims := by
  unfold State.followedEdge State.overspeedStop
  dsimp only
  repeat' split
  all_goals simp

@[simp] theorem State.relock_claims (r : PassRecord) : (s.relock r).claims = s.claims := by
  simp [State.relock]

@[simp] theorem State.cameraEdge_claims (n : Nat) : (s.cameraEdge n).claims = s.claims := by
  unfold State.cameraEdge
  dsimp only
  repeat' split
  all_goals simp

/-! ### Rolling and stepping -/

@[simp] theorem State.roll_claims (r : PassRecord) : (s.roll r).claims = s.claims := by
  unfold State.roll
  dsimp only
  split <;> simp

@[simp] theorem State.withStepping_claims (t : Stepping) : (s.withStepping t).claims = s.claims := rfl

@[simp] theorem State.beginStepRun_claims (r : PassRecord) : (s.beginStepRun r).claims = s.claims :=
  s.clearReport_claims r

@[simp] theorem State.beginStep_claims (f : StepFields) : (s.beginStep f).claims = s.claims := rfl

@[simp] theorem State.beginExposure_claims (f : StepFields) : (s.beginExposure f).claims = s.claims := rfl

@[simp] theorem State.exposureCompleted_claims (r : PassRecord) (f : StepFields) :
    (s.exposureCompleted r f).claims = s.claims := by
  unfold State.exposureCompleted
  dsimp only
  repeat' split
  all_goals rfl

@[simp] theorem State.stepReady_claims : s.stepReady.claims = s.claims := rfl

@[simp] theorem State.exposureOff_claims : s.exposureOff.claims = s.claims := rfl

@[simp] theorem State.exposureTimedOut_claims : s.exposureTimedOut.claims = s.claims := by
  simp [State.exposureTimedOut]

@[simp] theorem State.exposureElapsed_claims (r : PassRecord) (f : StepFields) :
    (s.exposureElapsed r f).claims = s.claims := by
  unfold State.exposureElapsed
  split <;> simp

@[simp] theorem State.stepArrives_claims (f : StepFields) : (s.stepArrives f).claims = s.claims := by
  unfold State.stepArrives
  dsimp only
  repeat' split
  all_goals rfl

@[simp] theorem State.tickStep_claims (r : PassRecord) (f : StepFields) : (s.tickStep r f).claims = s.claims := by
  unfold State.tickStep
  split
  · split
    · rfl
    · dsimp only
      split
      · exact (State.stepArrives_claims _ f).trans (State.writeSetpoints_claims _ r _)
      · exact State.writeSetpoints_claims _ r _
  · dsimp only
    split <;> simp
  · dsimp only
    split <;> simp
  · simp
  · rfl

@[simp] theorem State.abortRun_claims (r : PassRecord) : (s.abortRun r).claims = s.claims := by
  simp [State.abortRun]

@[simp] theorem State.requestStepAbort_claims : s.requestStepAbort.claims = s.claims := by
  unfold State.requestStepAbort
  split <;> rfl

@[simp] theorem State.askSteps_claims (r : PassRecord) (f : StepFields) (n : Nat) (d : Direction) :
    (s.askSteps r f n d).claims = s.claims := by
  unfold State.askSteps
  dsimp only
  split <;> split <;> simp

@[simp] theorem State.expose_claims (r : PassRecord) (f : StepFields) : (s.expose r f).claims = s.claims := by
  unfold State.expose
  split <;> simp

/-! ### The approach and the pass's tick -/

@[simp] theorem State.approachGivenUp_claims : s.approachGivenUp.claims = s.claims := by
  refine State.claims_congr (fun b => ?_) ?_
  · exact (congrArg Axis.claim (s.approachGivenUp_axis b) :)
  · exact (congrArg State.parkIds s.approachGivenUp_frame :)

@[simp] theorem State.beginApproach_claims (es : List EaseAxis) (d : Nat) :
    (s.beginApproach es d).claims = s.claims := by
  unfold State.beginApproach
  split <;> rfl

@[simp] theorem State.stopApproach_claims : s.stopApproach.claims = s.claims := by
  unfold State.stopApproach
  repeat' split
  all_goals simp

@[simp] theorem State.tickApproach_claims : s.tickApproach.claims = s.claims := by
  unfold State.tickApproach
  split
  · rfl
  · next g _ =>
    split
    · dsimp only
      split <;> simp
    · have h := s.easeSetpoints_claims g (g.elapsed + 1)
      dsimp only
      split <;> exact h

@[simp] theorem State.tickPass_claims : s.tickPass.claims = s.claims := by
  unfold State.tickPass State.tickRun
  dsimp only
  repeat' split
  all_goals simp

@[simp] theorem State.faultPass_claims (c : ReportCause) : (s.faultPass c).claims = s.claims := by
  refine State.claims_congr (fun b => ?_) ?_
  · exact (congrArg Axis.claim (s.faultPass_axis c b) :)
  · exact (congrArg State.parkIds (s.faultPass_frame c) :)

end Sys2Proof.Machine
end

section
/-! SUPPORT. The owners of the axes agree with those who hold them (R94): the operations that give an axis an owner or
release it, and every row of the command table. -/

namespace Sys2Proof.Machine

variable {s t u : State} {l : LinkId} {a : AxisId}

/-- Each axis is owned by PASS, PARK or HOME exactly when that owner holds it (R94). -/
structure State.Owned (s : State) : Prop where
  pass : ∀ a, (s.axis a).owner = .pass ↔ a ∈ s.passIds
  park : ∀ a, (s.axis a).owner = .park ↔ a ∈ s.parkIds
  home : ∀ a, (s.axis a).owner = .home ↔ (s.axis a).home.isSome = true

theorem State.ownersAgree_iff : s.ownersAgree = true ↔ s.Owned := by
  have hall : s.ownersAgree = true ↔ ∀ a, ((s.axis a).owner = .pass ↔ a ∈ s.passIds) ∧
      ((s.axis a).owner = .park ↔ a ∈ s.parkIds) ∧
      ((s.axis a).owner = .home ↔ (s.axis a).home.isSome = true) := by
    simp only [State.ownersAgree, State.passIds, State.parkIds, List.all_eq_true, allAxes_mem, decide_eq_true_eq,
      List.contains_iff_mem, true_implies]
  rw [hall]
  exact ⟨fun h => ⟨fun a => (h a).1, fun a => (h a).2.1, fun a => (h a).2.2⟩,
    fun h a => ⟨h.pass a, h.park a, h.home a⟩⟩

/-- The owners go on agreeing with those who hold the axes. -/
def State.OwnersKept (s t : State) : Prop := s.Owned → t.Owned

theorem State.OwnersKept.refl (s : State) : s.OwnersKept s := id

theorem State.OwnersKept.trans (h : s.OwnersKept t) (k : t.OwnersKept u) : s.OwnersKept u := fun hs => k (h hs)

/-- The claims and the pass record are as they were. -/
theorem State.OwnersKept.of_claims (hr : t.pass.record = s.pass.record) (hc : t.claims = s.claims) :
    s.OwnersKept t := by
  have hclaim : ∀ b, (t.axis b).owner = (s.axis b).owner ∧ (t.axis b).home.isSome = (s.axis b).home.isSome :=
    fun b => Prod.mk.inj (State.claim_of_claims hc b)
  intro h
  refine ⟨fun b => ?_, fun b => ?_, fun b => ?_⟩
  · rw [(hclaim b).1, State.passIds, hr]
    exact h.pass b
  · rw [(hclaim b).1, State.parkIds_of_claims hc]
    exact h.park b
  · rw [(hclaim b).1, (hclaim b).2]
    exact h.home b

theorem State.OwnersKept.of_kept (hk : StoreKept s t) (hc : t.claims = s.claims) : s.OwnersKept t :=
  .of_claims hk.record hc

theorem State.OwnersKept.of_motion (h : t.motion = s.motion) : s.OwnersKept t :=
  .of_claims (by rw [State.pass_of_motion h]) (State.claims_of_motion h)

theorem State.onAxis_ownersKept {f : Axis → Axis} (h : ∀ x : Axis, (f x).claim = x.claim) :
    s.OwnersKept (s.onAxis a f) := .of_claims rfl (s.onAxis_claims a h)

/-- An operation made for each axis of a list keeps the agreement when it does for each axis. -/
theorem forAxes_ownersKept (f : AxisId → State → State) (h : ∀ b (t : State), t.OwnersKept (f b t))
    (as : List AxisId) (s : State) : s.OwnersKept (forAxes as f s) :=
  forAxes_inv s s.OwnersKept f (fun b t ht => ht.trans (h b t)) as (.refl s)

/-- With no owner, no home, no park and no pass record there is nothing to disagree on. -/
theorem State.Owned.of_free (ho : ∀ a, (s.axis a).owner = .none) (hh : ∀ a, (s.axis a).home = none)
    (hp : s.park = none) (hr : s.pass.record = none) : s.Owned := by
  refine ⟨fun a => ?_, fun a => ?_, fun a => ?_⟩
  · simp [ho, State.passIds, hr]
  · simp [ho, State.parkIds, hp]
  · simp [ho, hh]

/-- An axis without an owner, or with another, is not in the hands of the holder. -/
theorem State.Owned.notMem_passIds (h : s.Owned) (ho : (s.axis a).owner ≠ .pass) : a ∉ s.passIds :=
  fun hm => ho ((h.pass a).2 hm)

theorem State.Owned.notMem_parkIds (h : s.Owned) (ho : (s.axis a).owner ≠ .park) : a ∉ s.parkIds :=
  fun hm => ho ((h.park a).2 hm)

theorem State.Owned.home_none (h : s.Owned) (ho : (s.axis a).owner ≠ .home) : (s.axis a).home = none := by
  simpa [h.home a] using ho

/-! ### Homes begin and end (R96, R98 to R101) -/

/-- One axis is written, and nothing of the park or the pass record. -/
theorem State.Owned.setAxis {x : Axis} (h : s.Owned) (hpass : x.owner = .pass ↔ a ∈ s.passIds)
    (hpark : x.owner = .park ↔ a ∈ s.parkIds) (hhome : x.owner = .home ↔ x.home.isSome = true) :
    (s.setAxis a x).Owned := by
  have hids : (s.setAxis a x).passIds = s.passIds ∧ (s.setAxis a x).parkIds = s.parkIds := ⟨rfl, rfl⟩
  refine ⟨fun b => ?_, fun b => ?_, fun b => ?_⟩ <;> by_cases hb : b = a
  · subst hb
    rwa [State.setAxis_axis, hids.1]
  · rw [State.setAxis_axis_ne _ _ hb, hids.1]
    exact h.pass b
  · subst hb
    rwa [State.setAxis_axis, hids.2]
  · rw [State.setAxis_axis_ne _ _ hb, hids.2]
    exact h.park b
  · subst hb
    rwa [State.setAxis_axis]
  · rw [State.setAxis_axis_ne _ _ hb]
    exact h.home b

/-- A home ends: its axis, owned by HOME before, is unowned and without a home. -/
theorem State.Owned.releaseHome {x : Axis} (h : s.Owned) (ho : (s.axis a).owner = .home)
    (hx : x.claim = (.none, false)) : (s.setAxis a x).Owned := by
  obtain ⟨hxo, hxh⟩ := Prod.mk.inj hx
  have hpass := h.notMem_passIds (a := a) (by simp [ho])
  have hpark := h.notMem_parkIds (a := a) (by simp [ho])
  exact h.setAxis (by simp [hxo, hpass]) (by simp [hxo, hpark]) (by simp [hxo, hxh])

theorem State.homeSucceeds_owned (ho : (s.axis a).owner = .home) : s.OwnersKept (s.homeSucceeds a) := fun h =>
  State.OwnersKept.of_kept (((State.raise_kept _ _)).trans (State.applyStaged_kept _ a))
    (State.applyStaged_claims _ a) (h.releaseHome ho rfl)

theorem State.homeFails_owned (ho : (s.axis a).owner = .home) (c : MotionCause) :
    s.OwnersKept (s.homeFails a c) := fun h =>
  State.OwnersKept.of_kept (((State.raise_kept _ _)).trans (State.applyStaged_kept _ a))
    (State.applyStaged_claims _ a) (h.releaseHome ho rfl)

theorem State.faultHome_owned (c : MotionCause) : s.OwnersKept (s.faultHome a c) := by
  unfold State.faultHome
  split
  · next ho => split <;> exact State.homeFails_owned ho _
  · exact .refl s

theorem Axis.abandonHome_claim (c : MotionCause) (x : Axis) : (x.abandonHome c).claim = x.claim := by
  simp [Axis.claim, Axis.abandonHome, Axis.setTarget]

theorem State.homeAtRest_owned (ho : (s.axis a).owner = .home) : s.OwnersKept (s.homeAtRest a) := by
  unfold State.homeAtRest
  split
  · exact .refl s
  · split
    · exact State.onAxis_ownersKept (fun x => by simp [Axis.claim, Axis.beginBackOff, Axis.setTarget])
    · exact State.homeSucceeds_owned ho
    · exact State.homeFails_owned ho _
    all_goals exact .refl s

theorem State.tickHome_owned : s.OwnersKept (s.tickHome a) := by
  unfold State.tickHome
  split
  · next ho =>
    have hcreep : s.OwnersKept (s.onAxis a Axis.creepTick) := State.onAxis_ownersKept Axis.creepTick_claim
    have ho' : ((s.onAxis a Axis.creepTick).axis a).owner = .home := by
      rw [State.onAxis_axis]
      exact (congrArg Prod.fst (s.axis a).creepTick_claim :).trans ho
    dsimp only
    split
    · exact hcreep.trans (State.onAxis_ownersKept (Axis.abandonHome_claim _))
    · split
      · exact hcreep.trans (State.homeAtRest_owned ho')
      · exact hcreep
  · exact .refl s

/-- A home at its stop is owned by HOME. -/
theorem Axis.atStop_owner {e : Int} {x : Axis} (h : x.atStop e = true) : x.owner = .home := by
  simp only [Axis.atStop, Bool.and_eq_true, decide_eq_true_eq] at h
  exact h.1.1

theorem State.stopReached_owned {e : Int} (h : (s.axis a).atStop e = true) : s.OwnersKept (s.stopReached a) := by
  unfold State.stopReached
  refine .trans ?_ (State.homeSucceeds_owned ?_)
  · exact State.onAxis_ownersKept (fun _ => rfl)
  · rw [State.onAxis_axis]
    exact Axis.atStop_owner h

/-- A home begins on an unowned axis. -/
theorem State.beginHome_owned (ho : (s.axis a).owner = .none) : s.OwnersKept (s.onAxis a Axis.beginHome) := by
  intro h
  have hpass := h.notMem_passIds (a := a) (by simp [ho])
  have hpark := h.notMem_parkIds (a := a) (by simp [ho])
  refine h.setAxis (x := (s.axis a).beginHome) ?_ ?_ ?_
  · simp [Axis.beginHome, hpass]
  · simp [Axis.beginHome, hpark]
  · simp [Axis.beginHome]

/-! ### Several axes take an owner, or are released -/

/-- The axes of a list, none of them owned by HOME, come to be owned by `o`, and the holders' lists with them. -/
theorem State.Owned.handOver {as : List AxisId} {o : Owner} (h : s.Owned) (ho : o ≠ .home)
    (has : ∀ b ∈ as, (s.axis b).owner ≠ .home)
    (hin : ∀ b ∈ as, (t.axis b).owner = o ∧ (t.axis b).home = (s.axis b).home)
    (hout : ∀ b, b ∉ as → t.axis b = s.axis b)
    (hpass : ∀ b, b ∈ t.passIds ↔ if b ∈ as then o = .pass else b ∈ s.passIds)
    (hpark : ∀ b, b ∈ t.parkIds ↔ if b ∈ as then o = .park else b ∈ s.parkIds) : t.Owned := by
  refine ⟨fun b => ?_, fun b => ?_, fun b => ?_⟩ <;> by_cases hb : b ∈ as
  · rw [(hin b hb).1, hpass, if_pos hb]
  · rw [hout b hb, hpass, if_neg hb]
    exact h.pass b
  · rw [(hin b hb).1, hpark, if_pos hb]
  · rw [hout b hb, hpark, if_neg hb]
    exact h.park b
  · rw [(hin b hb).1, (hin b hb).2, h.home_none (has b hb)]
    simp [ho]
  · rw [hout b hb]
    exact h.home b

/-- One function applied to the axes of a list gives each of them the owner `o`, whatever else of the state is written
before. -/
theorem forAxes_handOver (as : List AxisId) {f : Axis → Axis} {o : Owner}
    (hf : ∀ x : Axis, (f x).owner = o ∧ (f x).home = x.home) (hidem : ∀ x, f (f x) = f x) (v : State) :
    (∀ b ∈ as, ((forAxes as (fun b v => v.onAxis b f) v).axis b).owner = o ∧
      ((forAxes as (fun b v => v.onAxis b f) v).axis b).home = (v.axis b).home) ∧
    (∀ b, b ∉ as → (forAxes as (fun b v => v.onAxis b f) v).axis b = v.axis b) ∧
    (forAxes as (fun b v => v.onAxis b f) v).passIds = v.passIds ∧
    (forAxes as (fun b v => v.onAxis b f) v).parkIds = v.parkIds := by
  have hframe := forAxes_onAxis_frame v as f
  refine ⟨fun b hb => ?_, fun b hb => forAxes_onAxis_notMem v as f hb, (congrArg State.passIds hframe :),
    (congrArg State.parkIds hframe :)⟩
  rw [forAxes_onAxis_mem v as f hidem hb]
  exact hf _

/-! ### Parks begin and end (R102 to R105) -/

/-- The park ends, and each of its axes is unowned. -/
theorem State.endPark_owned (c : MotionCause) : s.OwnersKept (s.endPark c) := by
  unfold State.endPark
  split
  · exact .refl s
  · next g hg =>
    have hids : s.parkIds = g.ids := by simp [State.parkIds, hg]
    have hstaged : ∀ v : State, v.OwnersKept ((v.raise .parkDone).applyStagedAll g.ids) := fun v =>
      .of_kept ((v.raise_kept _).trans (State.applyStagedAll_kept _ _)) (State.applyStagedAll_claims _ _)
    intro h
    refine hstaged _ ?_
    have hown : ∀ b ∈ g.ids, (s.axis b).owner = .park := fun b hb => (h.park b).2 (hids ▸ hb)
    obtain ⟨hin, hout, hpass, hpark⟩ := forAxes_handOver g.ids (f := Axis.parkEnded c) (fun _ => ⟨rfl, rfl⟩)
      (fun _ => rfl) ({ s with park := none } : State)
    refine h.handOver (o := .none) (by simp) (fun b hb => by simp [hown b hb]) hin hout (fun b => ?_) (fun b => ?_)
    · rw [hpass]
      split
      · next hb => exact iff_of_false (h.notMem_passIds (by simp [hown b hb])) (by simp)
      · rfl
    · rw [hpark, hids]
      split
      · simp [State.parkIds]
      · next hb => simpa [State.parkIds] using hb

theorem State.tickPark_owned : s.OwnersKept s.tickPark := by
  unfold State.tickPark
  split
  · exact .refl s
  · next g hg =>
    split
    · have hcreep : s.OwnersKept (s.groupCreepTick g) := .of_kept (s.groupCreepTick_kept g) (s.groupCreepTick_claims g)
      dsimp only
      split
      · exact hcreep.trans (State.endPark_owned _)
      · exact hcreep
    · have hease : s.OwnersKept
          { s.easeSetpoints g (g.elapsed + 1) with park := some { g with elapsed := g.elapsed + 1 } } := by
        refine .of_claims (s.easeSetpoints_kept g _).record (State.claims_congr (fun b => ?_) ?_)
        · exact State.claim_of_claims (s.easeSetpoints_claims g _) b
        · simp [State.parkIds, hg, GroupEase.ids]
      dsimp only
      split
      · exact hease.trans (State.endPark_owned _)
      · exact hease

theorem State.faultPark_owned (c : MotionCause) : s.OwnersKept (s.faultPark c) := by
  unfold State.faultPark
  split
  · exact .refl s
  · split <;> exact State.endPark_owned _

theorem State.stopPark_owned : s.OwnersKept s.stopPark := by
  unfold State.stopPark
  split
  · exact .refl s
  · next g hg =>
    split
    · exact .refl s
    · split
      · exact State.endPark_owned _
      · have hstop : s.OwnersKept { s with park := some { g with stopping := true } } :=
          .of_claims rfl (State.claims_congr (fun _ => rfl) (by simp [State.parkIds, hg, GroupEase.ids]))
        exact hstop.trans (.of_kept (State.handToCreep_kept _ g) (State.handToCreep_claims _ g))

/-- A park begins on unowned axes, with no park in progress. -/
theorem State.beginPark_owned {es : List EaseAxis} {d : Nat} (hp : s.park = none)
    (ho : ∀ b ∈ es.map (·.axis), (s.axis b).owner = .none) : s.OwnersKept (s.beginPark es d) := by
  unfold State.beginPark
  split
  · refine .of_claims ?_ (forAxes_onAxis_claims s _ (fun _ => rfl))
    exact (congrArg (fun t => t.pass.record) (forAxes_onAxis_frame s _ _) :)
  · intro h
    obtain ⟨hin, hout, hpass, hpark⟩ := forAxes_handOver (es.map (·.axis)) (f := fun x => { x with owner := .park })
      (fun _ => ⟨rfl, rfl⟩) (fun _ => rfl)
      ({ s with park := some { axes := es, duration := d, elapsed := 0, stopping := false } } : State)
    refine h.handOver (o := .park) (by simp) (fun b hb => by simp [ho b hb]) hin hout (fun b => ?_) (fun b => ?_)
    · rw [hpass]
      split
      · next hb => exact iff_of_false (h.notMem_passIds (by simp [ho b hb])) (by simp)
      · rfl
    · rw [hpark]
      split
      · next hb => simpa [State.parkIds, GroupEase.ids] using hb
      · next hb => simpa [State.parkIds, GroupEase.ids, hp] using hb

/-! ### The pass takes its axes and releases them (R130, R147) -/

theorem State.arm_owned {r : PassRecord} (hr : s.pass.record = none)
    (ho : ∀ b ∈ r.axisIds, (s.axis b).owner = .none) : s.OwnersKept (s.arm r) := by
  intro h
  have hmove := s.onMove_motion r.slot (fun m => { m with state := .bound })
  unfold State.arm
  dsimp only
  generalize s.onMove r.slot (fun m => { m with state := .bound }) = u at hmove
  obtain ⟨hin, hout, -, hpark⟩ := forAxes_handOver r.axisIds (f := fun x => { x with owner := .pass })
    (fun _ => ⟨rfl, rfl⟩) (fun _ => rfl) u
  have hids : s.passIds = [] := by simp [State.passIds, hr]
  simp only [State.axis_of_motion hmove, State.parkIds, State.park_of_motion hmove] at hin hout hpark
  refine h.handOver (o := .pass) (by simp) (fun b hb => by simp [ho b hb]) hin hout (fun b => ?_) (fun b => ?_)
  · simp [State.passIds, State.withPass, hr]
  · have hlist : ∀ v : State, ∀ p : Pass, (v.withPass p).parkIds = v.parkIds := fun _ _ => rfl
    rw [hlist, State.parkIds, hpark]
    split
    · next hb => exact iff_of_false (h.notMem_parkIds (by simp [ho b hb])) (by simp)
    · rfl

theorem State.disarm_owned {r : PassRecord} (hr : s.pass.record = some r) : s.OwnersKept (s.disarm r) := by
  intro h
  have hids : s.passIds = r.axisIds := by simp [State.passIds, hr]
  have hown : ∀ b ∈ r.axisIds, (s.axis b).owner = .pass := fun b hb => (h.pass b).2 (hids ▸ hb)
  have hmove := (s.withClock s.clock.disarmed).releaseMove_motion
  have haxis := State.axis_of_motion hmove
  have hpk := State.park_of_motion hmove
  unfold State.disarm State.releaseAxes
  dsimp only
  generalize (s.withClock s.clock.disarmed).releaseMove = u at hmove haxis hpk
  obtain ⟨hin, hout, -, hpark⟩ := forAxes_handOver r.axisIds (f := fun x => { x with owner := .none })
    (fun _ => ⟨rfl, rfl⟩) (fun _ => rfl) u
  generalize forAxes r.axisIds (fun b v => v.onAxis b (fun x => { x with owner := .none })) u = v at hin hout hpark
  -- the record is dropped before the staged records are applied: their order does not bear on the owners
  have hfree : (v.withPass { v.pass with record := none }).Owned := by
    refine h.handOver (o := .none) (by simp) (fun b hb => by simp [hown b hb]) (as := r.axisIds)
      (fun b hb => ?_) (fun b hb => ?_) (fun b => ?_) (fun b => ?_)
    · simpa [haxis b] using hin b hb
    · simpa [haxis b] using hout b hb
    · simp [State.passIds, State.withPass, hr]
    · have hlist : (v.withPass { v.pass with record := none }).parkIds = s.parkIds := by
        refine Eq.trans hpark ?_
        simp [State.parkIds, hpk]
      rw [hlist]
      split
      · next hb => exact iff_of_false (h.notMem_parkIds (by simp [hown b hb])) (by simp)
      · rfl
  refine State.OwnersKept.of_claims (s := v.withPass { v.pass with record := none }) ?_ ?_ hfree
  · rfl
  · exact v.applyStagedAll_claims r.axisIds

/-! ### The resets (R20, R106) -/

theorem State.softReset_owned (s : State) : s.softReset.Owned := by
  unfold State.softReset
  dsimp only
  generalize s.resetCheck.releaseMove = v
  have hanswer : ∀ u : State, ((u.answerReset .a).answerReset .b).motion = u.motion := fun u => by simp
  have hstaged : ∀ u : State, u.Owned → (u.applyStagedAll allAxes).Owned := fun u =>
    State.OwnersKept.of_kept (u.applyStagedAll_kept _) (u.applyStagedAll_claims _)
  have hclear : ∀ u : State,
      ({ u.onLinks Link.softReset with edit := none, resetWaiting := false } : State).motion = u.motion :=
    fun _ => rfl
  have hfree : (({ v with pass := v.pass.softReset, clock := Clock.reset, park := none } : State).onAxes
      Axis.softReset).Owned :=
    .of_free (fun b => by rw [State.onAxes_axis]; rfl) (fun b => by rw [State.onAxes_axis]; rfl) rfl rfl
  exact State.OwnersKept.of_motion ((hanswer _).trans (hclear _)) (hstaged _ hfree)

theorem State.hardReset_owned (s : State) : s.hardReset.Owned := by
  have haxis : ∀ b, s.hardReset.axis b = (s.axis b).hardReset := fun b => by
    unfold State.hardReset
    split <;> simp [State.axis, State.afterHardReset, State.raise, State.onLinks]
  have hrest : s.hardReset.park = none ∧ s.hardReset.pass.record = none := by
    unfold State.hardReset
    split <;> exact ⟨rfl, rfl⟩
  exact .of_free (fun b => by rw [haxis]; rfl) (fun b => by rw [haxis]; rfl) hrest.1 hrest.2

theorem State.tickEdit_owned : s.OwnersKept s.tickEdit := by
  rcases s.tickEdit_motion with h | ⟨u, -, h⟩
  · exact .of_motion h
  · exact fun _ => h ▸ u.softReset_owned

theorem State.finishEdit_owned : s.OwnersKept s.finishEdit := by
  rcases s.finishEdit_motion with h | ⟨u, -, h⟩
  · exact .of_motion h
  · exact fun _ => h ▸ u.softReset_owned

/-! ### Faults and the step output (R168, R170) -/

theorem State.faultPass_owned (c : ReportCause) : s.OwnersKept (s.faultPass c) :=
  .of_kept (s.faultPass_kept c) (s.faultPass_claims c)

theorem State.tripAxis_owned : s.OwnersKept (s.tripAxis a) := by
  unfold State.tripAxis
  dsimp only
  generalize hx : ({ s.axis a with drive := _, pulses := _, trip := _ } : Axis) = x
  have htrip : s.OwnersKept ((s.setAxis a x).raise .axisTrip) :=
    .of_claims rfl ((State.raise_claims _ _).trans (s.setAxis_claims a x (by rw [← hx]; rfl)))
  split
  · exact htrip.trans (State.faultPass_owned _)
  · exact htrip.trans (State.faultPark_owned _)
  · exact htrip.trans (State.faultHome_owned _)
  · exact htrip

theorem State.onAxes_owned {f : Axis → Axis} (h : ∀ x : Axis, (f x).claim = x.claim) :
    s.OwnersKept (s.onAxes f) := .of_claims rfl (s.onAxes_claims h)

theorem State.allDrivesOff_owned (c : ReportCause) (m : MotionCause) : s.OwnersKept (s.allDrivesOff c m) :=
  (((State.onAxes_owned (f := Axis.driveOff) (fun _ => rfl)).trans (State.faultPass_owned c)).trans
    (State.faultPark_owned m)).trans (forAxes_ownersKept _ (fun _ _ => State.faultHome_owned m) _ _)

theorem State.estopAsserted_owned : s.OwnersKept s.estopAsserted := by
  have h : s.OwnersKept (({ s with estop := true } : State).onAxes Axis.driveOff) :=
    State.OwnersKept.of_claims rfl (State.onAxes_claims { s with estop := true } (fun _ => rfl))
  exact (h.trans (.of_motion (State.raise_motion _ _))).trans (State.allDrivesOff_owned _ _)

theorem State.supplyStop_owned : s.OwnersKept s.supplyStop := by
  unfold State.supplyStop
  split
  · exact .refl s
  · exact State.allDrivesOff_owned _ _

theorem State.compareSupply_owned : s.OwnersKept s.compareSupply := by
  unfold State.compareSupply
  split
  · split
    · exact .of_motion rfl
    · exact .refl s
  · split
    · have h : s.OwnersKept (({ s with supplyLow := true } : State).raise .supplyLow) := .of_motion rfl
      exact h.trans State.supplyStop_owned
    · exact .refl s

theorem State.setSupply_owned (level : Nat) (action : SupplyAction) : s.OwnersKept (s.setSupply level action) := by
  have h : s.OwnersKept ({ s with supplyLevel := level, supplyAction := action } : State).compareSupply :=
    State.OwnersKept.trans (t := { s with supplyLevel := level, supplyAction := action }) (.of_motion rfl)
      State.compareSupply_owned
  unfold State.setSupply
  dsimp only
  split
  · exact h.trans State.supplyStop_owned
  · exact h

theorem State.tickOutput_owned : s.OwnersKept s.tickOutput := by
  have haxes : s.OwnersKept (forAxes allAxes State.tickAxis s) :=
    forAxes_ownersKept _ (fun b t => .of_kept (t.tickAxis_kept b) (t.tickAxis_claims b)) _ s
  have hstops : ∀ v : State, v.OwnersKept v.tickStops := fun v =>
    forAxes_ownersKept _ (fun b t => by
      split
      · next h => exact State.stopReached_owned h.2
      · exact .refl t) _ v
  have htrips : ∀ v : State, v.OwnersKept v.tickTrips := fun v => by
    unfold State.tickTrips
    split
    · exact .refl v
    · exact State.tripAxis_owned
    · refine State.OwnersKept.trans (t := { v with freeIx := v.freeIx + 1 }) (.of_motion rfl)
        (forAxes_ownersKept _ (fun b t => ?_) _ _)
      split
      · exact State.tripAxis_owned
      · exact .refl t
  exact (haxes.trans (hstops _)).trans (htrips _)

theorem State.servoTick_owned : s.OwnersKept s.servoTick := by
  have hbefore : s.OwnersKept ((s.nextTick.tickLink .a).tickLink .b).tickInit := .of_motion s.beforeEdit_motion
  have hclock : ∀ v : State, v.OwnersKept v.tickLoss.tickPass := fun v =>
    .of_kept ((State.tickLoss_kept v).trans (State.tickPass_kept _)) (by simp)
  have hhomes : ∀ v : State, v.OwnersKept v.tickHomes := fun v =>
    forAxes_ownersKept _ (fun _ _ => State.tickHome_owned) _ v
  have hfaults := hbefore.trans (State.tickEdit_owned.trans
    ((State.OwnersKept.of_motion (State.tickCheck_motion _)).trans State.compareSupply_owned))
  exact (hfaults.trans ((hclock _).trans State.tickPark_owned)).trans ((hhomes _).trans State.tickOutput_owned)

end Sys2Proof.Machine
end

section
/-! SUPPORT. Every row of the command table keeps the owners of the axes and those who hold them in agreement (R94). -/

namespace Sys2Proof.Machine

/-! ### How a command is taken -/

section
variable {s t : State} {l : LinkId} {body : State → State}

/-- A command is taken: during initialization it is only answered, and in SERVING its body runs. -/
theorem State.OwnersKept.taken (h : ∀ u : State, u.motion = s.motion → u.OwnersKept (body u)) :
    s.OwnersKept (s.taken l body) := by
  have hd := s.deselect_motion l
  cases hp : s.phase with
  | initializing =>
    rw [State.taken_initializing s l hp]
    exact .of_motion ((State.answer_motion _ l _).trans hd)
  | serving =>
    rw [State.taken_serving s l hp]
    exact (State.OwnersKept.of_motion hd).trans (h _ hd)

theorem State.OwnersKept.taken_motion (h : ∀ u : State, (body u).motion = u.motion) : s.OwnersKept (s.taken l body) :=
  .taken (fun u _ => .of_motion (h u))

theorem State.refuse_owned (w : Reason) : s.OwnersKept (s.refuse l w) := .of_motion (s.refuse_motion l w)

theorem State.OwnersKept.ok (h : s.OwnersKept t) (r : Results) : s.OwnersKept (t.ok l r) :=
  h.trans (.of_motion (t.ok_motion l r))

/-- An end row does its part when it is due, and nothing otherwise. -/
theorem State.OwnersKept.ite (b : Prop) [Decidable b] (h : b → s.OwnersKept t) : s.OwnersKept (if b then t else s) := by
  split
  · next hb => exact h hb
  · exact .refl s

end

/-! ### The axis commands (R84, R91, R93, R96, R102, R104) -/

section
variable (l : LinkId) (s : State)

theorem State.takeRecord_owned (a : AxisId) (r : AxisRecord) : s.OwnersKept (s.takeRecord l a r) := by
  have hstage : s.OwnersKept (s.onAxis a (fun x => { x with staged := some r })) :=
    State.onAxis_ownersKept (fun _ => rfl)
  unfold State.takeRecord
  split
  · exact (State.OwnersKept.of_kept (s.applyRecord_kept a r) (s.applyRecord_claims a r)).ok _
  all_goals exact hstage.ok _

theorem execAxisSet_owned (axis : Nat) (rec : RecordArgs) :
    ∃ t, execAxisSet l axis rec s = .next t ∧ s.OwnersKept t := by
  refine ⟨_, rfl, .taken (fun u _ => ?_)⟩
  split
  · exact u.takeRecord_owned l _ _
  · exact State.refuse_owned _

theorem Axis.enable_claim (x : Axis) : x.enable.claim = x.claim := by
  unfold Axis.enable
  repeat' split
  all_goals rfl

theorem execAxisEnable_owned (axis : Nat) : ∃ t, execAxisEnable l axis s = .next t ∧ s.OwnersKept t := by
  refine ⟨_, rfl, .taken (fun u _ => ?_)⟩
  split
  · exact State.refuse_owned _
  split
  · exact State.refuse_owned _
  split
  · exact State.refuse_owned _
  · exact (State.onAxis_ownersKept Axis.enable_claim).ok _

theorem execAxisDisable_owned (axis : Nat) : ∃ t, execAxisDisable l axis s = .next t ∧ s.OwnersKept t := by
  refine ⟨_, rfl, .taken (fun u _ => ?_)⟩
  split
  · exact State.refuse_owned _
  split
  · exact State.refuse_owned _
  · exact (State.onAxis_ownersKept (f := Axis.driveOff) (fun _ => rfl)).ok _

theorem execAxisHome_owned (axis : Nat) : ∃ t, execAxisHome l axis s = .next t ∧ s.OwnersKept t := by
  refine ⟨_, rfl, .taken (fun u _ => ?_)⟩
  split
  · exact State.refuse_owned _
  split
  · exact State.refuse_owned _
  split
  · exact State.refuse_owned _
  · next ho => exact (State.beginHome_owned (by simpa using ho)).ok _

theorem execAxisPark_owned (targets : List (Nat × Int)) :
    ∃ t, execAxisPark l targets s = .next t ∧ s.OwnersKept t := by
  refine ⟨_, rfl, .taken (fun u _ => ?_)⟩
  split
  · exact State.refuse_owned _
  next qs _ =>
  split
  · exact State.refuse_owned _
  next hpark =>
  split
  · exact State.refuse_owned _
  split
  · exact State.refuse_owned _
  next hfree =>
  split
  · exact State.refuse_owned _
  split
  · exact State.refuse_owned _
  split
  · exact State.refuse_owned _
  · refine (State.beginPark_owned (by simpa using hpark) (fun b hb => ?_)).ok _
    obtain ⟨e, he, rfl⟩ := List.mem_map.1 hb
    obtain ⟨q, hq, rfl⟩ := List.mem_map.1 he
    simp only [List.any_eq_true, decide_eq_true_eq, not_exists, not_and, not_not] at hfree
    exact hfree q hq

theorem execAxisStop_owned (axis : Nat) : ∃ t, execAxisStop l axis s = .next t ∧ s.OwnersKept t := by
  refine ⟨_, rfl, .taken (fun u _ => ?_)⟩
  split
  · exact State.refuse_owned _
  split
  · exact State.refuse_owned _
  · exact .of_motion (u.ok_motion l _)
  · split
    · exact .of_motion (u.ok_motion l _)
    · exact (State.onAxis_ownersKept (Axis.abandonHome_claim _)).ok _
  · exact State.stopPark_owned.ok _

end

/-! ### The pass commands (R130, R132 to R140, R147, R152, R158) -/

section
variable (l : LinkId) (s : State)

/-- PASS_ARM is not refused only when every pass axis is unowned (R129, test 8). -/
theorem State.armRefusal_unowned {m : Move} {sum : Summary} {r : PassRecord} (h : s.armRefusal m sum r = none) :
    ∀ b ∈ r.axisIds, (s.axis b).owner = .none := by
  unfold State.armRefusal at h
  split at h
  · cases h
  split at h
  · cases h
  split at h
  · cases h
  split at h
  · cases h
  next hfree =>
  intro b hb
  obtain ⟨pa, hpa, rfl⟩ := List.mem_map.1 hb
  simp only [List.any_eq_true, decide_eq_true_eq, not_exists, not_and, not_not] at hfree
  exact hfree pa hpa

theorem execPassArm_owned (args : PassArgs) (hs : s.recordAgrees = true) :
    ∃ t, execPassArm l args s = .next t ∧ s.OwnersKept t := by
  refine ⟨_, rfl, .taken (fun u hu => ?_)⟩
  split
  · exact State.refuse_owned _
  next hidle =>
  split
  · exact State.refuse_owned _
  split
  · exact State.refuse_owned _
  split
  · exact State.refuse_owned _
  split
  · split
    · exact State.refuse_owned _
    next hfree =>
    have hrec : u.pass.record = none := by
      rw [State.recordAgrees_iff, ← State.pass_of_motion hu] at hs
      exact hs.1 (by simpa using hidle)
    exact (State.arm_owned hrec (u.armRefusal_unowned hfree)).ok _
  · exact State.refuse_owned _

theorem execPassGoStart_owned : ∃ t, execPassGoStart l s = .next t ∧ s.OwnersKept t := by
  refine ⟨_, rfl, .taken (fun u _ => ?_)⟩
  split
  · exact State.refuse_owned _
  split
  · exact State.refuse_owned _
  split
  · exact State.refuse_owned _
  split
  · exact State.refuse_owned _
  split
  · exact State.refuse_owned _
  · refine (State.OwnersKept.of_claims ?_ (u.beginApproach_claims _ _)).ok _
    unfold State.beginApproach
    split <;> rfl

theorem execPassRun_owned : ∃ t, execPassRun l s = .next t ∧ s.OwnersKept t := by
  refine ⟨_, rfl, .taken (fun u _ => ?_)⟩
  split
  · exact State.refuse_owned _
  next r hr =>
  split
  · exact State.refuse_owned _
  split
  · exact State.refuse_owned _
  split
  · exact State.refuse_owned _
  · exact (State.OwnersKept.of_kept (u.roll_kept r (by simp [hr])) (u.roll_claims r)).ok _

theorem execPassHold_owned : ∃ t, execPassHold l s = .next t ∧ s.OwnersKept t := by
  refine ⟨_, rfl, .taken (fun u _ => ?_)⟩
  split
  · exact State.refuse_owned _
  next r hr =>
  split
  · exact State.refuse_owned _
  split
  · exact State.refuse_owned _
  split
  · exact State.refuse_owned _
  · exact (State.OwnersKept.of_kept (u.hold_kept hr) rfl).ok _

theorem execPassResume_owned : ∃ t, execPassResume l s = .next t ∧ s.OwnersKept t := by
  refine ⟨_, rfl, .taken (fun u _ => ?_)⟩
  split
  · exact State.refuse_owned _
  next r hr =>
  split
  · exact State.refuse_owned _
  split
  · exact State.refuse_owned _
  split
  · exact State.refuse_owned _
  · exact (State.OwnersKept.of_kept (u.resume_kept hr) rfl).ok _

theorem execPassAbort_owned : ∃ t, execPassAbort l s = .next t ∧ s.OwnersKept t := by
  refine ⟨_, rfl, .taken (fun u _ => ?_)⟩
  split
  · exact State.refuse_owned _
  next r hr =>
  have hne : u.pass.record ≠ none := by simp [hr]
  have hend : u.OwnersKept (u.endRun .aborted (some .command)) := .of_claims rfl rfl
  have hrun : u.OwnersKept (u.abortRun r) := .of_kept (u.abortRun_kept r hne) (u.abortRun_claims r)
  cases hst : u.pass.state with
  | idle | armed | atStart | ended => exact State.refuse_owned _
  | approaching =>
    exact (State.OwnersKept.of_kept (u.stopApproach_kept (u.engaged_of_record hr)) u.stopApproach_claims).ok _
  | rolling | running | holding | held | resuming | trailing => exact hrun.ok _
  | stopping => exact .of_motion (u.ok_motion l _)
  | stepMoving => exact (State.OwnersKept.of_kept u.requestStepAbort_kept u.requestStepAbort_claims).ok _
  | stepSettling | exposing | stepReady => exact hend.ok _

theorem execPassDisarm_owned : ∃ t, execPassDisarm l s = .next t ∧ s.OwnersKept t := by
  refine ⟨_, rfl, .taken (fun u _ => ?_)⟩
  split
  · exact State.refuse_owned _
  next r hr =>
  split
  · exact State.refuse_owned _
  split <;> exact (State.disarm_owned hr).ok _

theorem execPassStep_owned (count direction : Nat) :
    ∃ t, execPassStep l count direction s = .next t ∧ s.OwnersKept t := by
  refine ⟨_, rfl, .taken (fun u _ => ?_)⟩
  split
  · exact State.refuse_owned _
  next r hr =>
  split
  · exact State.refuse_owned _
  split
  · exact State.refuse_owned _
  split
  · unfold State.takeSteps
    split
    · exact State.refuse_owned _
    · exact (State.OwnersKept.of_kept (u.askSteps_kept r _ count _ (by simp [hr])) (u.askSteps_claims r _ _ _)).ok _
    · exact State.refuse_owned _
  · exact State.refuse_owned _

theorem execPassExpose_owned : ∃ t, execPassExpose l s = .next t ∧ s.OwnersKept t := by
  refine ⟨_, rfl, .taken (fun u _ => ?_)⟩
  split
  · exact State.refuse_owned _
  next r hr =>
  split
  · exact State.refuse_owned _
  split
  · split
    · exact (State.OwnersKept.of_kept (u.expose_kept r _ (by simp [hr])) (u.expose_claims r _)).ok _
    · exact State.refuse_owned _
  · exact State.refuse_owned _

end

/-! ### The other commands of a link (R18, R50, R174, R188, R190) -/

section
variable (l : LinkId) (s : State)

theorem execEventsClear_owned (kinds : WireEvents) : ∃ t, execEventsClear l kinds s = .next t ∧ s.OwnersKept t := by
  refine ⟨_, rfl, .taken_motion (fun u => ?_)⟩
  split
  · simp
  · simp [State.okEvents]

theorem execCrcMode_owned (mode : Nat) : ∃ t, execCrcMode l mode s = .next t ∧ s.OwnersKept t := by
  refine ⟨_, rfl, .taken_motion (fun u => ?_)⟩
  split <;> simp

theorem execMoveInfo_owned (slot : Nat) : ∃ t, execMoveInfo l slot s = .next t ∧ s.OwnersKept t := by
  refine ⟨_, rfl, .taken_motion (fun u => ?_)⟩
  repeat' split
  all_goals simp

theorem execKeysGet_owned (slot track : Nat) : ∃ t, execKeysGet l slot track s = .next t ∧ s.OwnersKept t := by
  refine ⟨_, rfl, .taken_motion (fun u => ?_)⟩
  repeat' split
  all_goals simp [State.openGet]

theorem execMoveCheck_owned (slot : Nat) (e : Option Nat) :
    ∃ t, execMoveCheck l slot e s = .next t ∧ s.OwnersKept t := by
  refine ⟨_, rfl, .taken_motion (fun u => ?_)⟩
  repeat' split
  all_goals simp

theorem execAxisGet_owned (axis : Nat) : ∃ t, execAxisGet l axis s = .next t ∧ s.OwnersKept t := by
  refine ⟨_, rfl, .taken_motion (fun u => ?_)⟩
  split <;> simp

theorem execReset_owned : ∃ t, execReset l s = .next t ∧ s.OwnersKept t := by
  refine ⟨_, rfl, .taken (fun u _ => ?_)⟩
  unfold State.takeReset
  dsimp only
  split
  · exact fun _ => State.softReset_owned _
  · exact .of_motion (u.onLink_motion l _)

theorem execSupplySet_owned (level action : Nat) :
    ∃ t, execSupplySet l level action s = .next t ∧ s.OwnersKept t := by
  refine ⟨_, rfl, .taken (fun u _ => ?_)⟩
  split
  · exact State.refuse_owned _
  split
  · exact State.refuse_owned _
  · exact (State.setSupply_owned _ _).ok _

end

/-! ### The events -/

section
variable (s : State) (a : AxisId)

theorem State.finishIf_owned (f : EditRun → Bool) : s.OwnersKept (s.finishIf f) := by
  unfold State.finishIf
  split
  · split
    · exact State.finishEdit_owned
    · exact .refl s
  · exact .refl s

theorem State.softResetMoment_owned : s.OwnersKept s.softResetMoment := by
  unfold State.softResetMoment
  split
  · exact .refl s
  · split <;> exact fun _ => State.softReset_owned _

theorem execDriveSettleEnd_owned : ∃ t, execDriveSettleEnd a s = .next t ∧ s.OwnersKept t := by
  refine ⟨_, rfl, ?_⟩
  split
  · exact .ite _ (fun _ => State.onAxis_ownersKept (fun _ => rfl))
  all_goals exact .refl s

theorem execHomeStopReached_owned : ∃ t, execHomeStopReached a s = .next t ∧ s.OwnersKept t := by
  refine ⟨_, rfl, .ite _ (fun h => ?_)⟩
  rw [Bool.and_eq_true] at h
  exact State.stopReached_owned h.2

theorem State.tickPass_owned : s.OwnersKept s.tickPass := .of_kept s.tickPass_kept s.tickPass_claims

theorem State.tickApproach_owned (h : s.engaged) : s.OwnersKept s.tickApproach :=
  .of_kept (s.tickApproach_kept h) s.tickApproach_claims

theorem Axis.switchAsserted_claim (x : Axis) : x.switchAsserted.claim = x.claim := by
  unfold Axis.switchAsserted
  dsimp only
  split
  · simp [Axis.claim, Axis.setLeg, Axis.setTarget]
  · rfl

theorem Axis.switchReleased_claim (x : Axis) : x.switchReleased.claim = x.claim := by
  unfold Axis.switchReleased
  dsimp only
  split
  · simp [Axis.claim, Axis.homeRelease]
  · rfl

theorem execExposureTimeEnd_owned : ∃ t, execExposureTimeEnd s = .next t ∧ s.OwnersKept t := by
  refine ⟨_, rfl, ?_⟩
  split
  · exact .refl s
  · split
    · exact .ite _ (fun _ => s.tickPass_owned)
    · exact .refl s

theorem execExposureTimeout_owned : ∃ t, execExposureTimeout s = .next t ∧ s.OwnersKept t := by
  refine ⟨_, rfl, ?_⟩
  split
  · exact .refl s
  · split
    · exact .ite _ (fun _ => s.tickPass_owned)
    · exact .refl s

theorem execExposureDoneEdge_owned : ∃ t, execExposureDoneEdge s = .next t ∧ s.OwnersKept t := by
  refine ⟨_, rfl, ?_⟩
  split
  · exact .refl s
  · next r f h =>
    split
    · exact .of_kept (s.exposureCompleted_kept r f (by simp [s.exposing_record h])) (s.exposureCompleted_claims r f)
    · exact .refl s

theorem execRollTriggerEdge_owned : ∃ t, execRollTriggerEdge s = .next t ∧ s.OwnersKept t := by
  refine ⟨_, rfl, ?_⟩
  split
  · exact .refl s
  · next r hr => exact .ite _ (fun _ => .of_kept (s.roll_kept r (by simp [hr])) (s.roll_claims r))

theorem execStepAdvanceEdge_owned : ∃ t, execStepAdvanceEdge s = .next t ∧ s.OwnersKept t := by
  refine ⟨_, rfl, ?_⟩
  split
  · exact .refl s
  · next r hr =>
    split
    · exact .refl s
    · exact .ite _ (fun _ => .of_kept (s.askSteps_kept r _ 1 _ (by simp [hr])) (s.askSteps_claims r _ _ _))

theorem State.supplyRead_owned (n : Nat) : s.OwnersKept ({ s with supplyTenths := n } : State).compareSupply :=
  State.OwnersKept.trans (t := { s with supplyTenths := n }) (.of_motion rfl) State.compareSupply_owned

end

/-- Every command answers a next state in which the owners agree with those who hold the axes, if they did before. -/
theorem exec_ownersKept (i : Instr) (s : State) (hs : s.recordAgrees = true) :
    ∃ t, exec i s = .next t ∧ s.OwnersKept t := by
  have hedit : ∀ l c, s.OwnersKept (s.taken l (fun t => t.storeEdit l c)) :=
    fun l c => .taken_motion (fun u => u.storeEdit_motion l c)
  cases i with
  | hardReset => exact ⟨_, rfl, fun _ => s.hardReset_owned⟩
  | initializationEnd => exact ⟨_, rfl, .of_motion s.initializationEnds_motion⟩
  | softReset => exact ⟨_, rfl, s.softResetMoment_owned⟩
  | status l => exact ⟨_, rfl, .of_motion (by simp)⟩
  | eventsRead l => exact ⟨_, rfl, .of_motion (by simp)⟩
  | eventsMask l mask => exact ⟨_, rfl, .taken_motion (fun u => by simp [State.okEvents])⟩
  | eventsClear l kinds => exact execEventsClear_owned l s kinds
  | crcMode l mode => exact execCrcMode_owned l s mode
  | reset l => exact execReset_owned l s
  | faultStatus l => exact ⟨_, rfl, .taken_motion (fun u => u.ok_motion l _)⟩
  | moveInfo l slot => exact execMoveInfo_owned l s slot
  | keysGet l slot track => exact execKeysGet_owned l s slot track
  | moveNew l slot first last label exp => exact ⟨_, rfl, hedit l _⟩
  | moveSpan l slot first last exp => exact ⟨_, rfl, hedit l _⟩
  | moveLabel l slot label exp => exact ⟨_, rfl, hedit l _⟩
  | keysPut l slot track exp => exact ⟨_, rfl, hedit l _⟩
  | keyMarkFirst l slot track frame exp => exact ⟨_, rfl, hedit l _⟩
  | keyMarkLast l frame exp => exact ⟨_, rfl, hedit l _⟩
  | keyDrop l exp => exact ⟨_, rfl, hedit l _⟩
  | trackClear l slot track exp => exact ⟨_, rfl, hedit l _⟩
  | moveCopy l src dst exp => exact ⟨_, rfl, hedit l _⟩
  | moveRetire l slot exp => exact ⟨_, rfl, hedit l _⟩
  | moveProtect l slot exp => exact ⟨_, rfl, hedit l _⟩
  | moveUnprotect l slot exp => exact ⟨_, rfl, hedit l _⟩
  | moveCheck l slot exp => exact execMoveCheck_owned l s slot exp
  | axisSet l axis rec => exact execAxisSet_owned l s axis rec
  | axisGet l axis => exact execAxisGet_owned l s axis
  | axisEnable l axis => exact execAxisEnable_owned l s axis
  | axisDisable l axis => exact execAxisDisable_owned l s axis
  | axisHome l axis => exact execAxisHome_owned l s axis
  | axisPark l targets => exact execAxisPark_owned l s targets
  | axisStop l axis => exact execAxisStop_owned l s axis
  | passArm l args => exact execPassArm_owned l s args hs
  | passGoStart l => exact execPassGoStart_owned l s
  | passRun l => exact execPassRun_owned l s
  | passHold l => exact execPassHold_owned l s
  | passResume l => exact execPassResume_owned l s
  | passAbort l => exact execPassAbort_owned l s
  | passDisarm l => exact execPassDisarm_owned l s
  | passStep l count direction => exact execPassStep_owned l s count direction
  | passExpose l => exact execPassExpose_owned l s
  | passStatus l => exact ⟨_, rfl, .taken_motion (fun u => u.ok_motion l _)⟩
  | clockStatus l => exact ⟨_, rfl, .taken_motion (fun u => u.ok_motion l _)⟩
  | supplySet l level action => exact execSupplySet_owned l s level action
  | commandFrameRejected l bytes => exact ⟨_, rfl, .of_motion (s.selection_motion l bytes)⟩
  | dataBlock l bytes => exact ⟨_, rfl, .of_motion (s.selection_motion l bytes)⟩
  | endMarker l => exact ⟨_, rfl, .of_motion (s.endMarkerSelected_motion l)⟩
  | collectRequest l => exact ⟨_, rfl, .of_motion (s.collectSelected_motion l)⟩
  | linkDeselect l => exact ⟨_, rfl, .of_motion (s.deselect_motion l)⟩
  | dataBlockApplied => exact ⟨_, rfl, s.finishIf_owned _⟩
  | keyDropEnd => exact ⟨_, rfl, s.finishIf_owned _⟩
  | trackClearEnd => exact ⟨_, rfl, s.finishIf_owned _⟩
  | moveCopyEnd => exact ⟨_, rfl, s.finishIf_owned _⟩
  | moveRetireEnd => exact ⟨_, rfl, s.finishIf_owned _⟩
  | checkEnd => exact ⟨_, rfl, .of_motion s.endCheck_motion⟩
  | servoTick => exact ⟨_, rfl, State.servoTick_owned⟩
  | driveSettleEnd axis => exact execDriveSettleEnd_owned s axis
  | putTransferTimeout l => exact ⟨_, rfl, .ite _ (fun _ => .of_motion (s.transferTimesOut_motion l))⟩
  | getTransferTimeout l => exact ⟨_, rfl, .ite _ (fun _ => .of_motion (s.transferTimesOut_motion l))⟩
  | parkEaseEnd => exact ⟨_, rfl, .ite _ (fun _ => State.tickPark_owned)⟩
  | parkStopAtRest => exact ⟨_, rfl, .ite _ (fun _ => State.tickPark_owned)⟩
  | approachEaseEnd => exact ⟨_, rfl, .ite _ (fun h => s.tickApproach_owned (s.approachEaseDue_engaged h))⟩
  | approachStopAtRest => exact ⟨_, rfl, .ite _ (fun h => s.tickApproach_owned (s.approachRestDue_engaged h))⟩
  | homeBrakingAtRest axis => exact ⟨_, rfl, .ite _ (fun _ => State.tickHome_owned)⟩
  | homeFinishingAtRest axis => exact ⟨_, rfl, .ite _ (fun _ => State.tickHome_owned)⟩
  | homeStopReached axis => exact execHomeStopReached_owned s axis
  | homeTravelExceeded axis => exact ⟨_, rfl, .ite _ (fun _ => State.tickHome_owned)⟩
  | homeAbandonAtRest axis => exact ⟨_, rfl, .ite _ (fun _ => State.tickHome_owned)⟩
  | holdRampEnd => exact ⟨_, rfl, .ite _ (fun _ => s.tickPass_owned)⟩
  | resumeRampEnd => exact ⟨_, rfl, .ite _ (fun _ => s.tickPass_owned)⟩
  | stopRampEnd => exact ⟨_, rfl, .ite _ (fun _ => s.tickPass_owned)⟩
  | syncLossTimeout => exact ⟨_, rfl, .ite _ (fun _ => .of_kept s.loseSync_kept s.loseSync_claims)⟩
  | lockTimeout => exact ⟨_, rfl, .ite _ (fun _ => .of_kept s.loseLock_kept s.loseLock_claims)⟩
  | stepEaseEnd => exact ⟨_, rfl, .ite _ (fun _ => s.tickPass_owned)⟩
  | stepSettleEnd => exact ⟨_, rfl, .ite _ (fun _ => s.tickPass_owned)⟩
  | exposureTimeEnd => exact execExposureTimeEnd_owned s
  | exposureTimeout => exact execExposureTimeout_owned s
  | cameraFrameEdge offset => exact ⟨_, rfl, .of_kept (s.cameraEdge_kept _) (s.cameraEdge_claims _)⟩
  | rollTriggerEdge => exact execRollTriggerEdge_owned s
  | stepAdvanceEdge => exact execStepAdvanceEdge_owned s
  | exposureDoneEdge => exact execExposureDoneEdge_owned s
  | estopAssert =>
    refine ⟨_, rfl, ?_⟩
    split
    · exact .refl s
    · exact State.estopAsserted_owned
  | estopRelease => exact ⟨_, rfl, .ite _ (fun _ => .of_claims rfl rfl)⟩
  | supplyMonitorLow tenths => exact ⟨_, rfl, s.supplyRead_owned tenths⟩
  | supplyMonitorOk tenths => exact ⟨_, rfl, s.supplyRead_owned tenths⟩
  | homeSwitchAssert axis =>
    refine ⟨_, rfl, ?_⟩
    split
    · exact .refl s
    · exact State.onAxis_ownersKept Axis.switchAsserted_claim
  | homeSwitchRelease axis => exact ⟨_, rfl, .ite _ (fun _ => State.onAxis_ownersKept Axis.switchReleased_claim)⟩
  | encoderTransition axis positive => exact ⟨_, rfl, State.onAxis_ownersKept (fun _ => rfl)⟩
  | getDataBlockSent l => exact ⟨_, rfl, .of_motion (s.blockSent_motion l)⟩

/-! ### The pass record (R127) -/

theorem State.recordAgrees_of_pass {s t : State} (h : t.pass = s.pass) (hs : s.recordAgrees = true) :
    t.recordAgrees = true := by
  rwa [State.recordAgrees, h]

theorem EditEffect.recordAgrees {s t : State} {c : Option EditCmd} (h : EditEffect s c t)
    (hs : s.recordAgrees = true) : t.recordAgrees = true := by
  have hset : ∀ {u : State} (n : Nat) (o : Option Move), u.recordAgrees = true → (u.setMove n o).recordAgrees = true :=
    fun n o hu => State.recordAgrees_of_pass (State.setMove_pass _ n o) hu
  cases h with
  | kept h => exact h.idle hs
  | created _ _ _ _ _ _ _ ht => exact ht.idle (hset _ _ hs)
  | altered _ _ _ hu _ _ _ ht => exact ht.idle (hset _ _ (hu.idle hs))
  | guarded _ _ _ _ _ _ ht => exact ht.idle (hset _ _ hs)
  | begun _ _ hu => exact State.recordAgrees_of_pass rfl (hu.idle hs)
  | copies _ _ _ _ _ _ _ _ _ hu => exact State.recordAgrees_of_pass rfl (hu.idle (hset _ _ hs))

/-- The pass record is present exactly outside IDLE: the edit unit and the operations of the store do not write it, and
arming, disarming and the resets write it with the state. -/
theorem State.recordAgrees_invariant : StoreInvariant (fun s => s.recordAgrees = true) where
  kept h := h.idle
  edit _ h := h.recordAgrees
  complete _ := State.recordAgrees_of_pass (State.pass_of_motion (State.completeOp_motion _ _))
  softReset := by
    intro s _ _
    obtain ⟨u, hu, hs⟩ := s.softReset_cases
    exact hs.idle (State.recordAgrees_of_pass rfl (hu.idle rfl))
  arm _ _ _ _ _ := by simp [State.recordAgrees, State.arm, State.withPass]
  disarm _ _ := by simp [State.recordAgrees, State.disarm, State.withPass]
  hardReset s := by
    obtain ⟨-, -, -, -, hp⟩ := s.hardReset_store
    rw [State.recordAgrees, hp]
    rfl

/-- Settles O54. An operation that gives an axis an owner, or takes it, writes the axis and its holder together; every
other one leaves the claims and the pass record as they are. -/
theorem ownersStayInAgreement : Obligations.OwnersStayInAgreement := by
  intro s t ho hr hs
  refine ⟨?_, State.recordAgrees_invariant.step hs hr⟩
  rw [State.ownersAgree_iff] at ho ⊢
  unfold Machine.step at hs
  split at hs
  · cases hs
    exact ho
  · next c rest hp =>
    obtain ⟨u, hu, hk⟩ := exec_ownersKept c (s.withPending rest) hr
    rw [hu] at hs
    cases hs
    exact hk (State.OwnersKept.of_claims (s := s) rfl rfl ho)

end Sys2Proof.Machine
end

section
/-! SUPPORT. Commands that name one axis: the axis a number names, what AXIS_SET, AXIS_ENABLE and
AXIS_DISABLE do to it. -/

namespace Sys2Proof.Machine

/-! ### The axis a number names -/

@[simp] theorem axisOf_val (a : AxisId) : axisOf a.val = some a := dif_pos a.isLt

theorem axisOf_none {n : Nat} (h : 15 < n) : axisOf n = none := dif_neg (by omega)

theorem axisOf_some {n : Nat} {a : AxisId} (h : axisOf n = some a) : n = a.val := by
  unfold axisOf at h
  split at h
  · exact congrArg Fin.val (Option.some.inj h)
  · cases h

/-! ### Writing one axis -/

section
variable (s : State) (a : AxisId)

theorem State.setAxis_self : s.setAxis a (s.axis a) = s := by
  simp [State.setAxis, State.axis]

theorem State.onAxis_eq_setAxis {f : Axis → Axis} {x : Axis} (h : f (s.axis a) = x) :
    s.onAxis a f = s.setAxis a x := by rw [← h, State.onAxis]

theorem State.setAxis_setAxis (x y : Axis) : (s.setAxis a x).setAxis a y = s.setAxis a y := by
  simp [State.setAxis]

end

/-! ### Records (R82 to R84) -/

theorem homeMethodOf_eq (n : Nat) :
    homeMethodOf n = if n ≤ 1 then some (if n = 0 then .switch else .stop) else none := by
  match n with
  | 0 => rfl
  | 1 => rfl
  | n + 2 => rw [if_neg (by omega)]; rfl

theorem homeDirectionOf_eq (n : Nat) :
    homeDirectionOf n = if n ≤ 1 then some (if n = 0 then .negative else .positive) else none := by
  match n with
  | 0 => rfl
  | 1 => rfl
  | n + 2 => rw [if_neg (by omega)]; rfl

theorem recordOf_eq (x : RecordArgs) :
    recordOf x = if x.homeMethod ≤ 1 ∧ x.homeDirection ≤ 1 ∧ recordInRange x = true then some
      { softLow := x.softLow, softHigh := x.softHigh, vmax := x.vmax, amax := x.amax, jmax := x.jmax,
        vc := x.vc, ac := x.ac, pmax := x.pmax, feMax := x.feMax.toNat, feWarn := x.feWarn.toNat,
        homeMethod := if x.homeMethod = 0 then .switch else .stop,
        homeDirection := if x.homeDirection = 0 then .negative else .positive,
        homeSpeed := x.homeSpeed, homeOffset := x.homeOffset, searchTravel := x.searchTravel.toNat,
        settleTime := x.settleTime } else none := by
  rw [recordOf, homeMethodOf_eq, homeDirectionOf_eq]
  by_cases hm : x.homeMethod ≤ 1
  · by_cases hd : x.homeDirection ≤ 1
    · simp only [hm, hd, if_true, true_and]
    · simp [hm, hd]
  · simp [hm]

theorem recordOf_isSome_iff (x : RecordArgs) :
    (recordOf x).isSome = true ↔
      x.homeMethod ≤ 1 ∧ x.homeDirection ≤ 1 ∧ recordInRange x = true := by
  rw [recordOf_eq]
  split
  · next h => simpa using h
  · next h => simpa using h

theorem recordInRange_iff (x : RecordArgs) :
    recordInRange x = true ↔
      -1073741824 ≤ x.softLow ∧ x.softLow < x.softHigh ∧
      x.softHigh ≤ 1073741823 ∧ x.vmax ≤ x.pmax * 2000 ∧ x.amax ≤ 1000000000 ∧ x.jmax ≤ 4000000 ∧
      x.vc ≤ x.vmax ∧ x.ac ≤ x.amax ∧ x.pmax ≤ 2000 ∧ 1 ≤ x.feMax ∧ x.feMax ≤ 1073741823 ∧
      0 ≤ x.feWarn ∧ x.feWarn ≤ x.feMax ∧ x.homeSpeed ≤ x.vc ∧ (1 ≤ x.homeSpeed ∨ x.vc = 0) ∧
      x.softLow ≤ x.homeOffset ∧ x.homeOffset ≤ x.softHigh ∧ 1 ≤ x.searchTravel ∧
      x.searchTravel ≤ 2147483647 ∧ x.settleTime ≤ 4000 := by
  simp only [recordInRange, Bool.and_eq_true, decide_eq_true_eq, and_assoc]
  rfl

section
variable (s : State) (l : LinkId)

theorem State.takeRecord_applied {a : AxisId} (r : AxisRecord) (h : (s.axis a).owner = .none) :
    s.takeRecord l a r = (s.applyRecord a r).ok l (.axisSet false) := by
  rw [State.takeRecord, h]

theorem State.takeRecord_staged {a : AxisId} (r : AxisRecord) (h : (s.axis a).owner ≠ .none) :
    s.takeRecord l a r = (s.setAxis a { s.axis a with staged := some r }).ok l (.axisSet true) := by
  unfold State.takeRecord
  cases ho : (s.axis a).owner with
  | none => exact absurd ho h
  | home => rfl
  | park => rfl
  | pass => rfl

theorem exec_axisSet_refused (hs : s.phase = .serving) (n : Nat) (x : RecordArgs)
    (h : 15 < n ∨ recordOf x = none) :
    exec (.axisSet l n x) s = .next ((s.deselect l).refuse l .range) := by
  show execAxisSet l n x s = _
  rw [execAxisSet, State.taken_serving s l hs]
  rcases h with h | h
  · rw [axisOf_none h]
  · rw [h]
    cases axisOf n <;> rfl

theorem exec_axisSet (hs : s.phase = .serving) (a : AxisId) {x : RecordArgs} {r : AxisRecord}
    (h : recordOf x = some r) :
    exec (.axisSet l a.val x) s = .next ((s.deselect l).takeRecord l a r) := by
  show execAxisSet l a.val x s = _
  rw [execAxisSet, State.taken_serving s l hs, axisOf_val, h]

/-! ### The drive (R91, R93) -/

theorem State.enableBarred_eq_true_iff :
    s.enableBarred = true ↔ s.estop = true ∨ (s.supplyLow = true ∧ s.supplyAction = .stop) := by
  simp [State.enableBarred]

@[simp] theorem State.deselect_enableBarred : (s.deselect l).enableBarred = s.enableBarred := by
  simp [State.enableBarred]

theorem Axis.enable_settleZero {x : Axis} (h : x.drive = .off ∨ x.drive = .tripped)
    (h0 : x.conf.settleTime = 0) : x.enable = { x with
      drive := .on, setpoint := saturateCount x.encoder, stepPosition := saturateCount x.encoder } := by
  rcases h with h | h <;> simp [Axis.enable, h, h0, Axis.driveOn, Axis.follow]

theorem Axis.enable_settles {x : Axis} (h : x.drive = .off ∨ x.drive = .tripped)
    (h0 : x.conf.settleTime ≠ 0) : x.enable = { x with drive := .settling x.conf.settleTime } := by
  rcases h with h | h <;> simp [Axis.enable, h, h0]

theorem Axis.enable_enabled {x : Axis} (h : x.drive = .on ∨ ∃ n, x.drive = .settling n) : x.enable = x := by
  rcases h with h | ⟨n, h⟩ <;> simp [Axis.enable, h]

theorem exec_axisEnable_range (hs : s.phase = .serving) {n : Nat} (h : 15 < n) :
    exec (.axisEnable l n) s = .next ((s.deselect l).refuse l .range) := by
  show execAxisEnable l n s = _
  rw [execAxisEnable, State.taken_serving s l hs, axisOf_none h]

theorem exec_axisEnable (hs : s.phase = .serving) (a : AxisId) :
    exec (.axisEnable l a.val) s = .next
      (if (s.axis a).conf.unset = true then (s.deselect l).refuse l .notConfigured
       else if s.enableBarred = true then (s.deselect l).refuse l .estop
       else ((s.deselect l).setAxis a (s.axis a).enable).ok l .none) := by
  show execAxisEnable l a.val s = _
  simp [execAxisEnable, State.taken_serving s l hs, State.onAxis]

theorem exec_axisDisable_range (hs : s.phase = .serving) {n : Nat} (h : 15 < n) :
    exec (.axisDisable l n) s = .next ((s.deselect l).refuse l .range) := by
  show execAxisDisable l n s = _
  rw [execAxisDisable, State.taken_serving s l hs, axisOf_none h]

theorem exec_axisDisable (hs : s.phase = .serving) (a : AxisId) :
    exec (.axisDisable l a.val) s = .next
      (if (s.axis a).owner ≠ .none then (s.deselect l).refuse l .owned
       else ((s.deselect l).setAxis a (s.axis a).driveOff).ok l .none) := by
  show execAxisDisable l a.val s = _
  simp [execAxisDisable, State.taken_serving s l hs, State.onAxis]

end

/-- Settles O27, by the record as one conditional and by the owner of the axis. -/
theorem axisSetTestsTheRecordAndAppliesOrStagesIt :
    Obligations.AxisSetTestsTheRecordAndAppliesOrStagesIt := by
  unfold Obligations.AxisSetTestsTheRecordAndAppliesOrStagesIt
  refine ⟨fun x => ?_, fun s l x hs => ⟨fun n h => ?_, fun a r hr => ⟨fun ho => ?_, fun ho => ?_⟩⟩,
    fun x r hr => ?_⟩
  · rw [recordOf_isSome_iff, recordInRange_iff]
  · exact exec_axisSet_refused s l hs n x h
  · rw [exec_axisSet s l hs a hr, State.takeRecord_applied _ _ _ (by simpa using ho)]
  · rw [exec_axisSet s l hs a hr, State.takeRecord_staged _ _ _ (by simpa using ho), State.deselect_axis]
  · rw [recordOf_eq] at hr
    split at hr
    · exact (Option.some.inj hr).symm
    · cases hr

/-- Settles O29, by the two tests and then by the state of the drive. -/
theorem axisEnableTestsThenSettles : Obligations.AxisEnableTestsThenSettles := by
  unfold Obligations.AxisEnableTestsThenSettles
  intro s l hs d
  refine ⟨fun n hn => exec_axisEnable_range s l hs hn, fun a => ?_⟩
  rw [exec_axisEnable s l hs a]
  refine ⟨fun hu => by rw [if_pos hu], fun hu => ?_⟩
  rw [if_neg (by simp [hu])]
  refine ⟨fun hb => by rw [if_pos (s.enableBarred_eq_true_iff.2 hb)], fun he hl => ?_⟩
  have hb : ¬ s.enableBarred = true := by
    rw [State.enableBarred_eq_true_iff]
    rintro (h | ⟨h, h'⟩)
    · simp [he] at h
    · rcases hl with hl | hl
      · simp [hl] at h
      · simp [hl] at h'
  rw [if_neg hb]
  refine ⟨fun hd => ⟨fun h0 => ?_, fun h0 => ?_⟩, fun hd => ?_⟩
  · rw [Axis.enable_settleZero hd h0]
  · rw [Axis.enable_settles hd h0]
  · rw [Axis.enable_enabled hd, ← State.deselect_axis s l a, State.setAxis_self]

/-- Settles O30, by the owner of the axis. -/
theorem axisDisableTurnsTheDriveOff : Obligations.AxisDisableTurnsTheDriveOff := by
  unfold Obligations.AxisDisableTurnsTheDriveOff
  intro s l hs
  refine ⟨fun n hn => exec_axisDisable_range s l hs hn, fun a => ?_⟩
  rw [exec_axisDisable s l hs a]
  refine ⟨fun ho => by rw [if_pos ho], fun ho => ⟨_, rfl, ?_⟩⟩
  rw [if_neg (not_not.2 ho)]
  refine ⟨rfl, ?_, ?_, ?_, ?_, fun b hb => ?_⟩
  · simp [Axis.driveOff]
  · simp [Axis.driveOff, Axis.enableOutput]
  · simp [Axis.driveOff]
  · simp [Axis.driveOff]
  · rw [State.ok_axis, State.setAxis_axis_ne _ _ hb, State.deselect_axis]

end Sys2Proof.Machine
end

section
/-! SUPPORT. Applying a record (R85, R65): what becomes of the axis, of the moves with a track on it, and of the
check of such a move. -/

namespace Sys2Proof.Machine

theorem Axis.enableOutput_iff (x : Axis) :
    x.enableOutput = true ↔ x.drive = .on ∨ ∃ n, x.drive = .settling n := by
  unfold Axis.enableOutput
  cases x.drive <;> simp

theorem AxisRecord.limitsDiffer_iff (r t : AxisRecord) :
    r.limitsDiffer t = true ↔ r.vmax ≠ t.vmax ∨ r.amax ≠ t.amax ∨ r.jmax ≠ t.jmax ∨
      r.softLow ≠ t.softLow ∨ r.softHigh ≠ t.softHigh := by
  simp only [AxisRecord.limitsDiffer, Bool.or_eq_true, bne_iff_ne, or_assoc]

section
variable (r : AxisRecord) (x : Axis)

theorem Axis.applyRecord_off (h : x.enableOutput = true ∧ r.unset = true) :
    x.applyRecord r = { x with conf := r, drive := .off, pulses := 0 } := by
  rw [Axis.applyRecord_eq, h.1, h.2]; rfl

theorem Axis.applyRecord_kept (h : ¬(x.enableOutput = true ∧ r.unset = true)) :
    x.applyRecord r = { x with conf := r } := by
  rw [Axis.applyRecord_eq, Bool.eq_false_iff.2 (fun e => h (Bool.and_eq_true_iff.1 e))]; rfl

end

section
variable (s : State) (a : AxisId) (r : AxisRecord)

theorem State.applyRecord_differ (h : (s.axis a).conf.limitsDiffer r = true) :
    s.applyRecord a r = (s.onAxis a (Axis.applyRecord r)).limitsChanged a := if_pos h

theorem State.applyRecord_same (h : ¬ (s.axis a).conf.limitsDiffer r = true) :
    s.applyRecord a r = s.onAxis a (Axis.applyRecord r) := if_neg h

theorem State.applyRecord_axis_self : (s.applyRecord a r).axis a = (s.axis a).applyRecord r := by
  rw [State.applyRecord_axis, State.onAxis_axis]

theorem State.applyRecord_axis_ne {b : AxisId} (h : b ≠ a) : (s.applyRecord a r).axis b = s.axis b := by
  rw [State.applyRecord_axis, State.onAxis_axis_ne _ _ h]

theorem State.applyRecord_move (n : Nat) :
    (s.applyRecord a r).move n =
      if (s.axis a).conf.limitsDiffer r = true then (s.move n).map (Move.relimited a) else s.move n := by
  split
  · next h => rw [s.applyRecord_differ a r h, State.limitsChanged_move, State.onAxis_move]
  · next h => rw [s.applyRecord_same a r h, State.onAxis_move]

theorem Move.relimited_untracked {m : Move} (h : ¬ m.hasTrack a = true) : m.relimited a = m := if_neg h

theorem Move.relimited_tracked {m : Move} (h : m.hasTrack a = true) : m.relimited a = m.limitsChanged := if_pos h

/-- The check of a move with a track on the axis ends, with CHECK_DONE on both links. -/
theorem State.limitsChanged_touched (h : s.checkTouches a = true) :
    (s.limitsChanged a).check = none ∧
      ∀ l, ((s.limitsChanged a).link l).flags = (s.link l).flags ||| EventKind.checkDone.bit := by
  rw [State.limitsChanged_eq, if_pos h]
  refine ⟨rfl, fun l => ?_⟩
  rw [State.raise_link]
  cases l <;> rfl

theorem State.limitsChanged_untouched (h : ¬ s.checkTouches a = true) :
    (s.limitsChanged a).check = s.check ∧ ∀ l, (s.limitsChanged a).link l = s.link l := by
  rw [State.limitsChanged_eq, if_neg h]
  exact ⟨rfl, fun l => s.onMoves_link l _⟩

theorem State.checkTouches_of_check {c : CheckRun} {m : Move} (hc : s.check = some c)
    (hm : s.move c.slot = some m) : s.checkTouches a = m.hasTrack a := by
  simp only [State.checkTouches, hc, hm]

end

/-- Settles O28, by whether the drive is enabled, whether the limits differ, and the state of each move. -/
theorem applyingARecordActsOnTheDriveAndTheMoves :
    Obligations.ApplyingARecordActsOnTheDriveAndTheMoves := by
  unfold Obligations.ApplyingARecordActsOnTheDriveAndTheMoves
  intro s a r t off differ
  have hoff : (s.axis a).enableOutput = true ∧ r.unset = true ↔ off := by
    rw [Axis.enableOutput_iff, and_comm]
  have hdiff : (s.axis a).conf.limitsDiffer r = true ↔ differ := AxisRecord.limitsDiffer_iff _ _
  refine ⟨fun h => ?_, fun h => ?_, fun b hb => s.applyRecord_axis_ne a r hb, fun h => ?_,
    fun n m hm => ⟨fun h => ?_, fun hd ht => ?_⟩, fun n hn => ?_, fun c m hd hc hm => ?_⟩
  · rw [s.applyRecord_axis_self, Axis.applyRecord_off _ _ (hoff.2 h)]
  · rw [s.applyRecord_axis_self, Axis.applyRecord_kept _ _ (mt hoff.1 h)]
  · have ht : t = s.onAxis a (Axis.applyRecord r) := s.applyRecord_same a r (mt hdiff.1 h)
    rw [ht]; rfl
  · rw [s.applyRecord_move, hm]
    split
    · next hd => rw [Option.map_some, Move.relimited_untracked _ (fun ht => h ⟨hdiff.1 hd, ht⟩)]
    · rfl
  · rw [s.applyRecord_move, if_pos (hdiff.2 hd), hm, Option.map_some, Move.relimited_tracked _ ht]
    unfold Move.limitsChanged
    refine ⟨fun e => ?_, fun e => ?_, fun e => ?_, fun e => ?_⟩ <;> rw [e] <;> rfl
  · rw [s.applyRecord_move, hn, Option.map_none, ite_self]
  · have ht : t = (s.onAxis a (Axis.applyRecord r)).limitsChanged a := s.applyRecord_differ a r (hdiff.2 hd)
    have htouch := (s.onAxis a (Axis.applyRecord r)).checkTouches_of_check a hc
      (by rw [State.onAxis_move, hm])
    rw [ht]
    refine ⟨fun hm => ?_, fun hm => ?_⟩
    · obtain ⟨hcheck, hlinks⟩ := State.limitsChanged_touched _ a (htouch.trans hm)
      exact ⟨hcheck, fun l => by rw [hlinks, State.onAxis_link, EventKind.checkDone_bit]⟩
    · obtain ⟨hcheck, hlinks⟩ := State.limitsChanged_untouched _ a (by rw [htouch, hm]; decide)
      exact ⟨hcheck.trans hc, fun l => by rw [hlinks, State.onAxis_link]⟩

end Sys2Proof.Machine
end

section
/-! SUPPORT. AXIS_HOME and AXIS_STOP: the first leg of a home, the abandoning of a home, and the stop of a park. -/

namespace Sys2Proof.Machine

/-! ### The first leg (R96, R97) -/

theorem HomeDirection.signed_eq_mul (d : HomeDirection) (v : Nat) : d.signed v = d.signed 1 * v := by
  cases d <;> simp [HomeDirection.signed]

/-- An axis as a home begins in a leg with a target velocity. -/
def Axis.homing (x : Axis) (leg : HomeLeg) (target : Int) : Axis :=
  { x with
    owner := .home, datum := .seeking, home := some { leg := leg, start := x.setpoint, cause := .none }
    creep := some { position := x.setpoint * 65536, velocity := 0, target := target,
                    step := creepStep x.conf.ac } }

section
variable (x : Axis)

theorem Axis.beginHome_eq_homing : x.beginHome = x.homing x.firstLeg.1 x.firstLeg.2 := rfl

theorem Axis.beginHome_searching (hm : x.conf.homeMethod = .switch) (hw : x.homeSwitch = false) :
    x.beginHome = x.homing .searching x.conf.searchVelocity := by
  simp [Axis.beginHome_eq_homing, Axis.firstLeg, hm, hw]

theorem Axis.beginHome_backingOff (hm : x.conf.homeMethod = .switch) (hw : x.homeSwitch = true) :
    x.beginHome = x.homing .backingOff x.conf.backOffVelocity := by
  simp [Axis.beginHome_eq_homing, Axis.firstLeg, hm, hw]

theorem Axis.beginHome_pressing (hm : x.conf.homeMethod = .stop) :
    x.beginHome = x.homing .pressing x.conf.searchVelocity := by
  simp [Axis.beginHome_eq_homing, Axis.firstLeg, hm]

/-! ### A home that AXIS_STOP reaches (R100) -/

theorem Axis.stopIgnored_iff {h : HomeRun} (hh : x.home = some h) :
    x.stopIgnored = true ↔ h.leg = .finishing ∨ h.leg = .abandoning := by
  simp only [Axis.stopIgnored, hh]
  cases h.leg <;> simp

theorem Axis.abandonHome_eq {h : HomeRun} (hh : x.home = some h) (c : MotionCause) :
    x.abandonHome c = { x with
      datum := .unknown, home := some { h with leg := .abandoning, cause := c }
      creep := x.creep.map (fun k => { k with target := 0 }) } := by
  simp [Axis.abandonHome, Axis.setTarget, hh]

end

/-! ### A park that AXIS_STOP reaches (R104) -/

theorem GroupEase.still_iff (g : GroupEase) : g.still = true ↔ ∀ e ∈ g.axes, g.velocity e = 0 := by
  simp [GroupEase.still]

theorem GroupEase.velocity_eq (g : GroupEase) (e : EaseAxis) :
    g.velocity e = (if g.elapsed = 0 then 0 else
      easeOffset e.dist g.duration g.elapsed - easeOffset e.dist g.duration (g.elapsed - 1)) * 65536 := by
  unfold GroupEase.velocity
  split
  · rw [zero_mul]
  · rfl

section
variable (s : State) (g : GroupEase)

theorem State.stopPark_stopping (hg : s.park = some g) (h : g.stopping = true) : s.stopPark = s := by
  simp only [State.stopPark, hg, h, if_true]

theorem State.stopPark_still (hg : s.park = some g) (h : g.stopping = false)
    (hv : ∀ e ∈ g.axes, g.velocity e = 0) : s.stopPark = s.endPark .stopped := by
  simp [State.stopPark, hg, h, g.still_iff.2 hv]

theorem State.stopPark_moving (hg : s.park = some g) (h : g.stopping = false)
    (hv : ∃ e ∈ g.axes, g.velocity e ≠ 0) :
    s.stopPark = { s with park := some { g with stopping := true } }.handToCreep g := by
  have hm : ¬ g.still = true := by
    rw [GroupEase.still_iff]
    obtain ⟨e, he, hne⟩ := hv
    exact fun hall => hne (hall e he)
  simp [State.stopPark, hg, h, hm]

theorem State.handToCreep_frame : { s.handToCreep g with axes := s.axes } = s :=
  foldAxes_frame s g.axes (·.axis) _

theorem State.handToCreep_notMem {b : AxisId} (h : b ∉ g.ids) : (s.handToCreep g).axis b = s.axis b :=
  foldAxes_axis_notMem s g.axes (·.axis) _ h

theorem State.handToCreep_mem (hn : g.ids.Nodup) {e : EaseAxis} (h : e ∈ g.axes) :
    (s.handToCreep g).axis e.axis = { s.axis e.axis with
      creep := some { position := (s.axis e.axis).setpoint * 65536, velocity := g.velocity e, target := 0,
                      step := creepStep (s.axis e.axis).conf.ac } } :=
  foldAxes_axis_mem s g.axes (·.axis)
    (fun e x => { x with creep := some { position := x.setpoint * 65536, velocity := g.velocity e,
                                         target := 0, step := creepStep x.conf.ac } }) hn h

end

/-! ### The two commands -/

section
variable (s : State) (l : LinkId)

theorem exec_axisHome_range (hs : s.phase = .serving) {n : Nat} (h : 15 < n) :
    exec (.axisHome l n) s = .next ((s.deselect l).refuse l .range) := by
  show execAxisHome l n s = _
  rw [execAxisHome, State.taken_serving s l hs, axisOf_none h]

theorem exec_axisHome (hs : s.phase = .serving) (a : AxisId) :
    exec (.axisHome l a.val) s = .next
      (if (s.axis a).drive ≠ .on then (s.deselect l).refuse l .state
       else if (s.axis a).owner ≠ .none then (s.deselect l).refuse l .owned
       else ((s.deselect l).setAxis a (s.axis a).beginHome).ok l .none) := by
  show execAxisHome l a.val s = _
  simp [execAxisHome, State.taken_serving s l hs, State.onAxis]

theorem exec_axisStop_range (hs : s.phase = .serving) {n : Nat} (h : 15 < n) :
    exec (.axisStop l n) s = .next ((s.deselect l).refuse l .range) := by
  show execAxisStop l n s = _
  rw [execAxisStop, State.taken_serving s l hs, axisOf_none h]

theorem exec_axisStop_pass (hs : s.phase = .serving) {a : AxisId} (h : (s.axis a).owner = .pass) :
    exec (.axisStop l a.val) s = .next ((s.deselect l).refuse l .owned) := by
  show execAxisStop l a.val s = _
  simp [execAxisStop, State.taken_serving s l hs, h]

theorem exec_axisStop_unowned (hs : s.phase = .serving) {a : AxisId} (h : (s.axis a).owner = .none) :
    exec (.axisStop l a.val) s = .next ((s.deselect l).ok l .none) := by
  show execAxisStop l a.val s = _
  simp [execAxisStop, State.taken_serving s l hs, h]

theorem exec_axisStop_home (hs : s.phase = .serving) {a : AxisId} (h : (s.axis a).owner = .home) :
    exec (.axisStop l a.val) s = .next
      (if (s.axis a).stopIgnored = true then (s.deselect l).ok l .none
       else ((s.deselect l).setAxis a ((s.axis a).abandonHome .stopped)).ok l .none) := by
  show execAxisStop l a.val s = _
  simp [execAxisStop, State.taken_serving s l hs, State.onAxis, h]

theorem exec_axisStop_park (hs : s.phase = .serving) {a : AxisId} (h : (s.axis a).owner = .park) :
    exec (.axisStop l a.val) s = .next ((s.deselect l).stopPark.ok l .none) := by
  show execAxisStop l a.val s = _
  simp [execAxisStop, State.taken_serving s l hs, h]

end

/-- Settles O31, by the first leg of the home, and for AXIS_STOP by the owner of the axis. -/
theorem homesBeginAndMotionsStop : Obligations.HomesBeginAndMotionsStop := by
  unfold Obligations.HomesBeginAndMotionsStop
  refine ⟨fun s l hs => ?_, fun s l hs => ?_, fun s g hn => ?_⟩
  · intro d
    refine ⟨fun n hn => exec_axisHome_range s l hs hn, fun a => ?_⟩
    intro x sign speed began
    have hsign : sign = x.conf.homeDirection.signed 1 := by
      simp only [sign]
      cases x.conf.homeDirection <;> rfl
    have hsearch : sign * speed = x.conf.searchVelocity := by
      rw [hsign, ← HomeDirection.signed_eq_mul]; rfl
    have hback : -(sign * (max 1 (speed / 8) : Nat)) = x.conf.backOffVelocity := by
      rw [hsign, ← HomeDirection.signed_eq_mul]; rfl
    have hbegan (leg : HomeLeg) (target : Int) :
        began leg target = (d.setAxis a (x.homing leg target)).ok l .none := rfl
    simp only [hbegan, hsearch, hback]
    rw [exec_axisHome s l hs a]
    refine ⟨fun hd => by rw [if_pos hd], fun hd => ⟨fun ho => ?_, fun ho => ?_⟩⟩
    · rw [if_neg (not_not.2 hd), if_pos ho]
    · rw [if_neg (not_not.2 hd), if_neg (not_not.2 ho)]
      refine ⟨fun hm hw => ?_, fun hm hw => ?_, fun hm => ?_⟩
      · rw [Axis.beginHome_searching _ hm hw]
      · rw [Axis.beginHome_backingOff _ hm hw]
      · rw [Axis.beginHome_pressing _ hm]
  · intro d
    refine ⟨fun n hn => exec_axisStop_range s l hs hn, fun a => ⟨exec_axisStop_pass s l hs,
      exec_axisStop_unowned s l hs, fun h ho hh => ⟨fun hleg => ?_, fun hf ha => ?_⟩,
      fun g ho hg => ⟨fun hst => ?_, fun hst => ⟨fun hv => ?_, fun hv => ?_⟩⟩⟩⟩
    · rw [exec_axisStop_home s l hs ho, if_pos ((Axis.stopIgnored_iff _ hh).2 hleg)]
    · have hi : ¬ (s.axis a).stopIgnored = true := by
        rw [Axis.stopIgnored_iff _ hh]
        exact fun hor => hor.elim hf ha
      rw [exec_axisStop_home s l hs ho, if_neg hi, Axis.abandonHome_eq _ hh]
    · rw [exec_axisStop_park s l hs ho, State.stopPark_stopping _ g (by simpa using hg) hst]
    · rw [exec_axisStop_park s l hs ho, State.stopPark_still _ g (by simpa using hg) hst hv]
    · rw [exec_axisStop_park s l hs ho, State.stopPark_moving _ g (by simpa using hg) hst hv]
  · intro t
    refine ⟨fun e he => ?_, fun b hb => s.handToCreep_notMem g hb, s.handToCreep_frame g⟩
    intro x last
    exact ⟨g.velocity_eq e, by rw [s.handToCreep_mem g hn he, g.velocity_eq e]; rfl⟩

end Sys2Proof.Machine
end

section
/-! SUPPORT. AXIS_PARK (R102): the targets a park takes, the tests in their order, and the park's beginning. -/

namespace Sys2Proof.Machine

/-! ### The targets of a park -/

theorem allSome_none {α β : Type} {f : α → Option β} {xs : List α} {x : α} (hx : x ∈ xs) (h : f x = none) :
    allSome f xs = none := by
  induction xs with
  | nil => cases hx
  | cons y ys ih =>
    unfold allSome
    rcases List.mem_cons.1 hx with rfl | hx
    · rw [h]
    · rw [ih hx]
      cases f y <;> rfl

theorem allSome_map {α β : Type} {f : α → Option β} {g : β → α} (h : ∀ y, f (g y) = some y) (ys : List β) :
    allSome f (ys.map g) = some ys := by
  induction ys with
  | nil => rfl
  | cons y ys ih => rw [List.map_cons, allSome, h, ih]

theorem inCount_iff (x : Int) : inCount x = true ↔ -1073741824 ≤ x ∧ x ≤ 1073741823 := by
  simp only [inCount, decide_eq_true_eq]
  rfl

/-- Test 1 of R102 on the list of targets, but for the axes' numbers. -/
def parkListOk (ts : List (Nat × Int)) : Prop :=
  ts ≠ [] ∧ ts.length ≤ 16 ∧ (ts.map (·.1)).Nodup ∧ ∀ q ∈ ts, -1073741824 ≤ q.2 ∧ q.2 ≤ 1073741823

theorem parkTargets_eq_none_of_not_listOk {ts : List (Nat × Int)} (h : ¬ parkListOk ts) :
    parkTargets ts = none := by
  refine if_pos ?_
  by_contra hc
  refine h ?_
  simpa [parkListOk, inCount_iff, and_assoc] using hc

theorem parkTargets_eq_allSome {ts : List (Nat × Int)} (h : parkListOk ts) :
    parkTargets ts = allSome (fun q => (axisOf q.1).map (fun a => (a, q.2))) ts := by
  refine if_neg ?_
  simpa [parkListOk, inCount_iff, and_assoc] using h

theorem parkTargets_none {ts : List (Nat × Int)}
    (h : ts = [] ∨ 16 < ts.length ∨ (∃ q ∈ ts, 15 < q.1) ∨ ¬(ts.map (·.1)).Nodup ∨
      (∃ q ∈ ts, q.2 < -1073741824 ∨ 1073741823 < q.2)) : parkTargets ts = none := by
  by_cases hok : parkListOk ts
  · obtain ⟨hne, hlen, hnodup, hcount⟩ := hok
    rcases h with h | h | ⟨q, hq, h⟩ | h | ⟨q, hq, h⟩
    · exact absurd h hne
    · exact absurd hlen (by omega)
    · rw [parkTargets_eq_allSome ⟨hne, hlen, hnodup, hcount⟩]
      exact allSome_none hq (by rw [axisOf_none h, Option.map_none])
    · exact absurd hnodup h
    · have := hcount q hq
      omega
  · exact parkTargets_eq_none_of_not_listOk hok

theorem parkTargets_some {qs : List (AxisId × Int)} (hne : qs ≠ []) (hlen : qs.length ≤ 16)
    (hn : (qs.map (·.1)).Nodup) (hc : ∀ q ∈ qs, -1073741824 ≤ q.2 ∧ q.2 ≤ 1073741823) :
    parkTargets (qs.map (fun q => (q.1.val, q.2))) = some qs := by
  have hnodup : ((qs.map (fun q => (q.1.val, q.2))).map (·.1)).Nodup := by
    have h := hn.map Fin.val_injective
    rw [List.map_map] at h ⊢
    exact h
  have hcount : ∀ p ∈ qs.map (fun q => (q.1.val, q.2)), -1073741824 ≤ p.2 ∧ p.2 ≤ 1073741823 :=
    List.forall_mem_map.2 hc
  rw [parkTargets_eq_allSome ⟨by simpa using hne, by simpa using hlen, hnodup, hcount⟩]
  exact allSome_map (fun q => by rw [axisOf_val, Option.map_some]) qs

/-! ### The command -/

section
variable (s : State) (l : LinkId)

theorem State.deselect_easeAxes (qs : List (AxisId × Int)) : (s.deselect l).easeAxes qs = s.easeAxes qs := by
  simp [State.easeAxes]

theorem State.deselect_groupDuration (es : List EaseAxis) :
    (s.deselect l).groupDuration es = s.groupDuration es := by
  simp [State.groupDuration]

theorem State.easeAxes_ids (qs : List (AxisId × Int)) : (s.easeAxes qs).map (·.axis) = qs.map (·.1) := by
  simp [State.easeAxes]

theorem State.beginPark_atTargets {es : List EaseAxis} (n : Nat) (h : ∀ e ∈ es, e.dist = 0) :
    s.beginPark es n = (forAxes (es.map (·.axis)) (fun a t => t.onAxis a (fun x =>
      { x with lastResult := { outcome := .parkDone, cause := .none } })) s).raise .parkDone :=
  if_pos (by simpa using h)

theorem State.beginPark_claims_axes {es : List EaseAxis} (n : Nat) (h : ∃ e ∈ es, e.dist ≠ 0) :
    s.beginPark es n = forAxes (es.map (·.axis)) (fun a t => t.onAxis a (fun x => { x with owner := .park }))
      { s with park := some { axes := es, duration := n, elapsed := 0, stopping := false } } :=
  if_neg (by simpa using h)

theorem exec_axisPark_range (hs : s.phase = .serving) {ts : List (Nat × Int)} (h : parkTargets ts = none) :
    exec (.axisPark l ts) s = .next ((s.deselect l).refuse l .range) := by
  show execAxisPark l ts s = _
  rw [execAxisPark, State.taken_serving s l hs, h]

theorem exec_axisPark (hs : s.phase = .serving) {ts : List (Nat × Int)} {qs : List (AxisId × Int)}
    (h : parkTargets ts = some qs) :
    exec (.axisPark l ts) s = .next (
      if s.park.isSome = true then (s.deselect l).refuse l .busyOther
      else if qs.any (fun q => decide ((s.axis q.1).drive ≠ .on)) = true then (s.deselect l).refuse l .state
      else if qs.any (fun q => decide ((s.axis q.1).owner ≠ .none)) = true then (s.deselect l).refuse l .owned
      else if qs.any (fun q => decide ((s.axis q.1).datum ≠ .known)) = true then
        (s.deselect l).refuse l .notHomed
      else if qs.any (fun q => !(s.axis q.1).conf.admits q.2) = true then (s.deselect l).refuse l .limits
      else (s.groupDuration (s.easeAxes qs)).elim ((s.deselect l).refuse l .range)
        (fun n => ((s.deselect l).beginPark (s.easeAxes qs) n).ok l .none)) := by
  show execAxisPark l ts s = _
  rw [execAxisPark, State.taken_serving s l hs, h]
  simp only [State.deselect_easeAxes, State.deselect_groupDuration, State.deselect_axis, State.deselect_park]
  cases s.groupDuration (s.easeAxes qs) <;> rfl

theorem AxisRecord.admits_eq_false_iff (r : AxisRecord) (x : Int) :
    (!r.admits x) = true ↔ x < r.softLow ∨ r.softHigh < x := by
  simp only [AxisRecord.admits, Bool.not_eq_true', decide_eq_false_iff_not]
  omega

end

/-- The AXIS_PARK part of O32: the tests of R102 in order, then the park's beginning. -/
theorem axisPark_tests (s : State) (l : LinkId) (hs : s.phase = .serving) {ts : List (Nat × Int)}
    {qs : List (AxisId × Int)} (h : parkTargets ts = some qs) :
    let d := s.deselect l
    let es := s.easeAxes qs
    (s.park.isSome = true → exec (.axisPark l ts) s = .next (d.refuse l .busyOther)) ∧
    (s.park = none →
      ((∃ q ∈ qs, (s.axis q.1).drive ≠ .on) → exec (.axisPark l ts) s = .next (d.refuse l .state)) ∧
      ((∀ q ∈ qs, (s.axis q.1).drive = .on) →
        ((∃ q ∈ qs, (s.axis q.1).owner ≠ .none) →
          exec (.axisPark l ts) s = .next (d.refuse l .owned)) ∧
        ((∀ q ∈ qs, (s.axis q.1).owner = .none) →
          ((∃ q ∈ qs, (s.axis q.1).datum ≠ .known) →
            exec (.axisPark l ts) s = .next (d.refuse l .notHomed)) ∧
          ((∀ q ∈ qs, (s.axis q.1).datum = .known) →
            ((∃ q ∈ qs, q.2 < (s.axis q.1).conf.softLow ∨ (s.axis q.1).conf.softHigh < q.2) →
              exec (.axisPark l ts) s = .next (d.refuse l .limits)) ∧
            ((∀ q ∈ qs, (s.axis q.1).conf.softLow ≤ q.2 ∧ q.2 ≤ (s.axis q.1).conf.softHigh) →
              (s.groupDuration es = none → exec (.axisPark l ts) s = .next (d.refuse l .range)) ∧
              (∀ n, s.groupDuration es = some n →
                ((∀ e ∈ es, e.dist = 0) → exec (.axisPark l ts) s = .next
                  (((forAxes (qs.map (·.1)) (fun a t => t.onAxis a (fun x => { x with
                    lastResult := { outcome := .parkDone, cause := .none } })) d).raise
                      .parkDone).ok l .none)) ∧
                ((∃ e ∈ es, e.dist ≠ 0) → exec (.axisPark l ts) s = .next
                  ((forAxes (qs.map (·.1)) (fun a t => t.onAxis a (fun x => { x with owner := .park }))
                    { d with park := (some
                      { axes := es, duration := n, elapsed := 0, stopping := false }) }).ok l
                        .none)))))))) := by
  intro d es
  rw [exec_axisPark s l hs h]
  refine ⟨fun hp => by rw [if_pos hp], fun hp => ?_⟩
  rw [if_neg (by simp [hp])]
  refine ⟨fun hd => by rw [if_pos (by simpa using hd)], fun hd => ?_⟩
  rw [if_neg (by simpa using hd)]
  refine ⟨fun ho => by rw [if_pos (by simpa using ho)], fun ho => ?_⟩
  rw [if_neg (by simpa using ho)]
  refine ⟨fun hk => by rw [if_pos (by simpa using hk)], fun hk => ?_⟩
  rw [if_neg (by simpa using hk)]
  refine ⟨fun hr => ?_, fun hr => ?_⟩
  · rw [if_pos]
    simpa only [List.any_eq_true, AxisRecord.admits_eq_false_iff] using hr
  rw [if_neg (by
    simp only [List.any_eq_true, AxisRecord.admits_eq_false_iff, not_exists, not_and, not_or, not_lt]
    exact hr)]
  refine ⟨fun hn => by rw [hn]; rfl, fun n hn => ?_⟩
  rw [hn, Option.elim_some]
  refine ⟨fun h0 => ?_, fun h0 => ?_⟩
  · rw [State.beginPark_atTargets _ n h0, State.easeAxes_ids]
  · rw [State.beginPark_claims_axes _ n h0, State.easeAxes_ids]

end Sys2Proof.Machine
end

section
/-! SUPPORT. The ticks and the ends of a park (R102 to R104) and the end of a drive's settling (R92). -/

namespace Sys2Proof.Machine

/-! ### Event flags that stay SET -/

/-- The flags of some event kinds are SET on both links. -/
def State.Flagged (b : EventBits) (s : State) : Prop := ∀ l, (s.link l).flags &&& b = b

theorem EventKind.parkDone_bit : EventKind.parkDone.bit = 0x100#17 := by decide

section
variable {b : EventBits} {s : State} (a : AxisId)

theorem State.Flagged.or {t : State} (h : s.Flagged b) (c : EventBits)
    (ht : ∀ l, (t.link l).flags = (s.link l).flags ||| c) : t.Flagged b := by
  intro l
  rw [ht l, BitVec.and_comm, BitVec.and_or_distrib_left, BitVec.and_comm b, h l]
  ext i
  simp +contextual

theorem State.Flagged.of_link {t : State} (h : s.Flagged b) (ht : ∀ l, t.link l = s.link l) : t.Flagged b :=
  fun l => by rw [ht l, h l]

theorem State.flagged_raise (s : State) (e : EventKind) : (s.raise e).Flagged e.bit := by
  intro l
  rw [State.raise_link]
  show ((s.link l).flags ||| e.bit) &&& e.bit = e.bit
  ext i
  simp +contextual

theorem State.Flagged.applyRecord (h : s.Flagged b) (r : AxisRecord) : (s.applyRecord a r).Flagged b := by
  have hax : (s.onAxis a (Axis.applyRecord r)).Flagged b := h.of_link (s.onAxis_link · a _)
  by_cases hd : (s.axis a).conf.limitsDiffer r = true
  · rw [s.applyRecord_differ a r hd]
    by_cases ht : (s.onAxis a (Axis.applyRecord r)).checkTouches a = true
    · exact hax.or _ (State.limitsChanged_touched _ a ht).2
    · exact hax.of_link (State.limitsChanged_untouched _ a ht).2
  · rw [s.applyRecord_same a r hd]
    exact hax

theorem State.Flagged.applyStaged (h : s.Flagged b) : (s.applyStaged a).Flagged b := by
  unfold State.applyStaged
  split
  · exact h
  · exact (h.of_link (s.onAxis_link · a _)).applyRecord a _

theorem State.Flagged.applyStagedAll (h : s.Flagged b) (as : List AxisId) : (s.applyStagedAll as).Flagged b :=
  forAxes_inv s (State.Flagged b) _ (fun c _ ht => ht.applyStaged c) _ h

end

/-! ### The end of a park -/

section
variable (s : State) (c : MotionCause) {g : GroupEase}

/-- A park's end before the staged records of its axes are applied. -/
def State.released (s : State) (c : MotionCause) (g : GroupEase) : State :=
  (forAxes g.ids (fun a t => t.onAxis a (Axis.parkEnded c)) { s with park := none }).raise .parkDone

theorem State.endPark_eq (hg : s.park = some g) :
    s.endPark c = (s.released c g).applyStagedAll g.ids := by
  simp only [State.endPark, hg, State.released]

theorem State.released_axis (b : AxisId) :
    (s.released c g).axis b = if b ∈ g.ids then (s.axis b).parkEnded c else s.axis b := by
  rw [State.released, State.raise_axis]
  split
  · next h => rw [forAxes_onAxis_mem _ _ (Axis.parkEnded c) (fun _ => rfl) h]; rfl
  · next h => rw [forAxes_onAxis_notMem _ _ _ h]; rfl

theorem State.released_frame :
    { s.released c g with park := s.park, axes := s.axes, linkA := s.linkA, linkB := s.linkB } = s := by
  have h := forAxes_onAxis_frame { s with park := none } g.ids (Axis.parkEnded c)
  rw [State.mk.injEq] at h ⊢
  simp_all [State.released]

theorem State.released_link (l : LinkId) : (s.released c g).link l = (s.link l).raise .parkDone := by
  have h := forAxes_onAxis_frame { s with park := none } g.ids (Axis.parkEnded c)
  rw [State.released, State.raise_link]
  refine congrArg _ ?_
  cases l
  · exact (congrArg State.linkA h :)
  · exact (congrArg State.linkB h :)

theorem State.endPark_park : (s.endPark c).park = none := by
  cases hg : s.park with
  | none => simp only [State.endPark, hg]
  | some g =>
    have h := forAxes_onAxis_frame { s with park := none } g.ids (Axis.parkEnded c)
    have hr : (s.released c g).park = none := (congrArg State.park h :)
    rw [s.endPark_eq c hg, ← hr]
    exact (congrArg State.park (State.applyStagedAll_frame (s.released c g) g.ids) :)

theorem State.endPark_flagged (hg : s.park = some g) : (s.endPark c).Flagged 0x100#17 := by
  rw [s.endPark_eq c hg, ← EventKind.parkDone_bit]
  exact (State.flagged_raise _ .parkDone).applyStagedAll g.ids

theorem State.endPark_noneStaged (hg : s.park = some g) (h : ∀ a ∈ g.ids, (s.axis a).staged = none) :
    s.endPark c = s.released c g := by
  rw [s.endPark_eq c hg]
  refine State.applyStagedAll_none _ _ (fun a ha => ?_)
  rw [State.released_axis, if_pos ha]
  exact h a ha

end

/-- What the end of a park leaves as it was: the axes beside its own, all but the store, the check and the
links, and with no staged record these too, but for PARK_DONE on the links. -/
def State.ParkEndKeeps (s t : State) (g : GroupEase) : Prop :=
  (∀ b, b ∉ g.ids → t.axis b = s.axis b) ∧
  { t with park := s.park, axes := s.axes, slots := s.slots, check := s.check, linkA := s.linkA,
           linkB := s.linkB } = s ∧
  ((∀ a ∈ g.ids, (s.axis a).staged = none) → t.slots = s.slots ∧ t.check = s.check ∧
    ∀ l, t.link l = { s.link l with flags := (s.link l).flags ||| 0x100#17 })

/-- The last tick of a park moves setpoints and counts, and then the park ends. -/
theorem State.parkEndKeeps_endPark {s u : State} {g g' : GroupEase} (c : MotionCause)
    (hg : u.park = some g') (hids : g'.ids = g.ids) (hframe : { u with park := s.park, axes := s.axes } = s)
    (haxis : ∀ b, b ∉ g.ids → u.axis b = s.axis b)
    (hstaged : ∀ a ∈ g.ids, (u.axis a).staged = (s.axis a).staged) : s.ParkEndKeeps (u.endPark c) g := by
  unfold State.ParkEndKeeps
  rw [← hids] at haxis hstaged ⊢
  refine ⟨fun b hb => ?_, ?_, fun hs => ?_⟩
  · rw [State.endPark_axis u c hg, if_neg hb, haxis b hb]
  · have h := u.endPark_frame c
    rw [State.mk.injEq] at h hframe ⊢
    simp_all
  · rw [State.endPark_noneStaged u c hg (fun a ha => (hstaged a ha).trans (hs a ha))]
    have h := u.released_frame c (g := g')
    have hslots : (u.released c g').slots = u.slots := (congrArg State.slots h :)
    have hcheck : (u.released c g').check = u.check := (congrArg State.check h :)
    refine ⟨hslots.trans (congrArg State.slots hframe :), hcheck.trans (congrArg State.check hframe :),
      fun l => ?_⟩
    have hlink : u.link l = s.link l := by
      cases l
      · exact (congrArg State.linkA hframe :)
      · exact (congrArg State.linkB hframe :)
    rw [State.released_link, hlink, Link.raise, EventKind.parkDone_bit]

/-! ### The park's tick -/

section
variable (s : State) {g : GroupEase}

/-- A tick of a park's ease, its end aside. -/
def State.easedOn (s : State) (g : GroupEase) : State :=
  { s.easeSetpoints g (g.elapsed + 1) with park := some { g with elapsed := g.elapsed + 1 } }

theorem State.tickPark_none (h : s.park = none) : s.tickPark = s := by simp only [State.tickPark, h]

theorem State.tickPark_easing (hg : s.park = some g) (hst : g.stopping = false) :
    s.tickPark = if g.duration ≤ g.elapsed + 1 then (s.easedOn g).endPark .none else s.easedOn g := by
  simp only [State.tickPark, hg, hst, Bool.false_eq_true, if_false, State.easedOn]

theorem State.tickPark_stopping (hg : s.park = some g) (hst : g.stopping = true) :
    s.tickPark = if (s.groupCreepTick g).groupAtRest g = true then (s.groupCreepTick g).endPark .stopped
      else s.groupCreepTick g := by
  simp only [State.tickPark, hg, hst, if_true]

theorem State.groupAtRest_groupCreepTick_iff (hn : g.ids.Nodup) :
    (s.groupCreepTick g).groupAtRest g = true ↔ ∀ a ∈ g.ids, (s.axis a).creepTick.creepAtRest = true := by
  simp only [State.groupAtRest, List.all_eq_true]
  exact forall₂_congr fun a ha => by rw [s.groupCreepTick_mem g hn ha]

theorem exec_parkEaseEnd (hg : s.park = some g) (hst : g.stopping = false) (hd : g.duration ≤ g.elapsed + 1) :
    exec .parkEaseEnd s = .next s.tickPark := by
  show execParkEaseEnd s = _
  simp [execParkEaseEnd, State.parkEaseDue, hg, hst, hd]

theorem exec_parkStopAtRest (hg : s.park = some g) (hn : g.ids.Nodup) (hst : g.stopping = true)
    (hr : ∀ a ∈ g.ids, (s.axis a).creepTick.creepAtRest = true) :
    exec .parkStopAtRest s = .next s.tickPark := by
  show execParkStopAtRest s = _
  simp [execParkStopAtRest, State.parkRestDue, hg, hst, (s.groupAtRest_groupCreepTick_iff hn).2 hr]

theorem State.easedOn_frame (hg : s.park = some g) :
    { s.easedOn g with park := s.park, axes := s.axes } = s := by
  have h := s.easeSetpoints_frame g (g.elapsed + 1)
  rw [State.mk.injEq] at h ⊢
  simp_all [State.easedOn]

theorem State.easedOn_notMem {b : AxisId} (h : b ∉ g.ids) : (s.easedOn g).axis b = s.axis b :=
  s.easeSetpoints_notMem g (g.elapsed + 1) h

theorem State.easedOn_mem (hn : g.ids.Nodup) {e : EaseAxis} (h : e ∈ g.axes) :
    (s.easedOn g).axis e.axis =
      { s.axis e.axis with setpoint := e.start + easeOffset e.dist g.duration (g.elapsed + 1) } :=
  s.easeSetpoints_mem g (g.elapsed + 1) hn h

theorem State.groupCreepTick_park : (s.groupCreepTick g).park = s.park :=
  (congrArg State.park (s.groupCreepTick_frame g) :)

end

theorem GroupEase.axis_mem_ids {g : GroupEase} {e : EaseAxis} (h : e ∈ g.axes) : e.axis ∈ g.ids :=
  List.mem_map_of_mem h

theorem easeOffset_self (d : Int) {n : Nat} (h : 1 ≤ n) : easeOffset d n n = d := by
  rw [easeOffset_eq_sign_mul, easeMagnitude_self _ h, Int.sign_mul_natAbs]

theorem Axis.parkEnded_creepTick (x : Axis) (c : MotionCause) :
    x.creepTick.parkEnded c = ({ x with setpoint := x.creepTick.setpoint } : Axis).parkEnded c := by
  unfold Axis.creepTick
  cases x.creep <;> rfl

theorem Axis.creepTick_staged (x : Axis) : x.creepTick.staged = x.staged :=
  (congrArg Axis.staged x.creepTick_frame :)

/-! ### The end rows -/

section
variable {s : State} {g : GroupEase}

theorem parkEaseEnd_ends (hg : s.park = some g) (hn : g.ids.Nodup) (hst : g.stopping = false)
    (hd : g.elapsed + 1 = g.duration) :
    ∃ t, exec .parkEaseEnd s = .next t ∧ t.park = none ∧ t.Flagged 0x100#17 ∧
      (∀ e ∈ g.axes, t.axis e.axis = (({ s.axis e.axis with
        setpoint := e.start + e.dist } : Axis).parkEnded .none).appliedStaged) ∧
      s.ParkEndKeeps t g := by
  have hpark : (s.easedOn g).park = some { g with elapsed := g.elapsed + 1 } := rfl
  refine ⟨_, exec_parkEaseEnd s hg hst hd.ge, ?_⟩
  rw [s.tickPark_easing hg hst, if_pos hd.ge]
  refine ⟨State.endPark_park _ _, State.endPark_flagged _ _ hpark, fun e he => ?_, ?_⟩
  · have hid : e.axis ∈ ({ g with elapsed := g.elapsed + 1 } : GroupEase).ids := GroupEase.axis_mem_ids he
    rw [State.endPark_axis _ _ hpark, if_pos hid, s.easedOn_mem hn he, hd,
      easeOffset_self _ (hd ▸ Nat.le_add_left ..)]
  · refine State.parkEndKeeps_endPark .none hpark rfl (s.easedOn_frame hg) (fun b hb => s.easedOn_notMem hb)
      (fun a ha => ?_)
    obtain ⟨e, he, rfl⟩ := List.mem_map.1 ha
    rw [s.easedOn_mem hn he]

theorem parkStopAtRest_ends (hg : s.park = some g) (hn : g.ids.Nodup) (hst : g.stopping = true)
    (hr : ∀ a ∈ g.ids, (s.axis a).creepTick.creepAtRest = true) :
    ∃ t, exec .parkStopAtRest s = .next t ∧ t.park = none ∧ t.Flagged 0x100#17 ∧
      (∀ a ∈ g.ids, t.axis a = (({ s.axis a with
        setpoint := (s.axis a).creepTick.setpoint } : Axis).parkEnded .stopped).appliedStaged) ∧
      s.ParkEndKeeps t g := by
  have hpark : (s.groupCreepTick g).park = some g := s.groupCreepTick_park.trans hg
  have hframe : { s.groupCreepTick g with park := s.park, axes := s.axes } = s := by
    have h := s.groupCreepTick_frame g
    rw [State.mk.injEq] at h ⊢
    simp_all
  refine ⟨_, exec_parkStopAtRest s hg hn hst hr, ?_⟩
  rw [s.tickPark_stopping hg hst, if_pos ((s.groupAtRest_groupCreepTick_iff hn).2 hr)]
  refine ⟨State.endPark_park _ _, State.endPark_flagged _ _ hpark, fun a ha => ?_, ?_⟩
  · rw [State.endPark_axis _ _ hpark, if_pos ha, s.groupCreepTick_mem g hn ha, Axis.parkEnded_creepTick]
  · refine State.parkEndKeeps_endPark .stopped hpark rfl hframe (fun b hb => s.groupCreepTick_notMem g hb)
      (fun a ha => ?_)
    rw [s.groupCreepTick_mem g hn ha, Axis.creepTick_staged]

end

theorem exec_driveSettleEnd {s : State} {a : AxisId} {n : Nat} (h : (s.axis a).drive = .settling n) :
    exec (.driveSettleEnd a) s = .next (if n ≤ 1 then s.onAxis a Axis.driveOn else s) := by
  show execDriveSettleEnd a s = _
  rw [execDriveSettleEnd, h]

/-- Settles O32: the tests of AXIS_PARK in order, the end rows, and the park's tick. -/
theorem parksBeginAndEnd : Obligations.ParksBeginAndEnd := by
  unfold Obligations.ParksBeginAndEnd
  refine ⟨fun s l ts hs => ⟨fun h => exec_axisPark_range s l hs (parkTargets_none h),
    fun qs hne hlen hn hc hts => ?_⟩, ⟨fun s a n hd => ?_, ⟨fun s g hg hn hst hd => ?_,
    fun s g hg hn hst hr => ?_⟩⟩, fun s h => s.tickPark_none h, fun s g hg hn => ?_⟩
  · exact axisPark_tests s l hs (hts ▸ parkTargets_some hne hlen hn hc)
  · rw [exec_driveSettleEnd hd]
    refine ⟨fun h => ?_, fun h => ?_⟩
    · rw [if_pos h]; rfl
    · rw [if_neg (by omega)]
  · exact parkEaseEnd_ends hg hn hst hd
  · exact parkStopAtRest_ends hg hn hst hr
  · intro t
    refine ⟨fun hst => ⟨fun hlt => ?_, fun hge => exec_parkEaseEnd s hg hst hge⟩,
      fun hst => ⟨fun hrest => ?_, fun hr => exec_parkStopAtRest s hg hn hst hr⟩⟩
    · have ht : t = s.easedOn g := (s.tickPark_easing hg hst).trans (if_neg (by omega))
      rw [ht]
      exact ⟨rfl, fun e he => s.easedOn_mem hn he, fun b hb => s.easedOn_notMem hb, s.easedOn_frame hg⟩
    · have hr : ¬ (s.groupCreepTick g).groupAtRest g = true := by
        rw [s.groupAtRest_groupCreepTick_iff hn]
        obtain ⟨a, ha, hf⟩ := hrest
        exact fun hall => by simp [hall a ha] at hf
      have ht : t = s.groupCreepTick g := (s.tickPark_stopping hg hst).trans (if_neg hr)
      rw [ht]
      exact ⟨fun a ha => s.groupCreepTick_mem g hn ha, fun b hb => s.groupCreepTick_notMem g hb,
        s.groupCreepTick_frame g⟩

end Sys2Proof.Machine
end

section
/-! SUPPORT. The creep generator and the legs of a home (R97 to R100), the home switch edges (R98), and the
encoder transitions (R89). -/

namespace Sys2Proof.Machine

/-! ### The creep generator (R97) -/

section
variable (x : Axis)

theorem Axis.creepTick_none (h : x.creep = none) : x.creepTick = x := by
  simp only [Axis.creepTick, h]

theorem Axis.creepTick_some {c : Creep} (h : x.creep = some c) :
    x.creepTick = { x with creep := some c.tick, setpoint := fitSetpoint (c.tick.position / 65536) } := by
  simp only [Axis.creepTick, h]

theorem Axis.creepAtRest_none (h : x.creep = none) : x.creepAtRest = true := by
  simp only [Axis.creepAtRest, h]

theorem Axis.creepAtRest_some_iff {c : Creep} (h : x.creep = some c) :
    x.creepAtRest = true ↔ c.velocity = 0 ∧ c.target = 0 := by
  simp only [Axis.creepAtRest, h, Creep.atRest, decide_eq_true_eq]

theorem Axis.creepTick_owner : x.creepTick.owner = x.owner := (congrArg Axis.owner x.creepTick_frame :)

theorem Axis.creepTick_home : x.creepTick.home = x.home := (congrArg Axis.home x.creepTick_frame :)

theorem Axis.creepTick_conf : x.creepTick.conf = x.conf := (congrArg Axis.conf x.creepTick_frame :)

end

theorem fitSetpoint_of_inCount {v : Int} (h : -1073741824 ≤ v) (h' : v ≤ 1073741823) : fitSetpoint v = v :=
  if_pos ((inCount_iff v).2 ⟨h, h'⟩)

/-- A generator within its step of a target of 0 reaches it on the coming tick. -/
theorem Creep.nextVelocity_eq_zero {c : Creep} (ht : c.target = 0) (hv : c.velocity.natAbs ≤ c.step) :
    c.nextVelocity = 0 := by
  unfold Creep.nextVelocity
  rw [ht]
  split
  · omega
  · split <;> omega

theorem Axis.creepTick_stops (x : Axis) {c : Creep} (h : x.creep = some c) (ht : c.target = 0)
    (hv : c.velocity.natAbs ≤ c.step) :
    x.creepTick = { x with creep := some { c with velocity := 0 }, setpoint := fitSetpoint (c.position / 65536) } ∧
      x.creepTick.creepAtRest = true := by
  have htick : c.tick = { c with velocity := 0 } := by
    rw [Creep.tick, Creep.nextVelocity_eq_zero ht hv, add_zero]
  have hx := x.creepTick_some h
  rw [htick] at hx
  refine ⟨hx, ?_⟩
  rw [hx]
  exact (Axis.creepAtRest_some_iff _ (c := { c with velocity := 0 }) rfl).2 ⟨rfl, ht⟩

/-! ### The legs of a home (R98 to R100) -/

section
variable (x : Axis) {h : HomeRun}

theorem Axis.travelExceeded_iff (hh : x.home = some h) :
    x.travelExceeded = true ↔ h.leg ≠ .finishing ∧ h.leg ≠ .abandoning ∧
      x.conf.searchTravel < (x.setpoint - h.start).natAbs := by
  simp only [Axis.travelExceeded, hh]
  cases h.leg <;> simp

theorem Axis.travelExceeded_creepTick_iff (hh : x.home = some h) :
    x.creepTick.travelExceeded = true ↔ h.leg ≠ .finishing ∧ h.leg ≠ .abandoning ∧
      x.conf.searchTravel < (x.creepTick.setpoint - h.start).natAbs := by
  rw [Axis.travelExceeded_iff _ (x.creepTick_home.trans hh), Axis.creepTick_conf]

theorem Axis.beginBackOff_eq (hh : x.home = some h) :
    x.beginBackOff = { x with
      home := some { h with leg := .backingOff, start := x.setpoint }
      creep := x.creep.map (fun c => { c with target := x.conf.backOffVelocity }) } := by
  simp [Axis.beginBackOff, Axis.setTarget, hh]

end

section
variable (s : State) (a : AxisId) {h : HomeRun}

theorem State.setAxis_homeSucceeds (y : Axis) :
    (s.setAxis a y).homeSucceeds a = ((s.setAxis a { y with
      datum := .known, owner := .none, home := none, creep := none
      lastResult := { outcome := .homeDone, cause := .none } }).raise .homeDone).applyStaged a := by
  rw [State.homeSucceeds, State.onAxis, State.setAxis_axis, State.setAxis_setAxis]

theorem State.setAxis_homeFails (y : Axis) (c : MotionCause) :
    (s.setAxis a y).homeFails a c = ((s.setAxis a { y with
      datum := .unknown, owner := .none, home := none, creep := none
      lastResult := { outcome := .homeFailed, cause := c } }).raise .homeFailed).applyStaged a := by
  rw [State.homeFails, State.onAxis, State.setAxis_axis, State.setAxis_setAxis]

theorem State.homeAtRest_braking (hh : (s.axis a).home = some h) (hl : h.leg = .braking) :
    s.homeAtRest a = s.onAxis a Axis.beginBackOff := by
  simp only [State.homeAtRest, hh, hl]

theorem State.homeAtRest_finishing (hh : (s.axis a).home = some h) (hl : h.leg = .finishing) :
    s.homeAtRest a = s.homeSucceeds a := by
  simp only [State.homeAtRest, hh, hl]

theorem State.homeAtRest_abandoning (hh : (s.axis a).home = some h) (hl : h.leg = .abandoning) :
    s.homeAtRest a = s.homeFails a h.cause := by
  simp only [State.homeAtRest, hh, hl]

/-- A leg that needs more than rest to end is left as it is. -/
theorem State.homeAtRest_waits (hh : (s.axis a).home = some h) (hb : h.leg ≠ .braking)
    (hfin : h.leg ≠ .finishing) (hab : h.leg ≠ .abandoning) : s.homeAtRest a = s := by
  simp only [State.homeAtRest, hh]
  cases hl : h.leg with
  | braking => exact absurd hl hb
  | finishing => exact absurd hl hfin
  | abandoning => exact absurd hl hab
  | searching => rfl
  | backingOff => rfl
  | pressing => rfl

/-! ### The tick of a home -/

theorem State.tickHome_notHome (ho : (s.axis a).owner ≠ .home) : s.tickHome a = s := if_neg ho

theorem State.tickHome_ofHome (ho : (s.axis a).owner = .home) :
    s.tickHome a =
      if (s.axis a).creepTick.travelExceeded = true then
        s.setAxis a ((s.axis a).creepTick.abandonHome .travel)
      else if (s.axis a).creepTick.creepAtRest = true then (s.setAxis a (s.axis a).creepTick).homeAtRest a
      else s.setAxis a (s.axis a).creepTick := by
  simp only [State.tickHome, ho, if_true, State.onAxis_axis]
  simp only [State.onAxis, State.setAxis_axis, State.setAxis_setAxis]

section
variable (ho : (s.axis a).owner = .home)
include ho

theorem State.tickHome_far (hf : (s.axis a).creepTick.travelExceeded = true) :
    s.tickHome a = s.setAxis a ((s.axis a).creepTick.abandonHome .travel) := by
  rw [s.tickHome_ofHome a ho, if_pos hf]

theorem State.tickHome_goesOn (hf : ¬ (s.axis a).creepTick.travelExceeded = true)
    (hr : (s.axis a).creepTick.creepAtRest = false) : s.tickHome a = s.setAxis a (s.axis a).creepTick := by
  rw [s.tickHome_ofHome a ho, if_neg hf, if_neg (by simp [hr])]

section
variable (hh : (s.axis a).home = some h) (hf : ¬ (s.axis a).creepTick.travelExceeded = true)
  (hr : (s.axis a).creepTick.creepAtRest = true)
include hh hf hr

/-- A home at rest within its travel does what its leg says. -/
theorem State.tickHome_atRest : s.tickHome a = (s.setAxis a (s.axis a).creepTick).homeAtRest a ∧
    ((s.setAxis a (s.axis a).creepTick).axis a).home = some h := by
  rw [s.tickHome_ofHome a ho, if_neg hf, if_pos hr, State.setAxis_axis, Axis.creepTick_home]
  exact ⟨rfl, hh⟩

theorem State.tickHome_braking (hl : h.leg = .braking) :
    s.tickHome a = s.setAxis a (s.axis a).creepTick.beginBackOff := by
  obtain ⟨ht, hhome⟩ := s.tickHome_atRest a ho hh hf hr
  rw [ht, State.homeAtRest_braking _ _ hhome hl, State.onAxis, State.setAxis_axis, State.setAxis_setAxis]

theorem State.tickHome_finishing (hl : h.leg = .finishing) :
    s.tickHome a = (s.setAxis a (s.axis a).creepTick).homeSucceeds a := by
  obtain ⟨ht, hhome⟩ := s.tickHome_atRest a ho hh hf hr
  rw [ht, State.homeAtRest_finishing _ _ hhome hl]

theorem State.tickHome_abandoning (hl : h.leg = .abandoning) :
    s.tickHome a = (s.setAxis a (s.axis a).creepTick).homeFails a h.cause := by
  obtain ⟨ht, hhome⟩ := s.tickHome_atRest a ho hh hf hr
  rw [ht, State.homeAtRest_abandoning _ _ hhome hl]

/-- A leg that needs more than rest to end goes on at rest. -/
theorem State.tickHome_waits (hb : h.leg ≠ .braking) (hfin : h.leg ≠ .finishing) (hab : h.leg ≠ .abandoning) :
    s.tickHome a = s.setAxis a (s.axis a).creepTick := by
  obtain ⟨ht, hhome⟩ := s.tickHome_atRest a ho hh hf hr
  rw [ht, State.homeAtRest_waits _ _ hhome hb hfin hab]

/-! ### The rows of a home's legs -/

theorem State.restDue_of_leg {leg : HomeLeg} (hl : h.leg = leg) : s.restDue a leg = true := by
  simp only [Bool.not_eq_true] at hf
  simp [State.restDue, State.homeIn, State.crept, ho, hh, hf, hr, hl]

theorem exec_homeBrakingAtRest (hl : h.leg = .braking) :
    exec (.homeBrakingAtRest a) s = .next (s.tickHome a) := by
  show execHomeBrakingAtRest a s = _
  rw [execHomeBrakingAtRest, if_pos (s.restDue_of_leg a ho hh hf hr hl)]

theorem exec_homeFinishingAtRest (hl : h.leg = .finishing) :
    exec (.homeFinishingAtRest a) s = .next (s.tickHome a) := by
  show execHomeFinishingAtRest a s = _
  rw [execHomeFinishingAtRest, if_pos (s.restDue_of_leg a ho hh hf hr hl)]

theorem exec_homeAbandonAtRest (hl : h.leg = .abandoning) :
    exec (.homeAbandonAtRest a) s = .next (s.tickHome a) := by
  show execHomeAbandonAtRest a s = _
  rw [execHomeAbandonAtRest, if_pos (s.restDue_of_leg a ho hh hf hr hl)]

end

theorem exec_homeTravelExceeded (hf : (s.axis a).creepTick.travelExceeded = true) :
    exec (.homeTravelExceeded a) s = .next (s.tickHome a) := by
  show execHomeTravelExceeded a s = _
  simp [execHomeTravelExceeded, State.crept, ho, hf]

end

theorem exec_homeStopReached (hd : (s.axis a).drive = .on) (ho : (s.axis a).owner = .home)
    (hh : (s.axis a).home = some h) (hl : h.leg = .pressing)
    (he : (s.axis a).conf.feMax / 2 < (saturateError ((s.axis a).setpoint - (s.axis a).encoder)).natAbs) :
    exec (.homeStopReached a) s = .next (s.stopReached a) := by
  show execHomeStopReached a s = _
  simp [execHomeStopReached, Axis.atStop, hd, ho, hh, hl, he]

end

/-! ### The home switch (R98) and the encoder (R89) -/

section
variable (x : Axis)

theorem Axis.switchAsserted_searching {h : HomeRun} (ho : x.owner = .home) (hh : x.home = some h)
    (hl : h.leg = .searching) :
    x.switchAsserted = { x with
      homeSwitch := true, home := some { h with leg := .braking }
      creep := x.creep.map (fun c => { c with target := 0 }) } := by
  simp [Axis.switchAsserted, Axis.setLeg, Axis.setTarget, ho, hh, hl]

theorem Axis.switchAsserted_ignored (h : x.owner ≠ .home ∨ x.home.map (·.leg) ≠ some .searching) :
    x.switchAsserted = { x with homeSwitch := true } :=
  if_neg (fun hc => h.elim (absurd hc.1) (absurd hc.2))

theorem Axis.switchReleased_backingOff {h : HomeRun} (ho : x.owner = .home) (hh : x.home = some h)
    (hl : h.leg = .backingOff) :
    x.switchReleased = ({ x with homeSwitch := false } : Axis).homeRelease := by
  simp [Axis.switchReleased, ho, hh, hl]

theorem Axis.switchReleased_ignored (h : x.owner ≠ .home ∨ x.home.map (·.leg) ≠ some .backingOff) :
    x.switchReleased = { x with homeSwitch := false } :=
  if_neg (fun hc => h.elim (absurd hc.1) (absurd hc.2))

theorem wrapEncoder_succ {e : Int} (h : -2147483648 ≤ e) (h' : e ≤ 2147483647) :
    wrapEncoder (e + 1) = if e = 2147483647 then -2147483648 else e + 1 := by
  unfold wrapEncoder
  split <;> omega

theorem wrapEncoder_pred {e : Int} (h : -2147483648 ≤ e) (h' : e ≤ 2147483647) :
    wrapEncoder (e - 1) = if e = -2147483648 then 2147483647 else e - 1 := by
  unfold wrapEncoder
  split <;> omega

end

section
variable (s : State) (a : AxisId)

theorem exec_homeSwitchAssert (h : (s.axis a).homeSwitch = false) :
    exec (.homeSwitchAssert a) s = .next (s.setAxis a (s.axis a).switchAsserted) := by
  show execHomeSwitchAssert a s = _
  simp [execHomeSwitchAssert, h, State.onAxis]

theorem exec_homeSwitchRelease (h : (s.axis a).homeSwitch = true) :
    exec (.homeSwitchRelease a) s = .next (s.setAxis a (s.axis a).switchReleased) := by
  show execHomeSwitchRelease a s = _
  simp [execHomeSwitchRelease, h, State.onAxis]

theorem exec_encoderTransition (positive : Bool) :
    exec (.encoderTransition a positive) s = .next (s.setAxis a { s.axis a with
      encoder := wrapEncoder (if positive then (s.axis a).encoder + 1 else (s.axis a).encoder - 1) }) := rfl

end

end Sys2Proof.Machine
end

section
/-! SUPPORT. The homes of all axes on one tick (R97 to R100), and the rows of a home put together. -/

namespace Sys2Proof.Machine

/-! ### A tick on which no home ends -/

/-- No home of the axis comes to its end on the coming tick. -/
def Axis.HomeGoesOn (x : Axis) : Prop :=
  x.owner = .home → ∃ h, x.home = some h ∧
    (h.leg = .finishing ∨ h.leg = .abandoning → x.creepTick.creepAtRest = false)

/-- The tick of a home that does not end, as it acts on its axis. -/
def Axis.homeTick (x : Axis) : Axis :=
  if x.owner = .home then
    if x.creepTick.travelExceeded then x.creepTick.abandonHome .travel
    else if x.creepTick.creepAtRest && decide (x.home.map (·.leg) = some .braking) then x.creepTick.beginBackOff
    else x.creepTick
  else x

section
variable (s : State) (a : AxisId)

theorem State.tickHome_eq_onAxis (hq : (s.axis a).HomeGoesOn) :
    s.tickHome a = s.onAxis a Axis.homeTick := by
  rw [State.onAxis, Axis.homeTick]
  by_cases ho : (s.axis a).owner = .home
  · obtain ⟨h, hh, hends⟩ := hq ho
    rw [if_pos ho]
    by_cases hf : (s.axis a).creepTick.travelExceeded = true
    · rw [s.tickHome_far a ho hf, if_pos hf]
    rw [if_neg hf]
    cases hr : (s.axis a).creepTick.creepAtRest with
    | false => rw [s.tickHome_goesOn a ho hf hr, Bool.false_and, if_neg Bool.false_ne_true]
    | true =>
      have hleg : ¬ (h.leg = .finishing ∨ h.leg = .abandoning) := fun hl => by simp [hends hl] at hr
      obtain ⟨hfin, hab⟩ := not_or.1 hleg
      by_cases hb : h.leg = .braking
      · rw [s.tickHome_braking a ho hh hf hr hb, hh, if_pos (by simp [hb])]
      · rw [s.tickHome_waits a ho hh hf hr hb hfin hab, hh, if_neg (by simp [hb])]
  · rw [s.tickHome_notHome a ho, if_neg ho, State.setAxis_self]

/-- A home that goes on writes its own axis only, so the homes tick as if each were alone. -/
theorem forAxes_tickHome_eq_onAxis (as : List AxisId) (hn : as.Nodup)
    (hq : ∀ b ∈ as, (s.axis b).HomeGoesOn) :
    forAxes as (fun b t => t.tickHome b) s = forAxes as (fun b t => t.onAxis b Axis.homeTick) s := by
  induction as generalizing s with
  | nil => rfl
  | cons b bs ih =>
    obtain ⟨hb, hbs⟩ := List.nodup_cons.1 hn
    rw [forAxes_cons, forAxes_cons, s.tickHome_eq_onAxis b (hq b (by simp))]
    refine ih _ hbs (fun c hc => ?_)
    have hne : c ≠ b := fun e => hb (e ▸ hc)
    rw [State.onAxis_axis_ne _ _ hne]
    exact hq c (by simp [hc])

theorem State.tickHomes_goOn (hq : ∀ b, (s.axis b).HomeGoesOn) :
    (∀ b, s.tickHomes.axis b = (s.tickHome b).axis b) ∧ { s.tickHomes with axes := s.axes } = s := by
  have hn : allAxes.Nodup := by decide
  rw [State.tickHomes, forAxes_tickHome_eq_onAxis s allAxes hn (fun b _ => hq b)]
  refine ⟨fun b => ?_, forAxes_onAxis_frame s allAxes _⟩
  rw [forAxes_onAxis_nodup s allAxes _ hn (allAxes_mem b), s.tickHome_eq_onAxis b (hq b),
    State.onAxis_axis]

/-! ### The rows at rest, written out -/

/-- A leg that R100 does not test is not stopped by its travel. -/
theorem Axis.not_travelExceeded_of_ending (x : Axis) {h : HomeRun} (hh : x.home = some h)
    (hl : h.leg = .finishing ∨ h.leg = .abandoning) : ¬ x.creepTick.travelExceeded = true := by
  rw [Axis.travelExceeded_creepTick_iff _ hh]
  rintro ⟨hfin, hab, -⟩
  exact hl.elim hfin hab

section
variable {h : HomeRun} {c : Creep} (ho : (s.axis a).owner = .home) (hh : (s.axis a).home = some h)
  (hc : (s.axis a).creep = some c) (ht : c.target = 0) (hv : c.velocity.natAbs ≤ c.step)
include ho hh hc ht hv

theorem exec_homeBrakingAtRest_stops (hl : h.leg = .braking)
    (hsp : (fitSetpoint (c.position / 65536) - h.start).natAbs ≤ (s.axis a).conf.searchTravel) :
    exec (.homeBrakingAtRest a) s = .next (s.setAxis a { s.axis a with
      setpoint := fitSetpoint (c.position / 65536)
      home := some { h with leg := .backingOff, start := fitSetpoint (c.position / 65536) }
      creep := some { c with velocity := 0, target := (s.axis a).conf.backOffVelocity } }) := by
  obtain ⟨hx, hr⟩ := (s.axis a).creepTick_stops hc ht hv
  have hf : ¬ (s.axis a).creepTick.travelExceeded = true := by
    rw [Axis.travelExceeded_creepTick_iff _ hh, hx]
    exact fun hfar => absurd hfar.2.2 (by simpa using hsp)
  rw [exec_homeBrakingAtRest s a ho hh hf hr hl, s.tickHome_braking a ho hh hf hr hl,
    Axis.beginBackOff_eq _ ((Axis.creepTick_home _).trans hh), hx]
  rfl

theorem exec_homeFinishingAtRest_stops (hl : h.leg = .finishing) :
    exec (.homeFinishingAtRest a) s = .next (((s.setAxis a { s.axis a with
      setpoint := fitSetpoint (c.position / 65536), datum := .known, owner := .none, home := none
      creep := none, lastResult := { outcome := .homeDone, cause := .none } }).raise .homeDone).applyStaged a) := by
  obtain ⟨hx, hr⟩ := (s.axis a).creepTick_stops hc ht hv
  have hf := (s.axis a).not_travelExceeded_of_ending hh (.inl hl)
  rw [exec_homeFinishingAtRest s a ho hh hf hr hl, s.tickHome_finishing a ho hh hf hr hl,
    State.setAxis_homeSucceeds, hx]

theorem exec_homeAbandonAtRest_stops (hl : h.leg = .abandoning) :
    exec (.homeAbandonAtRest a) s = .next (((s.setAxis a { s.axis a with
      setpoint := fitSetpoint (c.position / 65536), datum := .unknown, owner := .none, home := none
      creep := none, lastResult := { outcome := .homeFailed, cause := h.cause } }).raise
        .homeFailed).applyStaged a) := by
  obtain ⟨hx, hr⟩ := (s.axis a).creepTick_stops hc ht hv
  have hf := (s.axis a).not_travelExceeded_of_ending hh (.inr hl)
  rw [exec_homeAbandonAtRest s a ho hh hf hr hl, s.tickHome_abandoning a ho hh hf hr hl,
    State.setAxis_homeFails, hx]

end

theorem State.stopReached_eq :
    s.stopReached a = ((s.setAxis a { s.axis a with
      encoder := (s.axis a).conf.homeOffset, setpoint := (s.axis a).conf.homeOffset
      stepPosition := (s.axis a).conf.homeOffset, followingError := 0, datum := .known
      owner := .none, home := none, creep := none
      lastResult := { outcome := .homeDone, cause := .none } }).raise .homeDone).applyStaged a := by
  rw [State.stopReached, State.onAxis, State.setAxis_homeSucceeds]

end

/-- Settles O33: the rows at rest, the travel and the stop, the switch edges, the encoder, the generator, and the
home's tick by its leg. -/
theorem homesGoOnAndEnd : Obligations.HomesGoOnAndEnd := by
  unfold Obligations.HomesGoOnAndEnd
  refine ⟨⟨fun s a h c ho hh hc ht hv => ?_, fun s a h ho hh hfin hab hfar => ?_,
    fun s a h hd ho hh hl he => ?_⟩, ⟨fun s a hw => ?_, fun s a hw => ?_, fun s a hlo hhi => ?_⟩,
    ⟨fun x hx => ⟨x.creepTick_none hx, x.creepAtRest_none hx⟩, fun x c hc => ?_⟩,
    fun s a ho => s.tickHome_notHome a ho, fun s a h ho hh => ?_, fun s hq => s.tickHomes_goOn hq⟩
  · exact ⟨exec_homeBrakingAtRest_stops s a ho hh hc ht hv, exec_homeFinishingAtRest_stops s a ho hh hc ht hv,
      exec_homeAbandonAtRest_stops s a ho hh hc ht hv⟩
  · have hf := ((s.axis a).travelExceeded_creepTick_iff hh).2 ⟨hfin, hab, hfar⟩
    rw [exec_homeTravelExceeded s a ho hf, s.tickHome_far a ho hf,
      Axis.abandonHome_eq _ ((Axis.creepTick_home _).trans hh)]
  · rw [exec_homeStopReached s a hd ho hh hl he, State.stopReached_eq]
  · intro x
    rw [exec_homeSwitchAssert s a hw]
    refine ⟨fun h ho hh hl => ?_, fun hi => ?_⟩
    · rw [(s.axis a).switchAsserted_searching ho hh hl]
    · rw [(s.axis a).switchAsserted_ignored hi]
  · intro x shift
    rw [exec_homeSwitchRelease s a hw]
    refine ⟨fun h ho hh hl => ?_, fun hi => ?_⟩
    · have hh' : (s.axis a).home = some h := hh
      rw [(s.axis a).switchReleased_backingOff ho hh hl]
      simp only [Axis.homeRelease, hh', Option.map_some]
      rfl
    · rw [(s.axis a).switchReleased_ignored hi]
  · rw [exec_encoderTransition, exec_encoderTransition, if_pos rfl, if_neg Bool.false_ne_true,
      wrapEncoder_succ hlo hhi, wrapEncoder_pred hlo hhi]
    exact ⟨rfl, rfl⟩
  · intro w
    have hx : x.creepTick = { x with
        creep := some { c with velocity := w, position := c.position + w }
        setpoint := fitSetpoint ((c.position + w) / 65536) } := x.creepTick_some hc
    refine ⟨hx, ?_, fun hlo hhi => ?_⟩
    · rw [hx]
      exact Axis.creepAtRest_some_iff _ (c := c.tick) rfl
    · rw [hx]
      exact fitSetpoint_of_inCount hlo hhi
  · intro y far
    have hfar : y.travelExceeded = true ↔ far := (s.axis a).travelExceeded_creepTick_iff hh
    refine ⟨fun hf => exec_homeTravelExceeded s a ho (hfar.2 hf), fun hn hr => ?_, fun hn hr => ?_⟩
    · have hf := mt hfar.1 hn
      exact ⟨exec_homeBrakingAtRest s a ho hh hf hr, exec_homeFinishingAtRest s a ho hh hf hr,
        exec_homeAbandonAtRest s a ho hh hf hr, s.tickHome_waits a ho hh hf hr⟩
    · exact s.tickHome_goesOn a ho (mt hfar.1 hn) hr

end Sys2Proof.Machine
end

section
/-! SUPPORT. The phase moved by a tick or an edge, said once: the next frame start, what a frame start makes of the
clock and the pass, the half point, and the end of a ramp (R108, R111 to R115, R136). -/

namespace Sys2Proof.Machine

variable (s : State) (c : Clock)

@[simp] theorem State.withClock_clock : (s.withClock c).clock = c := rfl

/-! ### The next frame start (R108) -/

/-- The number of the first frame start ahead of a phase in a direction. -/
def Direction.nextFrame (d : Direction) (phase : Int) : Int :=
  match d with
  | .forward => phase / 65536 + 1
  | .reverse => (phase + 65535) / 65536 - 1

/-- The number of the next frame start in the pass direction. -/
def Clock.nextFrame (c : Clock) : Int := c.dir.nextFrame c.phase

theorem Clock.dir_of_direction {d : Direction} (h : c.direction = some d) : c.dir = d := by
  rw [Clock.dir, h, Option.getD_some]

theorem Clock.nextFrame_of_direction {d : Direction} (h : c.direction = some d) :
    c.nextFrame = d.nextFrame c.phase := by
  rw [Clock.nextFrame, c.dir_of_direction h]

theorem Clock.nextFrameStart_eq : c.nextFrameStart = c.nextFrame * 65536 := by
  unfold Clock.nextFrameStart Clock.nextFrame Direction.nextFrame
  cases c.dir <;> rfl

theorem Clock.nextFrameStart_div : c.nextFrameStart / puPerFrame = c.nextFrame := by
  rw [c.nextFrameStart_eq]
  exact Int.mul_ediv_cancel _ (by decide)

theorem Clock.capLimit_of_limit {lim : Int} (h : c.travelLimit = some lim) (p : Int) :
    c.capLimit p = c.dir.cap lim p := by
  rw [Clock.capLimit, h]

theorem Clock.atLimit_of_limit {lim : Int} (h : c.travelLimit = some lim) :
    c.atLimit = c.dir.reaches c.phase lim := by
  rw [Clock.atLimit, h]

theorem Direction.reaches_iff (d : Direction) (p x : Int) : d.reaches p x = true ↔
    match d with
    | .forward => x ≤ p
    | .reverse => p ≤ x := by
  cases d <;> exact decide_eq_true_iff

/-- The camera sync output behind a phase that stays before the next frame start: LOW from the half point on. -/
def Clock.syncAt (c : Clock) (p : Int) : Bool := c.cameraSync && !c.dir.reaches p c.halfPoint

theorem Direction.reaches_half_iff (d : Direction) (frame p : Int) :
    d.reaches p (d.move (frame * 65536) 32768) = true ↔
      match d with
      | .forward => frame * 65536 + 32768 ≤ p
      | .reverse => p ≤ frame * 65536 - 32768 := by
  cases d <;> exact decide_eq_true_iff

theorem Clock.eq_syncAt {d : Direction} (hd : c.direction = some d) {p : Int} {half : Prop} {b : Bool}
    (hhalf : half ↔ d.reaches p (d.move (c.currentFrame * 65536) 32768) = true)
    (hb : b = true ↔ c.cameraSync = true ∧ ¬ half) : b = c.syncAt p := by
  rw [Bool.eq_iff_iff, hb, hhalf, Clock.syncAt, Clock.halfPoint, c.dir_of_direction hd, puPerFrame]
  simp

/-! ### What a frame start makes of the clock and the pass (R111, R112, R136) -/

theorem PassRecord.trailEnd_eq (r : PassRecord) : r.trailEnd =
    match r.direction with
    | .forward => (r.last : Int) + r.trail
    | .reverse => (r.first : Int) - r.trail := by
  unfold PassRecord.trailEnd PassRecord.endFrame
  cases r.direction <;> rfl

/-- The pass state behind a frame start: a rolling pass runs from its start frame on. -/
def Pass.entered (r : PassRecord) (n : Int) (p : Pass) : PassState :=
  if p.state = .rolling ∧ n = r.startFrame then .running else p.state

theorem Pass.frameStart_eq (r : PassRecord) (n : Int) (p : Pass) : p.frameStart r n = { p with
    report := { p.report with
      frames := if (r.first : Int) ≤ n ∧ n ≤ r.last then p.report.frames + 1 else p.report.frames }
    endReached := if n = r.endFrame then some true else p.endReached
    state := if n = r.endFrame ∧ p.entered r n = .running then .trailing else p.entered r n } := by
  unfold Pass.frameStart Pass.entered
  by_cases he : n = r.endFrame <;> simp [he]

/-- The base rate a frame start leaves: loaded in MASTER, else as it was (R112). -/
def State.loadedRate (s : State) (n : Int) : Nat :=
  if s.clock.mode = some .master then s.baseRateAt n else s.clock.baseRate

/-- The state a frame start at frame n leaves in a run that does not stand in HELD. -/
def State.startsFrame (s : State) (r : PassRecord) (n : Int) : State :=
  { s with
    clock := { s.clock with currentFrame := n, cameraSync := true, baseRate := s.loadedRate n }
    pass := s.pass.frameStart r n }

/-- A frame start at frame n ends the run (R136, item 4). -/
def State.completesAt (s : State) (r : PassRecord) (n : Int) : Prop :=
  n = r.trailEnd ∧ (s.pass.frameStart r n).state.completes = true

theorem PassState.completes_iff (p : PassState) :
    p.completes = true ↔ p = .running ∨ p = .holding ∨ p = .resuming ∨ p = .trailing := by
  cases p <;> simp [PassState.completes]

section
variable {s} {r : PassRecord} (hr : s.pass.record = some r) (hrun : s.pass.state.inRun = true)
  (hheld : s.pass.state ≠ .held)

theorem State.baseRateAt_of_move (hr : s.pass.record = some r) {m : Move} (hm : s.move r.slot = some m) (n : Int) :
    s.baseRateAt n =
      if m.speedTrack ≠ [] then speedRate m.speedTrack n else r.rate.getD s.clock.baseRate := by
  simp only [State.baseRateAt, hr, hm]
  cases m.speedTrack <;> simp

theorem State.loadedRate_of_move (hr : s.pass.record = some r) {m : Move} (hm : s.move r.slot = some m)
    (n : Int) : s.loadedRate n =
      if s.clock.mode ≠ some .master then s.clock.baseRate
      else if m.speedTrack ≠ [] then speedRate m.speedTrack n else r.rate.getD s.clock.baseRate := by
  rw [State.loadedRate, State.baseRateAt_of_move hr hm]
  by_cases h : s.clock.mode = some .master <;> simp [h]

theorem State.loadedRate_of_not_master (h : s.clock.mode ≠ some .master) (n : Int) :
    s.loadedRate n = s.clock.baseRate := if_neg h

include hr hrun hheld

theorem State.frameStart_fst (n : Int) : (s.frameStart n).1 = s.startsFrame r n := by
  have hgo : (s.pass.state.inRun && decide (s.pass.state ≠ .held)) = true := by simp [hrun, hheld]
  unfold State.frameStart State.passFrameStart State.startsFrame State.loadedRate
  simp only [State.withClock_pass, hr, if_pos hgo]
  split <;> rfl

theorem State.frameStart_completes {n : Int} (h : s.completesAt r n) :
    s.frameStart n = (s.startsFrame r n, some .complete) := by
  refine Prod.ext (State.frameStart_fst hr hrun hheld n) ?_
  have hgo : (s.pass.state.inRun && decide (s.pass.state ≠ .held)) = true := by simp [hrun, hheld]
  simp only [State.frameStart, State.passFrameStart, State.withClock_pass, hr, if_pos hgo]
  exact if_pos h

theorem State.frameStart_goesOn {n : Int} (h : ¬ s.completesAt r n) :
    s.frameStart n = (s.startsFrame r n, none) := by
  refine Prod.ext (State.frameStart_fst hr hrun hheld n) ?_
  have hgo : (s.pass.state.inRun && decide (s.pass.state ≠ .held)) = true := by simp [hrun, hheld]
  simp only [State.frameStart, State.passFrameStart, State.withClock_pass, hr, if_pos hgo]
  exact if_neg h

end

/-! ### The phase moved (R111, R113) -/

theorem State.phaseMoves_within {p : Int} (h : ¬ s.clock.dir.reaches p s.clock.nextFrameStart = true) :
    s.phaseMoves p =
      (s.withClock { s.clock with phase := p, cameraSync := s.clock.syncAt p }, none) := by
  rw [State.phaseMoves, if_neg h]
  cases hh : s.clock.dir.reaches p s.clock.halfPoint <;> simp [Clock.syncAt, hh, State.withClock]

theorem State.phaseMoves_frameStart {p : Int} (h : s.clock.dir.reaches p s.clock.nextFrameStart = true) :
    s.phaseMoves p = (s.withClock { s.clock with phase := p }).frameStart s.clock.nextFrame := by
  rw [State.phaseMoves, if_pos h, Clock.nextFrameStart_div]

section
variable {s} {r : PassRecord} (hr : s.pass.record = some r) (hrun : s.pass.state.inRun = true)
  (hheld : s.pass.state ≠ .held) {p : Int} (h : s.clock.dir.reaches p s.clock.nextFrameStart = true)
include hr hrun hheld h

/-- The phase reaches the frame start that ends the run. -/
theorem State.phaseMoves_completes (hc : s.completesAt r s.clock.nextFrame) : s.phaseMoves p =
    ((s.withClock { s.clock with phase := p }).startsFrame r s.clock.nextFrame, some .complete) := by
  rw [State.phaseMoves_frameStart s h]
  exact State.frameStart_completes (s := s.withClock { s.clock with phase := p }) hr hrun hheld hc

/-- The phase reaches a frame start behind which the run goes on. -/
theorem State.phaseMoves_goesOn (hc : ¬ s.completesAt r s.clock.nextFrame) : s.phaseMoves p =
    ((s.withClock { s.clock with phase := p }).startsFrame r s.clock.nextFrame, none) := by
  rw [State.phaseMoves_frameStart s h]
  exact State.frameStart_goesOn (s := s.withClock { s.clock with phase := p }) hr hrun hheld hc

end

/-- Of the clock, the move writes the phase, and at a frame start or half point the current frame, the camera sync
output and the base rate. -/
theorem State.phaseMoves_clock (p : Int) :
    { (s.phaseMoves p).1.clock with
        currentFrame := s.clock.currentFrame, cameraSync := s.clock.cameraSync, baseRate := s.clock.baseRate } =
      { s.clock with phase := p } := by
  by_cases h : s.clock.dir.reaches p s.clock.nextFrameStart = true
  · rw [State.phaseMoves_frameStart s h, State.frameStart]
    unfold State.passFrameStart
    dsimp only
    split
    · split <;> rfl
    · split <;> split <;> rfl
  · rw [State.phaseMoves_within s h]; rfl

/-! ### The end of a ramp, with the end of the run it may be (R114, R115, R140) -/

/-- The state the end of a ramp leaves, once an end of the run has taken effect. -/
def State.ramped (s : State) : State := s.rampEnd.1.finish s.rampEnd.2

section
variable {s} {h k : Nat}

theorem State.ramped_none (hr : s.clock.ramp = .none) : s.ramped = s := by
  simp only [State.ramped, State.rampEnd, hr]; rfl

theorem State.ramped_held (hr : s.clock.ramp = .held) : s.ramped = s := by
  simp only [State.ramped, State.rampEnd, hr]; rfl

theorem State.ramped_hold_goesOn (hr : s.clock.ramp = .hold h k) (hk : k < h) : s.ramped = s := by
  simp only [State.ramped, State.rampEnd, hr, if_neg (Nat.not_le.2 hk)]; rfl

theorem State.ramped_hold_ends (hr : s.clock.ramp = .hold h k) (hk : h ≤ k) :
    s.ramped = ({ s with
      clock := { s.clock with ramp := .held, appliedRate := 0 }
      pass := { s.pass with state := .held } } : State).raise .passHeld := by
  simp only [State.ramped, State.rampEnd, hr, if_pos hk]; rfl

theorem State.ramped_resume_goesOn (hr : s.clock.ramp = .resume h k) (hk : k < h) : s.ramped = s := by
  simp only [State.ramped, State.rampEnd, hr, if_neg (Nat.not_le.2 hk)]; rfl

theorem State.ramped_resume_ends (hr : s.clock.ramp = .resume h k) (hk : h ≤ k) :
    s.ramped = { s with
      clock := { s.clock with ramp := .none }
      pass := { s.pass with state := if s.pass.endReached = some true then .trailing else .running } } := by
  simp only [State.ramped, State.rampEnd, hr, if_pos hk]; rfl

theorem State.ramped_stop_goesOn (hr : s.clock.ramp = .stop h k) (hk : k < h)
    (hl : ¬ s.clock.atLimit = true) : s.ramped = s := by
  simp only [State.ramped, State.rampEnd, hr,
    if_neg (not_or.2 ⟨Nat.not_le.2 hk, hl⟩ : ¬ (h ≤ k ∨ s.clock.atLimit = true))]; rfl

theorem State.ramped_stop_ends (hr : s.clock.ramp = .stop h k) (he : h ≤ k ∨ s.clock.atLimit = true) :
    s.ramped = s.endRun .aborted (s.pass.stopCause.map StopCause.reported) := by
  simp only [State.ramped, State.rampEnd, hr, if_pos he]; rfl

end

/-- Of the clock, the end of a ramp writes the ramp and the applied rate. -/
theorem State.rampEnd_clock :
    { s.rampEnd.1.clock with ramp := s.clock.ramp, appliedRate := s.clock.appliedRate } = s.clock := by
  unfold State.rampEnd
  split <;> (try split) <;> rfl

end Sys2Proof.Machine
end

section
/-! SUPPORT. The tick of a run's clock (R110, R112, R114, R121, R131): the clock behind the stages of a CLOCKING tick
and behind a freewheel, and what the tick makes of the part. -/

namespace Sys2Proof.Machine

variable (s : State) (c : Clock)

/-! ### The accumulator (R110) -/

/-- The accumulator before it is reduced: the remainder and what the applied rate adds on this tick. -/
def Clock.total (c : Clock) : Nat := c.remainder + c.ramp.tick.applied c.baseRate * 65536

/-- The clock with what a CLOCKING tick writes before a frame start replaced. -/
def Clock.stepped (c : Clock) (ramp : Ramp) (rate remainder : Nat) (phase : Int) : Clock :=
  { c with ramp := ramp, appliedRate := rate, remainder := remainder, phase := phase }

/-- The clock on a CLOCKING tick before its phase moves: the ramp, the applied rate and the accumulator. -/
def Clock.rated (c : Clock) : Clock :=
  c.stepped c.ramp.tick (c.ramp.tick.applied c.baseRate) (c.total % 2000000) c.phase

/-- The phase of a CLOCKING tick, moved by the whole pu of the accumulator. -/
def Clock.advanced (c : Clock) : Int :=
  c.capLimit (c.dir.move c.phase ((c.total / 2000000 : Nat) : Int))

/-- The clock of a CLOCKING tick with its phase moved. -/
def Clock.ticked (c : Clock) : Clock :=
  c.stepped c.ramp.tick (c.ramp.tick.applied c.baseRate) (c.total % 2000000) c.advanced

/-- The clock behind the advance of a FOLLOWING tick in SYNC_LOST (R121). -/
def Clock.freewheeled (c : Clock) : Clock :=
  { c with phase := c.capLimit (c.dir.move c.phase c.increment) }

/-! What a CLOCKING tick writes before a frame start bears on no other part of the clock. These are stated for any
values written, so that none of the proofs meets the accumulator's arithmetic. -/

section
variable (ramp : Ramp) (rate remainder : Nat) (phase p : Int)

theorem Clock.stepped_phase : (c.stepped ramp rate remainder phase).phase = phase := rfl
theorem Clock.stepped_ramp : (c.stepped ramp rate remainder phase).ramp = ramp := rfl
theorem Clock.stepped_direction : (c.stepped ramp rate remainder phase).direction = c.direction := rfl
theorem Clock.stepped_dir : (c.stepped ramp rate remainder phase).dir = c.dir := rfl
theorem Clock.stepped_travelLimit : (c.stepped ramp rate remainder phase).travelLimit = c.travelLimit := rfl
theorem Clock.stepped_capLimit : (c.stepped ramp rate remainder phase).capLimit p = c.capLimit p := rfl
theorem Clock.stepped_mode : (c.stepped ramp rate remainder phase).mode = c.mode := rfl
theorem Clock.stepped_baseRate : (c.stepped ramp rate remainder phase).baseRate = c.baseRate := rfl

theorem State.phaseMoves_stepped_within (h : ¬ s.clock.dir.reaches p s.clock.nextFrameStart = true) :
    (s.withClock (s.clock.stepped ramp rate remainder s.clock.phase)).phaseMoves p =
      (s.withClock { s.clock.stepped ramp rate remainder p with cameraSync := s.clock.syncAt p }, none) :=
  State.phaseMoves_within (s.withClock (s.clock.stepped ramp rate remainder s.clock.phase)) h

/-- What the accumulator moves and what bounds it: the remainder, the phase, the travel limit and the direction. -/
def Clock.travel (c : Clock) : Nat × Int × Option Int × Option Direction :=
  (c.remainder, c.phase, c.travelLimit, c.direction)

theorem State.phaseMoves_stepped_travel :
    ((s.withClock (c.stepped ramp rate remainder phase)).phaseMoves p).1.clock.travel =
      (remainder, p, c.travelLimit, c.direction) :=
  (congrArg Clock.travel ((s.withClock (c.stepped ramp rate remainder phase)).phaseMoves_clock p) :)

variable {s} {r : PassRecord} (hr : s.pass.record = some r) (hrun : s.pass.state.inRun = true)
  (hheld : s.pass.state ≠ .held) (h : s.clock.dir.reaches p s.clock.nextFrameStart = true)
include hr hrun hheld h

theorem State.phaseMoves_stepped_completes (hc : s.completesAt r s.clock.nextFrame) :
    (s.withClock (s.clock.stepped ramp rate remainder s.clock.phase)).phaseMoves p =
      ((s.withClock (s.clock.stepped ramp rate remainder p)).startsFrame r s.clock.nextFrame, some .complete) :=
  State.phaseMoves_completes (s := s.withClock (s.clock.stepped ramp rate remainder s.clock.phase)) hr hrun
    hheld h hc

theorem State.phaseMoves_stepped_goesOn (hc : ¬ s.completesAt r s.clock.nextFrame) :
    (s.withClock (s.clock.stepped ramp rate remainder s.clock.phase)).phaseMoves p =
      ((s.withClock (s.clock.stepped ramp rate remainder p)).startsFrame r s.clock.nextFrame, none) :=
  State.phaseMoves_goesOn (s := s.withClock (s.clock.stepped ramp rate remainder s.clock.phase)) hr hrun
    hheld h hc

end

theorem Clock.ticked_phase : c.ticked.phase = c.advanced := Clock.stepped_phase ..
theorem Clock.ticked_ramp : c.ticked.ramp = c.ramp.tick := Clock.stepped_ramp ..
theorem Clock.ticked_direction : c.ticked.direction = c.direction := Clock.stepped_direction ..
theorem Clock.ticked_travelLimit : c.ticked.travelLimit = c.travelLimit := Clock.stepped_travelLimit ..
theorem Clock.ticked_mode : c.ticked.mode = c.mode := Clock.stepped_mode ..
theorem Clock.ticked_baseRate : c.ticked.baseRate = c.baseRate := Clock.stepped_baseRate ..

theorem State.tickClocking_eq : s.tickClocking =
    match (s.withClock s.clock.rated).phaseMoves s.clock.advanced with
    | (s1, some e) => (s1, some e)
    | (s1, none) => s1.rampEnd := by
  have hphase : s.clock.advanced =
      s.clock.rated.capLimit (s.clock.rated.dir.move s.clock.rated.phase ((s.clock.total / 2000000 : Nat) : Int)) := by
    rw [Clock.rated, Clock.stepped_capLimit, Clock.stepped_dir, Clock.stepped_phase, Clock.advanced]
  rw [hphase]
  rfl

/-- The stages behind the accumulator leave its work alone. -/
theorem State.tickClocking_travel : s.tickClocking.1.clock.travel =
    (s.clock.total % 2000000, s.clock.advanced, s.clock.travelLimit, s.clock.direction) := by
  have hp := State.phaseMoves_stepped_travel s s.clock s.clock.ramp.tick
    (s.clock.ramp.tick.applied s.clock.baseRate) (s.clock.total % 2000000) s.clock.phase s.clock.advanced
  rw [← Clock.rated] at hp
  rw [State.tickClocking_eq]
  rcases hq : (s.withClock s.clock.rated).phaseMoves s.clock.advanced with ⟨s1, _ | e⟩
  · rw [hq] at hp
    exact (congrArg Clock.travel s1.rampEnd_clock :).trans hp
  · rw [hq] at hp
    exact hp

/-- A CLOCKING tick accumulates exactly (R110). -/
theorem State.tickClocking_accumulates :
    s.clock.total / 2000000 * 2000000 + s.tickClocking.1.clock.remainder =
      s.clock.remainder + s.clock.ramp.tick.applied s.clock.baseRate * 65536 ∧
    s.tickClocking.1.clock.remainder < 2000000 ∧ s.tickClocking.1.clock.phase = s.clock.advanced ∧
    s.tickClocking.1.clock.travelLimit = s.clock.travelLimit ∧
    s.tickClocking.1.clock.direction = s.clock.direction := by
  have htravel := s.tickClocking_travel
  simp only [Clock.travel, Prod.mk.injEq] at htravel
  obtain ⟨hrem, hphase, hlimit, hdirection⟩ := htravel
  rw [hrem]
  exact ⟨Nat.div_add_mod' _ _, Nat.mod_lt _ (by decide), hphase, hlimit, hdirection⟩

theorem State.tickClocking_axes : s.tickClocking.1.axes = s.axes :=
  (congrArg State.axes s.tickClocking_frame :)

theorem State.phaseMoves_axes (p : Int) : (s.phaseMoves p).1.axes = s.axes :=
  (congrArg State.axes (s.phaseMoves_frame p) :)

/-! ### The tick of a run -/

/-- The tick of the run's clock, with the end of the run it may hand back. -/
def State.clockTick (s : State) : State × Option RunEnd :=
  match s.clock.state with
  | .clocking => s.tickClocking
  | .following => s.tickFollowing
  | .stopped => (s, none)
  | .stepping => (s, none)

theorem State.tickRun_eq (r : PassRecord) : s.tickRun r =
    (s.clockTick.1.writeSetpoints r (r.evaluationPhase s.clockTick.1.clock.phase)).finish s.clockTick.2 := rfl

theorem State.clockTick_clocking (h : s.clock.state = .clocking) : s.clockTick = s.tickClocking := by
  simp only [State.clockTick, h]

theorem State.clockTick_freewheel (h : s.clock.state = .following) (hl : s.clock.lock = some .syncLost) :
    s.clockTick = s.phaseMoves s.clock.freewheeled.phase := by
  simp only [State.clockTick, h, State.tickFollowing, hl]
  rfl

theorem State.clockTick_axes : s.clockTick.1.axes = s.axes := by
  unfold State.clockTick State.tickFollowing
  split
  · exact s.tickClocking_axes
  · split
    · exact s.phaseMoves_axes _
    · exact s.phaseMoves_axes _
    · rfl
  · rfl
  · rfl

/-- Beside the axes, the tick of a run leaves what its clock's tick leaves, once an end of the run has taken
effect. -/
theorem State.tickRun_but_axes (r : PassRecord) :
    { s.tickRun r with axes := s.axes } = s.clockTick.1.finish s.clockTick.2 := by
  have hw := s.clockTick.1.writeSetpoints_finish r (r.evaluationPhase s.clockTick.1.clock.phase) s.clockTick.2
  rwa [s.clockTick_axes, ← State.tickRun_eq] at hw

/-- The tick of a run writes the setpoints of the pass axes and nothing else of any axis. -/
theorem State.tickRun_axis (r : PassRecord) (b : AxisId) :
    { (s.tickRun r).axis b with setpoint := (s.axis b).setpoint } = s.axis b ∧
    (b ∉ r.axes.map (·.axis) → (s.tickRun r).axis b = s.axis b) := by
  have hb : s.clockTick.1.axis b = s.axis b := by rw [State.axis, s.clockTick_axes, State.axis]
  rw [State.tickRun_eq, State.finish_axis, ← hb]
  exact ⟨State.writeSetpoints_axis _ _ _ _, fun h => State.writeSetpoints_notMem _ _ _ h⟩

section
variable {s} {r : PassRecord}

theorem State.tickPass_inRun (hr : s.pass.record = some r) (hrun : s.pass.state.inRun = true) :
    s.tickPass = s.tickRun r := by
  simp only [State.tickPass, hr, if_pos hrun]

/-- A CLOCKING tick whose phase stays before the next frame start. -/
theorem State.tickRun_clocking_within (h : s.clock.state = .clocking)
    (hp : ¬ s.clock.dir.reaches s.clock.advanced s.clock.nextFrameStart = true) :
    { s.tickRun r with axes := s.axes } =
      (s.withClock { s.clock.ticked with cameraSync := s.clock.syncAt s.clock.advanced }).ramped := by
  rw [s.tickRun_but_axes, s.clockTick_clocking h, State.tickClocking_eq, Clock.rated,
    State.phaseMoves_stepped_within _ _ _ _ _ hp]
  rfl

/-- A FOLLOWING tick in SYNC_LOST whose phase stays before the next frame start. -/
theorem State.tickRun_freewheel_within (h : s.clock.state = .following) (hl : s.clock.lock = some .syncLost)
    (hp : ¬ s.clock.dir.reaches s.clock.freewheeled.phase s.clock.nextFrameStart = true) :
    { s.tickRun r with axes := s.axes } =
      s.withClock { s.clock.freewheeled with cameraSync := s.clock.syncAt s.clock.freewheeled.phase } := by
  rw [s.tickRun_but_axes, s.clockTick_freewheel h hl, State.phaseMoves_within _ hp]
  rfl

variable (hr : s.pass.record = some r) (hrun : s.pass.state.inRun = true) (hheld : s.pass.state ≠ .held)
include hr hrun hheld

/-- A CLOCKING tick whose phase reaches the next frame start. -/
theorem State.tickRun_clocking_frameStart (h : s.clock.state = .clocking)
    (hp : s.clock.dir.reaches s.clock.advanced s.clock.nextFrameStart = true) :
    (s.completesAt r s.clock.nextFrame → { s.tickRun r with axes := s.axes } =
      ((s.withClock s.clock.ticked).startsFrame r s.clock.nextFrame).endRun .complete none) ∧
    (¬ s.completesAt r s.clock.nextFrame → { s.tickRun r with axes := s.axes } =
      ((s.withClock s.clock.ticked).startsFrame r s.clock.nextFrame).ramped) := by
  rw [s.tickRun_but_axes, s.clockTick_clocking h, State.tickClocking_eq, Clock.rated]
  constructor
  · intro hc
    rw [State.phaseMoves_stepped_completes _ _ _ _ hr hrun hheld hp hc]
    rfl
  · intro hc
    rw [State.phaseMoves_stepped_goesOn _ _ _ _ hr hrun hheld hp hc]
    rfl

/-- A FOLLOWING tick in SYNC_LOST whose phase reaches the next frame start. -/
theorem State.tickRun_freewheel_frameStart (h : s.clock.state = .following) (hl : s.clock.lock = some .syncLost)
    (hp : s.clock.dir.reaches s.clock.freewheeled.phase s.clock.nextFrameStart = true) :
    (s.completesAt r s.clock.nextFrame → { s.tickRun r with axes := s.axes } =
      ((s.withClock s.clock.freewheeled).startsFrame r s.clock.nextFrame).endRun .complete none) ∧
    (¬ s.completesAt r s.clock.nextFrame → { s.tickRun r with axes := s.axes } =
      (s.withClock s.clock.freewheeled).startsFrame r s.clock.nextFrame) := by
  rw [s.tickRun_but_axes, s.clockTick_freewheel h hl]
  constructor
  · intro hc
    rw [State.phaseMoves_completes hr hrun hheld hp hc]
    rfl
  · intro hc
    rw [State.phaseMoves_goesOn hr hrun hheld hp hc]
    rfl

end

/-- Settles O41: the accumulator's identity, and the tick of a CLOCKING clock and of a freewheel, each by whether the
phase reaches the next frame start, whether that ends the run, and how the ramp ends. -/
theorem aClockingTickAccumulatesExactly : Obligations.AClockingTickAccumulatesExactly := by
  unfold Obligations.AClockingTickAccumulatesExactly
  refine ⟨fun s _ => ?_, fun s r m d lim hr hrun hm hd hl => ?_⟩
  · obtain ⟨hsum, hlt, hphase, hlimit, hdirection⟩ := s.tickClocking_accumulates
    refine ⟨s.clock.total / 2000000, ?_⟩
    intro rate
    have hrate : rate = s.clock.ramp.tick.applied s.clock.baseRate := by
      simp only [rate]; cases s.clock.ramp <;> rfl
    refine ⟨hrate ▸ hsum, hlt, ?_, hlimit, hdirection, s.tickClocking_axes⟩
    rw [hphase, Clock.advanced, Clock.capLimit, Clock.dir]
    cases s.clock.travelLimit <;> cases s.clock.direction.getD .forward <;> rfl
  · intro t n past half trailEnd load entered counted stands ended rampEnds goes
    have ht : t = s.tickRun r := State.tickPass_inRun hr hrun
    have hdir : s.clock.dir = d := s.clock.dir_of_direction hd
    have hn : n = s.clock.nextFrame := (s.clock.nextFrame_of_direction hd).symm
    have hpast : ∀ x y, past x y ↔ d.reaches y x = true := fun x y => (Direction.reaches_iff d y x).symm
    have hhalf : half = d.move (s.clock.currentFrame * 65536) 32768 := by
      cases d <;> rfl
    have htrail : trailEnd = r.trailEnd := r.trailEnd_eq.symm
    have hcounted : counted = s.pass.frameStart r n := (Pass.frameStart_eq r n s.pass).symm
    have hcomp : (n = trailEnd ∧ (counted.state = .running ∨ counted.state = .holding ∨
          counted.state = .resuming ∨ counted.state = .trailing)) ↔ s.completesAt r s.clock.nextFrame := by
      rw [State.completesAt, PassState.completes_iff, ← hn, ← hcounted, htrail]
    have hload : ∀ c : Clock, c.mode = s.clock.mode → c.baseRate = s.clock.baseRate →
        (s.withClock c).loadedRate n = load := by
      intro c hc hb
      rw [State.loadedRate_of_move (s := s.withClock c) hr hm, State.withClock_clock, hc, hb]
    have hramp : ∀ c p ramp, c.ramp = ramp → c.direction = some d → c.travelLimit = some lim →
        { t with axes := s.axes } = ({ s with clock := c, pass := p } : State).ramped → rampEnds c p ramp := by
      intro c p ramp hcr hcd hcl hX
      have hlim : past lim c.phase ↔ c.atLimit = true := by
        rw [hpast, c.atLimit_of_limit hcl, c.dir_of_direction hcd]
      cases ramp with
      | none => exact hX.trans (State.ramped_none hcr)
      | held => exact hX.trans (State.ramped_held hcr)
      | hold h k =>
        exact ⟨fun hk => hX.trans (State.ramped_hold_goesOn hcr hk),
          fun hk => hX.trans (State.ramped_hold_ends hcr hk)⟩
      | resume h k =>
        exact ⟨fun hk => hX.trans (State.ramped_resume_goesOn hcr hk),
          fun hk => hX.trans (State.ramped_resume_ends hcr hk)⟩
      | stop h k =>
        refine ⟨fun hk hl => hX.trans (State.ramped_stop_goesOn hcr hk (mt hlim.2 hl)),
          fun he => (hX.trans (State.ramped_stop_ends hcr (he.imp_right hlim.1))).trans ?_⟩
        rcases p.stopCause with _ | _ | _ <;> rfl
    have hsync : ∀ (p : Int) (b : Bool), (b = true ↔ s.clock.cameraSync = true ∧ ¬past half p) →
        b = s.clock.syncAt p :=
      fun p b hb => s.clock.eq_syncAt hd (hhalf ▸ hpast half p) hb
    have hreach : ∀ p, past (n * 65536) p ↔ s.clock.dir.reaches p s.clock.nextFrameStart = true := by
      intro p
      rw [hpast, hdir, s.clock.nextFrameStart_eq, hn]
    have hstart : ∀ c : Clock, c.mode = s.clock.mode → c.baseRate = s.clock.baseRate →
        (s.withClock c).startsFrame r s.clock.nextFrame =
          { s with clock := { c with currentFrame := n, cameraSync := true, baseRate := load }
                   pass := counted } := by
      intro c hc hb
      rw [State.startsFrame, ← hn, hload c hc hb, hcounted]
      rfl
    refine ⟨fun b hb => ht ▸ (s.tickRun_axis r b).2 hb, fun b => ht ▸ (s.tickRun_axis r b).1,
      fun hs => ?_, fun hs hlock => ?_⟩
    · intro ramp rate total
      have hrise : ramp = s.clock.ramp.tick := by simp only [ramp]; cases s.clock.ramp <;> rfl
      have hrate : rate = s.clock.ramp.tick.applied s.clock.baseRate := by
        simp only [rate, hrise]; cases s.clock.ramp.tick <;> rfl
      have htotal : total = s.clock.total := by simp only [total, hrate]; rfl
      have hc : s.clock.ticked = { s.clock with
          ramp := ramp, appliedRate := rate, remainder := total % 2000000
          phase := d.cap lim (d.move s.clock.phase ((total / 2000000 : Nat) : Int)) } := by
        rw [Clock.ticked, Clock.advanced, s.clock.capLimit_of_limit hl, hdir, hrise, hrate, htotal,
          Clock.stepped]
      have hcd := s.clock.ticked_direction.trans hd
      have hcl := s.clock.ticked_travelLimit.trans hl
      have hsf := hstart s.clock.ticked s.clock.ticked_mode s.clock.ticked_baseRate
      have hgoes : goes s.clock.ticked ramp := by
        rw [hrise]
        refine ⟨fun hp b hb => ?_, fun hp hh => ⟨fun hend => ?_, fun hend => ?_⟩⟩
        all_goals rw [s.clock.ticked_phase] at hp
        · rw [s.clock.ticked_phase] at hb
          rw [hsync _ b hb]
          refine hramp _ _ _ s.clock.ticked_ramp hcd hcl ?_
          rw [ht]
          exact State.tickRun_clocking_within hs (mt (hreach _).2 hp)
        · have hX := (State.tickRun_clocking_frameStart hr hrun hh hs ((hreach _).1 hp)).1 (hcomp.1 hend)
          rw [hsf, ← ht] at hX
          exact hX
        · have hX := (State.tickRun_clocking_frameStart hr hrun hh hs ((hreach _).1 hp)).2 (mt hcomp.2 hend)
          rw [hsf, ← ht] at hX
          exact hramp _ _ _ s.clock.ticked_ramp hcd hcl hX
      rw [hc] at hgoes
      cases d <;> exact hgoes
    · have hc : s.clock.freewheeled = { s.clock with
          phase := d.cap lim (d.move s.clock.phase s.clock.increment) } := by
        rw [Clock.freewheeled, s.clock.capLimit_of_limit hl, hdir]
      have hgoes : goes s.clock.freewheeled .none := by
        refine ⟨fun hp b hb => ?_, fun hp hh => ⟨fun hend => ?_, fun hend => ?_⟩⟩
        · rw [hsync _ b hb]
          have hX := State.tickRun_freewheel_within (r := r) hs hlock (mt (hreach _).2 hp)
          rw [← ht] at hX
          exact hX
        · have hX := (State.tickRun_freewheel_frameStart hr hrun hh hs hlock ((hreach _).1 hp)).1
            (hcomp.1 hend)
          rw [hstart s.clock.freewheeled rfl rfl, ← ht] at hX
          exact hX
        · have hX := (State.tickRun_freewheel_frameStart hr hrun hh hs hlock ((hreach _).1 hp)).2
            (mt hcomp.2 hend)
          rw [hstart s.clock.freewheeled rfl rfl, ← ht] at hX
          exact hX
      rw [hc] at hgoes
      cases d <;> exact hgoes

end Sys2Proof.Machine
end

section
/-! SUPPORT. A camera frame edge and the loss timer, said once (R116 to R123): when an edge is taken and as what, the
period it measures, the lock, the overspeed stop, the snap and the end of the trail it may reach. -/

namespace Sys2Proof.Machine

variable {s : State} {c : Clock} {r : PassRecord} {t e q : Nat}

/-! ### The loss timer (R118, R121) -/

theorem Clock.deadline_of_locked (hs : c.state = .following) (hl : c.lock = some .locked)
    (he : c.lastEdge = some e) (hq : c.lastPeriod = some q) : c.deadline = some (e + 2 * q) := by
  simp only [Clock.deadline, hs, hl, he, hq]

theorem Clock.deadline_eq_none (h : c.state ≠ .following ∨ c.lock ≠ some .locked) : c.deadline = none := by
  unfold Clock.deadline
  split
  · next hs hl _ _ => exact absurd hl (h.resolve_left (not_not.2 hs))
  · rfl

theorem Clock.deadline_eq_some {d : Nat} (h : c.deadline = some d) :
    ∃ e q, c.lastEdge = some e ∧ c.lastPeriod = some q ∧ d = e + 2 * q := by
  unfold Clock.deadline at h
  split at h
  · next he hq => exact ⟨_, _, he, hq, (Option.some.inj h).symm⟩
  · cases h

theorem Clock.deadline_of_lock_ne (h : c.lock ≠ some .locked) : c.deadline = none :=
  Clock.deadline_eq_none (.inr h)

theorem State.expireBefore_running (h : ∀ d, s.clock.deadline = some d → t ≤ d) : s.expireBefore t = s := by
  unfold State.expireBefore
  split
  · next d hd => exact if_neg (Nat.not_lt.2 (h d hd))
  · rfl

theorem State.expireBefore_of_lock_ne (h : s.clock.lock ≠ some .locked) : s.expireBefore t = s :=
  State.expireBefore_running (fun d hd => by simp [Clock.deadline_of_lock_ne h] at hd)

/-- No glitch comes so late that the loss timer has run out: the last period is no glitch itself (R107). -/
theorem State.expireBefore_glitch (he : s.clock.lastEdge = some e) (h : t < e + 109226)
    (hper : ∀ q, s.clock.lastPeriod = some q → 109226 ≤ q) : s.expireBefore t = s := by
  refine State.expireBefore_running (fun d hd => ?_)
  obtain ⟨e', q, he', hq, rfl⟩ := Clock.deadline_eq_some hd
  obtain rfl : e = e' := Option.some.inj (he.symm.trans he')
  have hq' := hper q hq
  omega

theorem State.expireBefore_late {d : Nat} (hd : s.clock.deadline = some d) (h : d < t) :
    s.expireBefore t = s.followerExpires := by
  simp only [State.expireBefore, hd, if_pos h]

/-- A condition is noted while the report's outcome is RUNNING (R145). -/
theorem State.note_running (ho : s.pass.report.outcome = .running) (f : Conditions → Conditions) :
    s.note f = s.withPass { s.pass with
      report := { s.pass.report with conditions := f s.pass.report.conditions } } := by
  rw [State.note, Report.note, if_pos ho]

theorem State.followerExpires_begun (hf : s.clock.firstFrameBegun = some true)
    (ho : s.pass.report.outcome = .running) :
    s.followerExpires = ({ s with
      clock := { s.clock with lock := some .syncLost }
      pass := { s.pass with report := { s.pass.report with
        conditions := { s.pass.report.conditions with syncLost := true } } } } : State).raise .syncLost := by
  rw [State.followerExpires, if_pos hf]
  exact congrArg (State.raise .syncLost)
    (State.note_running (s := s.withClock { s.clock with lock := some .syncLost }) ho _)

theorem State.followerExpires_notBegun (hf : s.clock.firstFrameBegun = some false) :
    s.followerExpires = { s with clock := { s.clock with lock := some .acquiring, stableCount := 0 } } := by
  rw [State.followerExpires, if_neg (by simp [hf])]
  rfl

/-- A loss timer that has run out leaves a FOLLOWING clock without lock. -/
theorem State.followerExpires_clock :
    s.followerExpires.clock.state = s.clock.state ∧ s.followerExpires.clock.lock ≠ some .locked := by
  unfold State.followerExpires
  split <;> exact ⟨rfl, by simp [State.loseSync, State.loseLock, State.note, State.withClock, State.withPass]⟩

theorem State.tickLoss_of_none (h : s.clock.deadline = none) : s.tickLoss = s := by
  simp only [State.tickLoss, h]

theorem State.tickLoss_running {d : Nat} (hd : s.clock.deadline = some d) (h : s.refClock < d) :
    s.tickLoss = s := by
  simp only [State.tickLoss, hd, if_neg (Nat.not_le.2 h)]

theorem State.tickLoss_expires {d : Nat} (hd : s.clock.deadline = some d) (h : d ≤ s.refClock) :
    s.tickLoss = s.followerExpires := by
  simp only [State.tickLoss, hd, if_pos h]

theorem State.lossDue_of_deadline {d : Nat} (hd : s.clock.deadline = some d) (h : d ≤ s.refClock + 16384) :
    s.lossDue = true := by
  simp only [State.lossDue, hd]
  exact decide_eq_true h

theorem exec_syncLossTimeout {d : Nat} (hd : s.clock.deadline = some d) (h : d ≤ s.refClock + 16384)
    (hf : s.clock.firstFrameBegun = some true) : exec .syncLossTimeout s = .next s.followerExpires := by
  show execSyncLossTimeout s = _
  rw [execSyncLossTimeout, if_pos (by simp [State.lossDue_of_deadline hd h, hf]), State.followerExpires,
    if_pos hf]

theorem exec_lockTimeout {d : Nat} (hd : s.clock.deadline = some d) (h : d ≤ s.refClock + 16384)
    (hf : s.clock.firstFrameBegun = some false) : exec .lockTimeout s = .next s.followerExpires := by
  show execLockTimeout s = _
  rw [execLockTimeout, if_pos (by simp [State.lossDue_of_deadline hd h, hf]), State.followerExpires,
    if_neg (by simp [hf])]

/-! ### When an edge is taken (R116, R117) -/

theorem exec_cameraFrameEdge (o : Nat) : exec (.cameraFrameEdge o) s = .next (s.cameraEdge (s.refClock + o)) := rfl

theorem State.cameraEdge_ignored (h : s.clock.state ≠ .following) : s.cameraEdge t = s := by
  unfold State.cameraEdge
  split
  · next hs => exact absurd hs h
  all_goals rfl

/-- An edge behind the deadline of the loss timer finds the sync, or the lock, lost. -/
theorem State.cameraEdge_late (hs : s.clock.state = .following) {d : Nat} (hd : s.clock.deadline = some d)
    (h : d < t) : s.cameraEdge t = s.followerExpires.cameraEdge t := by
  obtain ⟨hstate, hlock⟩ := s.followerExpires_clock
  simp only [State.cameraEdge, hs, hstate, State.expireBefore_late hd h, State.expireBefore_of_lock_ne hlock]

section
variable (hs : s.clock.state = .following) (hx : s.expireBefore t = s)
include hs hx

theorem State.cameraEdge_glitch (he : s.clock.lastEdge = some e) (h : t < e + 109226) :
    s.cameraEdge t = s.withClock { s.clock with glitchCount := min (s.clock.glitchCount + 1) 255 } := by
  simp only [State.cameraEdge, hs, hx, he, if_pos (decide_eq_true h)]

variable (hr : s.pass.record = some r)
include hr

theorem State.cameraEdge_first (he : s.clock.lastEdge = none) (hl : s.clock.lock ≠ some .syncLost) :
    s.cameraEdge t = s.withClock { s.clock with lastEdge := some t } := by
  simp only [State.cameraEdge, hs, hx, he, hr, if_neg hl]
  rfl

variable (he : s.clock.lastEdge = some e) (h : e + 109226 ≤ t)
include he h

theorem State.cameraEdge_relocks (hl : s.clock.lock = some .syncLost) :
    s.cameraEdge t = (s.withClock { s.clock with lastEdge := some t }).relock r := by
  simp only [State.cameraEdge, hs, hx, he, hr, if_pos hl]
  exact if_neg (by simpa using h)

theorem State.cameraEdge_follows (hl : s.clock.lock ≠ some .syncLost) :
    s.cameraEdge t = (s.withClock { s.clock with lastEdge := some t }).followedEdge r (some e) t := by
  simp only [State.cameraEdge, hs, hx, he, hr, if_neg hl]
  exact if_neg (by simpa using h)

end

/-! ### The period of an edge (R117, R120) -/

/-- The period an edge measures. -/
def edgePeriod (e t : Nat) : Nat := min (t - e) 4294967295

/-- The clock with the edge at time `t` taken, its period used. -/
def Clock.used (c : Clock) (e t : Nat) : Clock :=
  { c with
    lastEdge := some t, previousPeriod := c.lastPeriod, lastPeriod := some (edgePeriod e t)
    increment := min (1073741824 / edgePeriod e t) 9830
    measuredRate := min (32768000000 / edgePeriod e t) 300002 }

/-- The same clock with the first frame begun. -/
def Clock.usedFirst (c : Clock) (e t : Nat) : Clock := { c.used e t with firstFrameBegun := some true }

theorem State.overspeed_iff (hr : s.pass.record = some r) : s.overspeed = true ↔
    s.pass.endReached ≠ some true ∧
      ∃ m sum, s.move r.slot = some m ∧ m.summary = some sum ∧ sum.ceiling < s.clock.measuredRate := by
  simp only [State.overspeed, hr]
  cases hm : s.move r.slot with
  | none => simp
  | some m => cases hsum : m.summary <;> simp [hsum]

/-- The edge exceeds the ceiling before the end frame (R120). -/
theorem State.overspeed_used_iff (hr : s.pass.record = some r) :
    (s.withClock (s.clock.used e t)).overspeed = true ↔ s.pass.endReached ≠ some true ∧
      ∃ m sum, s.move r.slot = some m ∧ m.summary = some sum ∧
        sum.ceiling < min (32768000000 / edgePeriod e t) 300002 :=
  State.overspeed_iff (s := s.withClock (s.clock.used e t)) hr

/-- An edge within the ceiling of the bound move is no overspeed. -/
theorem State.not_overspeed_used (hr : s.pass.record = some r) {m : Move} {sum : Summary}
    (hm : s.move r.slot = some m) (hsum : m.summary = some sum)
    (h : min (32768000000 / edgePeriod e t) 300002 ≤ sum.ceiling) :
    ¬ (s.withClock (s.clock.used e t)).overspeed = true := by
  rw [State.overspeed_used_iff hr]
  rintro ⟨-, m', sum', hm', hsum', hfast⟩
  obtain rfl : m = m' := Option.some.inj (hm.symm.trans hm')
  obtain rfl : sum = sum' := Option.some.inj (hsum.symm.trans hsum')
  exact absurd h (Nat.not_le.2 hfast)

/-- What a used edge does, by the overspeed test, the lock and the first frame. -/
theorem State.followedEdge_overspeed (h : (s.withClock (s.clock.used e t)).overspeed = true) :
    (s.withClock { s.clock with lastEdge := some t }).followedEdge r (some e) t =
      (s.withClock (s.clock.used e t)).overspeedStop r := if_pos h

section
variable (h : ¬ (s.withClock (s.clock.used e t)).overspeed = true)
include h

theorem State.followedEdge_acquires (hl : s.clock.lock = some .acquiring) :
    (s.withClock { s.clock with lastEdge := some t }).followedEdge r (some e) t =
      s.withClock ((s.clock.used e t).acquire r.lead s.clock.lastPeriod (edgePeriod e t)) := by
  refine (if_neg h).trans ?_
  have hl' : (s.withClock (s.clock.used e t)).clock.lock = some .acquiring := hl
  split
  · next h1 _ => simp_all [State.withClock, Clock.usePeriod]
  · next h1 _ => simp_all [State.withClock, Clock.usePeriod]
  · rfl

theorem State.followedEdge_snaps (hl : s.clock.lock = some .locked) (hf : s.clock.firstFrameBegun = some true) :
    (s.withClock { s.clock with lastEdge := some t }).followedEdge r (some e) t =
      (s.withClock (s.clock.used e t)).snap.1.writeAndFinish r (s.withClock (s.clock.used e t)).snap.2 := by
  refine (if_neg h).trans ?_
  have hl' : (s.withClock (s.clock.used e t)).clock.lock = some .locked := hl
  split
  · rfl
  · simp_all [State.withClock, Clock.usePeriod]
  · simp_all [State.withClock, Clock.usePeriod]

theorem State.followedEdge_begins (hl : s.clock.lock = some .locked)
    (hf : s.clock.firstFrameBegun = some false) :
    (s.withClock { s.clock with lastEdge := some t }).followedEdge r (some e) t =
      ((s.withClock (s.clock.usedFirst e t)).frameStart r.startFrame).1.writeAndFinish r
        ((s.withClock (s.clock.usedFirst e t)).frameStart r.startFrame).2 := by
  refine (if_neg h).trans ?_
  have hl' : (s.withClock (s.clock.used e t)).clock.lock = some .locked := hl
  split
  · simp_all [State.withClock, Clock.usePeriod]
  · rfl
  · simp_all [State.withClock, Clock.usePeriod]

end

/-! ### The lock (R118) -/

theorem stablePeriod_iff {previous : Option Nat} {p : Nat} : stablePeriod previous p = true ↔
    ∃ q, previous = some q ∧ p ≤ q + q / 64 ∧ q ≤ p + q / 64 := by
  cases previous with
  | none => simp [stablePeriod]
  | some q =>
    simp only [stablePeriod, decide_eq_true_iff, Option.some.injEq, exists_eq_left']
    omega

section
variable {lead p : Nat} {previous : Option Nat}

theorem Clock.acquire_stable (h : stablePeriod previous p = true) :
    (max lead 2 ≤ min (c.stableCount + 1) 255 → c.acquire lead previous p =
      { c with stableCount := min (c.stableCount + 1) 255, lock := some .locked
               firstFrameBegun := some false }) ∧
    (min (c.stableCount + 1) 255 < max lead 2 → c.acquire lead previous p =
      { c with stableCount := min (c.stableCount + 1) 255 }) := by
  simp only [Clock.acquire, h, if_true]
  exact ⟨fun hc => if_pos hc, fun hc => if_neg (Nat.not_le.2 hc)⟩

theorem Clock.acquire_unstable (h : ¬ stablePeriod previous p = true) :
    c.acquire lead previous p = { c with stableCount := 0 } := by
  rw [Clock.acquire, if_neg h]
  exact if_neg (by omega)

end

/-! ### The overspeed stop (R120, R123) -/

theorem State.clockStop_unramped {hs : Nat} (hr : s.clock.ramp = .none) (hst : 0 < hs) :
    s.clockStop hs = (s.withClock { s.clock with ramp := .stop hs 0 }, none) := by
  have hj : stopTick hs 1 1 = 0 := by simp [stopTick]
  have hlt : ¬ hs ≤ 0 := by omega
  simp only [State.clockStop, hr, Ramp.fraction, hj, if_neg hlt]

theorem State.followerStop_begun {hs : Nat} (hf : s.clock.firstFrameBegun = some true) (hst : 0 < hs) :
    s.followerStop hs = (s.withClock { s.clock with
      state := .clocking, remainder := 0, baseRate := s.clock.measuredRate, ramp := .stop hs 0
      lock := none, firstFrameBegun := none }, none) := by
  rw [State.followerStop, if_pos hf, State.clockStop_unramped rfl hst]
  rfl

theorem State.followerStop_notBegun {hs : Nat} (hf : s.clock.firstFrameBegun = some false) :
    s.followerStop hs = (s, some .stopped) := by
  rw [State.followerStop, if_neg (by simp [hf])]

theorem State.overspeedStop_begun (hf : s.clock.firstFrameBegun = some true) (hst : 0 < r.stopRamp) :
    s.overspeedStop r = { s with
      pass := { s.pass with state := .stopping, stopCause := some .overspeed }
      clock := { s.clock with
        state := .clocking, remainder := 0, baseRate := s.clock.measuredRate
        ramp := .stop r.stopRamp 0, lock := none, firstFrameBegun := none } } :=
  congrArg (fun q => q.1.finish q.2) (State.followerStop_begun
    (s := s.withPass { s.pass with state := .stopping, stopCause := some .overspeed }) hf hst)

theorem State.overspeedStop_notBegun (hf : s.clock.firstFrameBegun = some false) :
    s.overspeedStop r = ({ s with
      pass := { s.pass with state := .stopping, stopCause := some .overspeed } } : State).endRun .aborted
        (some .overspeed) :=
  congrArg (fun q => q.1.finish q.2) (State.followerStop_notBegun
    (s := s.withPass { s.pass with state := .stopping, stopCause := some .overspeed }) hf)

end Sys2Proof.Machine
end

section
/-! SUPPORT. The snap of an edge and the frame start it makes (R119, R122, R136), the end of the trail with its end
values (R131, R139), and what the used edge and the relock edge leave. -/

namespace Sys2Proof.Machine

variable {s : State} {r : PassRecord} {t e : Nat}

/-! ### The pass at a frame start (R136) -/

/-- A frame of the pass range ends the trail only as the end frame of a pass without trail. -/
theorem PassRecord.ne_trailEnd {n : Int} (hlo : (r.first : Int) ≤ n) (hhi : n ≤ r.last)
    (h : n = r.endFrame → 0 < r.trail) : n ≠ r.trailEnd := by
  unfold PassRecord.endFrame at h
  rw [PassRecord.trailEnd_eq]
  cases hd : r.direction <;> simp only [hd] at h ⊢ <;> omega

/-- The evaluation phase at the end of the trail is that of the end frame (R131). -/
theorem PassRecord.evaluationPhase_trailEnd (h : r.first < r.last) :
    r.evaluationPhase (r.trailEnd * 65536) = r.endFrame * 65536 := by
  rw [PassRecord.trailEnd_eq, PassRecord.evaluationPhase, PassRecord.endFrame, saturate, puPerFrame]
  cases r.direction <;> dsimp only <;> split_ifs <;> omega

/-- The pass behind a frame start at frame n in RUNNING or TRAILING. -/
theorem Pass.frameStart_of_rolled {p : Pass} (h : p.state = .running ∨ p.state = .trailing) (n : Int) :
    p.frameStart r n = { p with
      report := { p.report with
        frames := if (r.first : Int) ≤ n ∧ n ≤ r.last then p.report.frames + 1 else p.report.frames }
      endReached := if n = r.endFrame then some true else p.endReached
      state := if n = r.endFrame then .trailing else p.state } := by
  have hent : p.entered r n = p.state := if_neg (fun hroll => by simp [hroll.1] at h)
  rw [Pass.frameStart_eq, hent]
  rcases h with h | h <;> simp [h]

theorem Pass.frameStart_outcome (r : PassRecord) (n : Int) (p : Pass) :
    (p.frameStart r n).report.outcome = p.report.outcome := by
  rw [Pass.frameStart_eq]

theorem State.completesAt_of_rolled (s : State) (h : s.pass.state = .running ∨ s.pass.state = .trailing) (n : Int) :
    s.completesAt r n ↔ n = r.trailEnd := by
  rw [State.completesAt, Pass.frameStart_of_rolled h, PassState.completes_iff, and_iff_left]
  by_cases he : n = r.endFrame <;> rcases h with h | h <;> simp [he, h]

/-- The pass behind the opening frame start of a rolling pass. -/
theorem Pass.frameStart_of_rolling {p : Pass} (h : p.state = .rolling) (hlt : r.first < r.last) :
    p.frameStart r r.startFrame = { p with
      state := .running, report := { p.report with frames := p.report.frames + 1 } } := by
  have hent : p.entered r r.startFrame = .running := if_pos ⟨h, rfl⟩
  have hend : r.startFrame ≠ r.endFrame := by
    rw [PassRecord.startFrame, PassRecord.endFrame]
    cases r.direction <;> dsimp only <;> omega
  have hin : (r.first : Int) ≤ r.startFrame ∧ r.startFrame ≤ r.last := by
    rw [PassRecord.startFrame]
    cases r.direction <;> dsimp only <;> omega
  rw [Pass.frameStart_eq, hent, if_pos hin, if_neg hend, if_neg (fun hc => hend hc.1)]

theorem PassRecord.startFrame_ne_trailEnd (hlt : r.first < r.last) : r.startFrame ≠ r.trailEnd := by
  rw [PassRecord.trailEnd_eq, PassRecord.startFrame]
  cases r.direction <;> dsimp only <;> omega

/-! ### The snap (R119, R122) -/

/-- Outside MASTER a frame start loads no base rate. -/
theorem State.startsFrame_of_not_master (h : s.clock.mode ≠ some .master) (n : Int) :
    s.startsFrame r n =
      { s with clock := { s.clock with currentFrame := n, cameraSync := true }, pass := s.pass.frameStart r n } := by
  rw [State.startsFrame, State.loadedRate_of_not_master h]

/-- The state a snap to frame n's start leaves. -/
def State.snapped (s : State) (r : PassRecord) (n : Int) : State :=
  { s with
    clock := { s.clock with phase := n * 65536, currentFrame := n, cameraSync := true }
    pass := s.pass.frameStart r n }

theorem State.snapped_eq {p : Pass} (c : Clock) {n : Int} (h : s.pass.frameStart r n = p) :
    (s.withClock c).snapped r n =
      { s with clock := { c with phase := n * 65536, currentFrame := n, cameraSync := true }, pass := p } := by
  rw [State.snapped, State.withClock_pass, h]
  rfl

section
variable {d : Direction} {lim : Int} (hd : s.clock.direction = some d) (hl : s.clock.travelLimit = some lim)
include hd hl

/-- The travel limit lies before the next frame start: the snap reaches the limit. -/
theorem State.snap_limit (hw : ¬ d.reaches lim s.clock.nextFrameStart = true) :
    s.snap = (s.withClock { s.clock with phase := lim, cameraSync := s.clock.syncAt lim }, none) := by
  have hdir := s.clock.dir_of_direction hd
  have hcap : s.clock.capLimit s.clock.nextFrameStart = lim := by
    rw [s.clock.capLimit_of_limit hl, hdir]
    cases d <;> simp only [Direction.cap, Direction.reaches, decide_eq_true_iff] at hw ⊢ <;> omega
  rw [State.snap, hcap]
  exact State.phaseMoves_within s (hdir ▸ hw)

/-- The next frame start lies within the travel limit, and the snap reaches it. -/
theorem State.snap_reaches (hw : d.reaches lim s.clock.nextFrameStart = true) :
    s.clock.capLimit s.clock.nextFrameStart = s.clock.nextFrameStart ∧
      s.clock.dir.reaches s.clock.nextFrameStart s.clock.nextFrameStart = true := by
  rw [s.clock.capLimit_of_limit hl, s.clock.dir_of_direction hd]
  cases d <;> simp only [Direction.cap, Direction.reaches, decide_eq_true_iff] at hw ⊢ <;> omega

variable (hm : s.clock.mode = some .follower) (hr : s.pass.record = some r)
  (hrun : s.pass.state = .running ∨ s.pass.state = .trailing)
include hm hr hrun

theorem State.snap_frameStart (hw : d.reaches lim s.clock.nextFrameStart = true) :
    (s.clock.nextFrame ≠ r.trailEnd → s.snap = (s.snapped r s.clock.nextFrame, none)) ∧
    (s.clock.nextFrame = r.trailEnd → s.snap = (s.snapped r s.clock.nextFrame, some .complete)) := by
  obtain ⟨hcap, hreach⟩ := State.snap_reaches hd hl hw
  have hin : s.pass.state.inRun = true := by rcases hrun with h | h <;> rw [h] <;> rfl
  have hheld : s.pass.state ≠ .held := by rcases hrun with h | h <;> simp [h]
  have hstart : (s.withClock { s.clock with phase := s.clock.nextFrameStart }).startsFrame r s.clock.nextFrame =
      s.snapped r s.clock.nextFrame := by
    rw [State.startsFrame_of_not_master (by simp [State.withClock, hm]), Clock.nextFrameStart_eq]
    rfl
  have hends := s.completesAt_of_rolled (r := r) hrun s.clock.nextFrame
  rw [State.snap, hcap, ← hstart]
  exact ⟨fun h => State.phaseMoves_goesOn hr hin hheld hreach (mt hends.1 h),
    fun h => State.phaseMoves_completes hr hin hheld hreach (hends.2 h)⟩

end

/-! ### The end of the trail (R131, R139) -/

/-- The end of a run on an edge leaves, beside the axes, what it leaves on its own. -/
theorem State.writeAndFinish_complete :
    { s.writeAndFinish r (some .complete) with axes := s.axes } = s.endRun .complete none :=
  s.writeSetpoints_finish r _ (some .complete)

/-- The axes stand at the end values of the pass: the setpoint of every pass axis that is ON is its track value at
the end frame, and no other axis is written. -/
def State.AtEndValues (s u : State) (r : PassRecord) : Prop :=
  (∀ m, s.move r.slot = some m → r.first < r.last → (r.axes.map (·.axis)).Nodup → ∀ pa ∈ r.axes,
    u.axis pa.axis = if (s.axis pa.axis).drive = .on
      then { s.axis pa.axis with
        setpoint := trackValue (m.axisTrack pa.axis) (r.endFrame * 65536) pa.offset }
      else s.axis pa.axis) ∧
  (∀ b, b ∉ r.axes.map (·.axis) → u.axis b = s.axis b)

theorem State.writeAndFinish_atEndValues {v : State} (ha : v.axes = s.axes) (hs : v.slots = s.slots)
    (hp : v.clock.phase = r.trailEnd * 65536) :
    s.AtEndValues (v.writeAndFinish r (some .complete)) r := by
  have hwrite : ∀ b, (v.writeAndFinish r (some .complete)).axis b =
      (v.writeSetpoints r (r.evaluationPhase v.clock.phase)).axis b := fun b => State.finish_axis _ _ b
  have haxis : ∀ b, v.axis b = s.axis b := fun b => by rw [State.axis, ha, State.axis]
  refine ⟨fun m hm hlt hn pa hpa => ?_, fun b hb => ?_⟩
  · rw [← State.move_congr hs] at hm
    rw [hwrite, hp, PassRecord.evaluationPhase_trailEnd hlt, v.writeSetpoints_mem r _ hm hn hpa, haxis]
  · rw [hwrite, v.writeSetpoints_notMem r _ hb, haxis]

/-! ### The relock edge (R122) -/

/-- The relock noted and raised, behind its snap. -/
def State.relocked (s : State) : State :=
  ({ s with
    clock := { s.clock with lock := some .locked }
    pass := { s.pass with report := { s.pass.report with
      conditions := { s.pass.report.conditions with relocked := true } } } } : State).raise .syncRelock

theorem State.relock_of_snap {u : State} {x : Option RunEnd} (hu : s.snap = (u, x))
    (ho : u.pass.report.outcome = .running) : s.relock r = u.relocked.writeAndFinish r x := by
  rw [State.relock, hu]
  exact congrArg (fun v : State => (v.raise .syncRelock).writeAndFinish r x)
    (State.note_running (s := u.withClock { u.clock with lock := some .locked }) ho _)

end Sys2Proof.Machine
end

section
/-! SUPPORT. The accepted edge by the lock state, put together, and the statement on camera edges (R116 to R123). -/

namespace Sys2Proof.Machine

variable {s : State} {r : PassRecord} {t e : Nat}

/-- The edge comes no later than 2 × P after the last accepted one on a LOCKED clock (entry 37). -/
def Clock.inTime (c : Clock) (e t : Nat) : Prop :=
  c.lock = some .locked ∧ ∃ q, c.lastPeriod = some q ∧ t ≤ e + 2 * q

section
variable (hs : s.clock.state = .following) (hr : s.pass.record = some r) (he : s.clock.lastEdge = some e)
  (h : e + 109226 ≤ t)
include hs hr he h

omit hr h in
theorem State.expireBefore_inTime (hin : s.clock.inTime e t) : s.expireBefore t = s := by
  obtain ⟨hl, q, hq, ht⟩ := hin
  refine State.expireBefore_running (fun d hd => ?_)
  rw [Clock.deadline_of_locked hs hl he hq, Option.some.injEq] at hd
  omega

theorem State.cameraEdge_acquires (hl : s.clock.lock = some .acquiring)
    (hn : ¬ (s.withClock (s.clock.used e t)).overspeed = true) :
    s.cameraEdge t =
      s.withClock ((s.clock.used e t).acquire r.lead s.clock.lastPeriod (edgePeriod e t)) := by
  rw [State.cameraEdge_follows hs (State.expireBefore_of_lock_ne (by simp [hl])) hr he h (by simp [hl]),
    State.followedEdge_acquires hn hl]

theorem State.cameraEdge_overspeeds (hl : s.clock.lock = some .acquiring ∨ s.clock.inTime e t)
    (ho : (s.withClock (s.clock.used e t)).overspeed = true) :
    s.cameraEdge t = (s.withClock (s.clock.used e t)).overspeedStop r := by
  have hne : s.clock.lock ≠ some .syncLost := by
    rcases hl with hl | hl
    · simp [hl]
    · simp [hl.1]
  have hx : s.expireBefore t = s := by
    rcases hl with hl | hl
    · exact State.expireBefore_of_lock_ne (by simp [hl])
    · exact State.expireBefore_inTime hs he hl
  rw [State.cameraEdge_follows hs hx hr he h hne, State.followedEdge_overspeed ho]

section
variable (hin : s.clock.inTime e t) (hn : ¬ (s.withClock (s.clock.used e t)).overspeed = true)
include hin hn

/-- A snap of a LOCKED clock in its run. -/
theorem State.cameraEdge_snaps (hf : s.clock.firstFrameBegun = some true) {u : State} {x : Option RunEnd}
    (hu : (s.withClock (s.clock.used e t)).snap = (u, x)) : s.cameraEdge t = u.writeAndFinish r x := by
  rw [State.cameraEdge_follows hs (State.expireBefore_inTime hs he hin) hr he h (by simp [hin.1]),
    State.followedEdge_snaps hn hin.1 hf, hu]

/-- The first frame of a rolling pass begins. -/
theorem State.cameraEdge_begins (hf : s.clock.firstFrameBegun = some false)
    (hm : s.clock.mode ≠ some .master) (hroll : s.pass.state = .rolling) (hlt : r.first < r.last) :
    s.cameraEdge t = { s with
      clock := { s.clock.used e t with
        firstFrameBegun := some true, currentFrame := r.startFrame, cameraSync := true }
      pass := { s.pass with
        state := .running, report := { s.pass.report with frames := s.pass.report.frames + 1 } } } := by
  have hgo := State.frameStart_goesOn (s := s.withClock (s.clock.usedFirst e t))
    (n := r.startFrame) hr (by simp [hroll, PassState.inRun]) (by simp [hroll])
    (fun hc => PassRecord.startFrame_ne_trailEnd hlt hc.1)
  rw [State.startsFrame_of_not_master (s := s.withClock (s.clock.usedFirst e t)) hm] at hgo
  rw [State.cameraEdge_follows hs (State.expireBefore_inTime hs he hin) hr he h (by simp [hin.1]),
    State.followedEdge_begins hn hin.1 hf, hgo]
  simp only [State.withClock_pass, Pass.frameStart_of_rolling hroll hlt]
  rfl

end

/-- The relock edge, behind its snap. -/
theorem State.cameraEdge_relock (hl : s.clock.lock = some .syncLost) {u : State} {x : Option RunEnd}
    (hu : (s.withClock { s.clock with lastEdge := some t }).snap = (u, x))
    (ho : u.pass.report.outcome = .running) : s.cameraEdge t = u.relocked.writeAndFinish r x := by
  rw [State.cameraEdge_relocks hs (State.expireBefore_of_lock_ne (by simp [hl])) hr he h hl,
    State.relock_of_snap hu ho]

/-! ### The snap of an accepted edge, by the frame start and the travel limit -/

section
variable {d : Direction} {lim : Int} (hd : s.clock.direction = some d) (hlim : s.clock.travelLimit = some lim)
include hd hlim

theorem State.cameraEdge_snaps_limit (hin : s.clock.inTime e t)
    (hn : ¬ (s.withClock (s.clock.used e t)).overspeed = true) (hf : s.clock.firstFrameBegun = some true)
    (hw : ¬ d.reaches lim s.clock.nextFrameStart = true) :
    s.cameraEdge t =
      s.withClock { s.clock.used e t with phase := lim, cameraSync := s.clock.syncAt lim } :=
  State.cameraEdge_snaps hs hr he h hin hn hf (State.snap_limit (s := s.withClock (s.clock.used e t)) hd hlim hw)

theorem State.cameraEdge_relocks_limit (hl : s.clock.lock = some .syncLost)
    (ho : s.pass.report.outcome = .running) (hw : ¬ d.reaches lim s.clock.nextFrameStart = true) :
    s.cameraEdge t = (s.withClock { s.clock with
      lastEdge := some t, phase := lim, cameraSync := s.clock.syncAt lim }).relocked :=
  State.cameraEdge_relock hs hr he h hl
    (State.snap_limit (s := s.withClock { s.clock with lastEdge := some t }) hd hlim hw) ho

variable (hm : s.clock.mode = some .follower) (hrun : s.pass.state = .running ∨ s.pass.state = .trailing)
  (hw : d.reaches lim s.clock.nextFrameStart = true)
include hm hrun hw

theorem State.cameraEdge_snaps_frameStart (hin : s.clock.inTime e t)
    (hn : ¬ (s.withClock (s.clock.used e t)).overspeed = true) (hf : s.clock.firstFrameBegun = some true) :
    (s.clock.nextFrame ≠ r.trailEnd →
      s.cameraEdge t = (s.withClock (s.clock.used e t)).snapped r s.clock.nextFrame) ∧
    (s.clock.nextFrame = r.trailEnd → s.cameraEdge t =
      ((s.withClock (s.clock.used e t)).snapped r s.clock.nextFrame).writeAndFinish r (some .complete)) := by
  have hsnap := State.snap_frameStart (s := s.withClock (s.clock.used e t)) hd hlim hm hr hrun hw
  exact ⟨fun hne => State.cameraEdge_snaps hs hr he h hin hn hf (hsnap.1 hne),
    fun heq => State.cameraEdge_snaps hs hr he h hin hn hf (hsnap.2 heq)⟩

theorem State.cameraEdge_relocks_frameStart (hl : s.clock.lock = some .syncLost)
    (ho : s.pass.report.outcome = .running) :
    (s.clock.nextFrame ≠ r.trailEnd → s.cameraEdge t =
      ((s.withClock { s.clock with lastEdge := some t }).snapped r s.clock.nextFrame).relocked) ∧
    (s.clock.nextFrame = r.trailEnd → s.cameraEdge t =
      ((s.withClock { s.clock with lastEdge := some t }).snapped r s.clock.nextFrame).relocked.writeAndFinish r
        (some .complete)) := by
  have hsnap := State.snap_frameStart (s := s.withClock { s.clock with lastEdge := some t }) hd hlim hm hr hrun hw
  have ho' : (s.pass.frameStart r s.clock.nextFrame).report.outcome = .running :=
    (Pass.frameStart_outcome _ _ _).trans ho
  exact ⟨fun hne => State.cameraEdge_relock hs hr he h hl (hsnap.1 hne) ho',
    fun heq => State.cameraEdge_relock hs hr he h hl (hsnap.2 heq) ho'⟩

end

end

/-- Settles O40: an edge that is ignored, first, a glitch or late; the accepted edge by the lock state, with the
overspeed stop, the snap and the relock, each on either side of the travel limit and of the end of the trail; and the
loss timer on its own rows and on the servo tick. -/
theorem cameraEdgesAndTheirTimeouts : Obligations.CameraEdgesAndTheirTimeouts := by
  unfold Obligations.CameraEdgesAndTheirTimeouts
  refine ⟨fun s o hs => ?_, fun s o r hs hr hl => ⟨fun he => ?_, fun e he h => ?_⟩,
    fun s o e q r m sum hs hm hl hf he hq hr hroll hlt hmove hsum h hlate hp => ?_,
    fun s e q hs hl he hq hdue => ⟨fun hf ho => ?_, fun hf => ?_⟩,
    fun s o e r hs hr he h => ?_,
    fun s o e hs he h hper => ?_,
    fun s o e q hs hl he hq hlate => ⟨fun hf ho => ?_, fun hf => ?_⟩,
    fun s o e r d lim hs hm hd hlim he h hr hrun => ?_,
    fun s => ⟨fun e q hs hl he hq => ⟨fun h => ?_, fun h => ⟨fun hf => ?_, fun hf => ?_⟩⟩, fun h => ?_⟩⟩
  · rw [exec_cameraFrameEdge, State.cameraEdge_ignored hs]
  · rw [exec_cameraFrameEdge,
      State.cameraEdge_first hs (State.expireBefore_of_lock_ne (by simp [hl])) hr he (by simp [hl])]
    rfl
  · rw [exec_cameraFrameEdge, State.cameraEdge_glitch hs (State.expireBefore_of_lock_ne (by simp [hl])) he h]
    rfl
  · intro p hceil
    have hper : edgePeriod e (s.refClock + o) = p := Nat.min_eq_left hp
    have hslow := State.not_overspeed_used hr hmove hsum (hper.symm ▸ hceil)
    rw [exec_cameraFrameEdge,
      State.cameraEdge_begins hs hr he h ⟨hl, q, hq, hlate⟩ hslow hf (by simp [hm]) hroll hlt, Clock.used,
      hper, hq]
  · rw [exec_syncLossTimeout (Clock.deadline_of_locked hs hl he hq) hdue hf, State.followerExpires_begun hf ho]
  · rw [exec_lockTimeout (Clock.deadline_of_locked hs hl he hq) hdue hf, State.followerExpires_notBegun hf]
  · intro t p rate used tooFast inTime stopping
    have hfast : (s.withClock (s.clock.used e t)).overspeed = true ↔ tooFast :=
      State.overspeed_used_iff hr
    refine ⟨fun hl hslow => ?_, fun hl hover hst => ⟨fun hf => ?_, fun hf => ?_⟩,
      fun d lim hm hd hlim hrun => ?_⟩
    · intro stable count
      have hstable : stablePeriod s.clock.lastPeriod (edgePeriod e t) = true ↔ stable := stablePeriod_iff
      have hedge := State.cameraEdge_acquires hs hr he h hl (mt hfast.1 hslow)
      refine ⟨fun hsta hc => ?_, fun hsta hc => ?_, fun hsta => ?_⟩ <;> rw [exec_cameraFrameEdge, hedge]
      · rw [(Clock.acquire_stable (c := s.clock.used e t) (hstable.2 hsta)).1 hc]
        rfl
      · rw [(Clock.acquire_stable (c := s.clock.used e t) (hstable.2 hsta)).2 hc]
        rfl
      · rw [Clock.acquire_unstable (mt hstable.1 hsta)]
        rfl
    · rw [exec_cameraFrameEdge, State.cameraEdge_overspeeds hs hr he h hl (hfast.2 hover),
        State.overspeedStop_begun (s := s.withClock (s.clock.used e t)) hf hst]
      rfl
    · rw [exec_cameraFrameEdge, State.cameraEdge_overspeeds hs hr he h hl (hfast.2 hover),
        State.overspeedStop_notBegun (s := s.withClock (s.clock.used e t)) hf]
      rfl
    · intro n within half snapped counted
      have hn : n = s.clock.nextFrame := (s.clock.nextFrame_of_direction hd).symm
      have hwithin : d.reaches lim s.clock.nextFrameStart = true ↔ within := by
        rw [s.clock.nextFrameStart_eq, ← hn]
        exact d.reaches_iff lim (n * 65536)
      have hhalf : half ↔ d.reaches lim (d.move (s.clock.currentFrame * 65536) 32768) = true :=
        (d.reaches_half_iff _ lim).symm
      have hpass := Pass.frameStart_of_rolled (r := r) (p := s.pass) (.inl hrun) n
      refine ⟨fun hf hin hslow => ⟨fun hw hlo hhi => ⟨fun hne => ?_, fun heq htrail => ?_⟩, fun hw b hb => ?_⟩,
        fun hl hw hlo hhi hne ho => ?_⟩
      · have hedge := (State.cameraEdge_snaps_frameStart hs hr he h hd hlim hm (.inl hrun) (hwithin.2 hw) hin
          (mt hfast.1 hslow) hf).1 (hn ▸ PassRecord.ne_trailEnd hlo hhi (fun heq => absurd heq hne))
        rw [if_neg hne, if_neg hne, if_pos (And.intro hlo hhi)] at hpass
        rw [exec_cameraFrameEdge, hedge, ← hn, State.snapped_eq _ hpass]
        rfl
      · have hedge := (State.cameraEdge_snaps_frameStart hs hr he h hd hlim hm (.inl hrun) (hwithin.2 hw) hin
          (mt hfast.1 hslow) hf).1 (hn ▸ PassRecord.ne_trailEnd hlo hhi (fun _ => htrail))
        rw [if_pos heq, if_pos heq, if_pos (And.intro hlo hhi)] at hpass
        rw [exec_cameraFrameEdge, hedge, ← hn, State.snapped_eq _ hpass]
        rfl
      · rw [s.clock.eq_syncAt hd hhalf hb, exec_cameraFrameEdge,
          State.cameraEdge_snaps_limit hs hr he h hd hlim hin (mt hfast.1 hslow) hf (mt hwithin.1 hw)]
        rfl
      · have hedge := (State.cameraEdge_relocks_frameStart hs hr he h hd hlim hm (.inl hrun) (hwithin.2 hw) hl
          ho).1 (hn ▸ PassRecord.ne_trailEnd hlo hhi (fun heq => absurd heq hne))
        rw [if_neg hne, if_neg hne, if_pos (And.intro hlo hhi)] at hpass
        rw [exec_cameraFrameEdge, hedge, ← hn, State.snapped_eq _ hpass]
        rfl
  · rw [exec_cameraFrameEdge, State.cameraEdge_glitch hs (State.expireBefore_glitch he h hper) he h]
    rfl
  · rw [exec_cameraFrameEdge, State.cameraEdge_late hs (Clock.deadline_of_locked hs hl he hq) hlate,
      State.followerExpires_begun hf ho]
    rfl
  · rw [exec_cameraFrameEdge, State.cameraEdge_late hs (Clock.deadline_of_locked hs hl he hq) hlate,
      State.followerExpires_notBegun hf]
    rfl
  · intro t p rate used tooFast n within half trailEnd snapped relocked passed complete stopped atEnd
    have hfast : (s.withClock (s.clock.used e t)).overspeed = true ↔ tooFast :=
      State.overspeed_used_iff hr
    have hn : n = s.clock.nextFrame := (s.clock.nextFrame_of_direction hd).symm
    have hwithin : d.reaches lim s.clock.nextFrameStart = true ↔ within := by
      rw [s.clock.nextFrameStart_eq, ← hn]
      exact d.reaches_iff lim (n * 65536)
    have hhalf : half ↔ d.reaches lim (d.move (s.clock.currentFrame * 65536) 32768) = true :=
      (d.reaches_half_iff _ lim).symm
    have htrail : trailEnd = r.trailEnd := r.trailEnd_eq.symm
    have hpass : s.pass.frameStart r n = passed s.pass.report.conditions := Pass.frameStart_of_rolled hrun n
    have hused : ∀ c : Clock, (s.withClock c).snapped r s.clock.nextFrame =
        { s with clock := snapped c, pass := passed s.pass.report.conditions } := fun c =>
      hn ▸ State.snapped_eq c hpass
    have hend : ∀ u, s.AtEndValues u r → atEnd u := fun _ hu => hu
    refine ⟨fun hl hf hq hslow hw => ⟨fun hne => ?_, fun heq => ?_⟩,
      fun hl ho => ⟨fun hw hne => ?_, fun hw heq => ?_, fun hw b hb => ?_⟩⟩
    · have hedge := (State.cameraEdge_snaps_frameStart hs hr he h hd hlim hm hrun (hwithin.2 hw) ⟨hl, hq⟩
        (mt hfast.1 hslow) hf).1 (hn ▸ htrail ▸ hne)
      rw [exec_cameraFrameEdge, hedge, hused]
      rfl
    · have hedge := (State.cameraEdge_snaps_frameStart hs hr he h hd hlim hm hrun (hwithin.2 hw) ⟨hl, hq⟩
        (mt hfast.1 hslow) hf).2 (hn ▸ htrail ▸ heq)
      rw [hused] at hedge
      exact ⟨_, congrArg Host.Outcome.next hedge, hend _ (State.writeAndFinish_atEndValues rfl rfl
        (congrArg (· * 65536) (heq.trans htrail))), State.writeAndFinish_complete⟩
    · have hedge := (State.cameraEdge_relocks_frameStart hs hr he h hd hlim hm hrun (hwithin.2 hw) hl ho).1
        (hn ▸ htrail ▸ hne)
      rw [exec_cameraFrameEdge, hedge, hused]
      rfl
    · have hedge := (State.cameraEdge_relocks_frameStart hs hr he h hd hlim hm hrun (hwithin.2 hw) hl ho).2
        (hn ▸ htrail ▸ heq)
      rw [hused] at hedge
      exact ⟨_, congrArg Host.Outcome.next hedge, hend _ (State.writeAndFinish_atEndValues rfl rfl
        (congrArg (· * 65536) (heq.trans htrail))), State.writeAndFinish_complete⟩
    · rw [s.clock.eq_syncAt hd hhalf hb, exec_cameraFrameEdge,
        State.cameraEdge_relocks_limit hs hr he h hd hlim hl ho (mt hwithin.1 hw)]
      rfl
  · exact State.tickLoss_running (Clock.deadline_of_locked hs hl he hq) h
  · have hd := Clock.deadline_of_locked hs hl he hq
    rw [exec_syncLossTimeout hd (by omega) hf, State.tickLoss_expires hd h]
  · have hd := Clock.deadline_of_locked hs hl he hq
    rw [exec_lockTimeout hd (by omega) hf, State.tickLoss_expires hd h]
  · exact State.tickLoss_of_none (Clock.deadline_eq_none h)

end Sys2Proof.Machine
end

section
/-! SUPPORT. PASS_RUN and the roll (R135): the tests in their order, the cleared report, and the start of the clock in
either mode (R109, R111, R112). -/

namespace Sys2Proof.Machine

variable {s : State} {l : LinkId} {r : PassRecord}

/-! ### The commands -/

theorem exec_passRun_of_none (hs : s.phase = .serving) (hr : s.pass.record = none) :
    exec (.passRun l) s = .next ((s.deselect l).refuse l .state) := by
  show execPassRun l s = _
  rw [execPassRun, State.taken_serving s l hs, State.deselect_pass, hr]

theorem exec_passRun (hs : s.phase = .serving) (hr : s.pass.record = some r) :
    exec (.passRun l) s = .next (
      if s.pass.state = .idle then (s.deselect l).refuse l .state
      else if r.mode = .step then (s.deselect l).refuse l .mode
      else if s.pass.state ≠ .atStart then (s.deselect l).refuse l .state
      else ((s.deselect l).roll r).ok l .none) := by
  show execPassRun l s = _
  rw [execPassRun, State.taken_serving s l hs, State.deselect_pass, hr]

theorem exec_rollTriggerEdge (hr : s.pass.record = some r) :
    exec .rollTriggerEdge s = .next (if s.triggerRolls r then s.roll r else s) := by
  show execRollTriggerEdge s = _
  rw [execRollTriggerEdge, hr]

theorem State.triggerRolls_iff : s.triggerRolls r = true ↔
    s.pass.state = .atStart ∧ r.mode ≠ .step ∧ r.rollSource = .trigger := by
  simp [State.triggerRolls, and_assoc]

/-! ### The roll -/

/-- The part as a roll leaves it before its clock starts: the report cleared, ROLLING, the camera running. -/
def State.rolled (s : State) (r : PassRecord) : State :=
  (s.clearReport r).withPass
    { (s.clearReport r).pass with endReached := some false, cameraRun := true, state := .rolling }

/-- The frame of a MASTER clock's opening frame start: the start frame less the lead (R109). -/
def PassRecord.openFrame (r : PassRecord) : Int := r.direction.move r.startFrame (-r.lead)

theorem PassRecord.openFrame_phase :
    r.direction.move (r.startFrame * puPerFrame) (-(r.lead * puPerFrame)) = r.openFrame * 65536 := by
  unfold PassRecord.openFrame puPerFrame
  cases r.direction <;> simp only [Direction.move] <;> ring

theorem PassRecord.openFrame_eq : r.openFrame =
    if r.direction = .forward then (r.first : Int) - r.lead else (r.last : Int) + r.lead := by
  unfold PassRecord.openFrame PassRecord.startFrame
  cases r.direction <;> simp [Direction.move, sub_eq_add_neg]

/-- The opening frame start lies before the pass range, or on its start frame. -/
theorem PassRecord.openFrame_before (hlt : r.first < r.last) :
    r.openFrame ≠ r.trailEnd ∧ (0 < r.lead → r.openFrame ≠ r.startFrame ∧ r.openFrame ≠ r.endFrame ∧
      ¬ ((r.first : Int) ≤ r.openFrame ∧ r.openFrame ≤ r.last)) := by
  rw [PassRecord.trailEnd_eq, PassRecord.openFrame_eq, PassRecord.startFrame, PassRecord.endFrame]
  cases r.direction <;> simp <;> omega

theorem PassRecord.openFrame_of_no_lead (h : r.lead = 0) : r.openFrame = r.startFrame := by
  unfold PassRecord.openFrame
  cases r.direction <;> simp [Direction.move, h]

/-- A frame start of the lead leaves a rolling pass as it is. -/
theorem Pass.frameStart_of_lead {p : Pass} {n : Int} (hs : n ≠ r.startFrame) (he : n ≠ r.endFrame)
    (hout : ¬ ((r.first : Int) ≤ n ∧ n ≤ r.last)) : p.frameStart r n = p := by
  have hent : p.entered r n = p.state := if_neg (fun h => hs h.2)
  rw [Pass.frameStart_eq, hent, if_neg hout, if_neg he, if_neg (fun h => he h.1)]

/-- The clock of a MASTER pass on its opening frame start, with the base rate it has loaded. -/
def Clock.opened (r : PassRecord) (rate : Nat) : Clock :=
  { Clock.reset with
    state := .clocking, mode := some .master, direction := some r.direction, phase := r.openFrame * 65536
    currentFrame := r.openFrame, travelLimit := some r.travelLimit, cameraSync := true
    baseRate := rate, appliedRate := rate }

/-- The base rate that the opening frame start of a roll loads. -/
def State.openRate (s : State) (r : PassRecord) : Nat :=
  ((s.rolled r).withClock (Clock.startMaster r s.clock)).loadedRate r.openFrame

theorem State.roll_master (hr : s.pass.record = some r) (hm : r.mode = .master) (hlt : r.first < r.last) :
    s.roll r = { s.rolled r with
      clock := Clock.opened r (s.openRate r), pass := (s.rolled r).pass.frameStart r r.openFrame } := by
  have hframe : (Clock.startMaster r s.clock).phase / puPerFrame = r.openFrame := by
    refine (congrArg (· / puPerFrame) r.openFrame_phase).trans ?_
    exact Int.mul_ediv_cancel _ (by decide)
  have hgo := State.frameStart_goesOn (s := (s.rolled r).withClock (Clock.startMaster r s.clock))
    (n := r.openFrame) hr rfl (by simp [State.rolled, State.withPass]) (fun hc => (r.openFrame_before hlt).1 hc.1)
  have hroll : s.roll r =
      let q := ((s.rolled r).withClock (Clock.startMaster r s.clock)).frameStart
        ((Clock.startMaster r s.clock).phase / puPerFrame)
      (q.1.withClock { q.1.clock with appliedRate := q.1.clock.baseRate }).finish q.2 := by
    unfold State.roll
    rw [hm]
    rfl
  rw [hroll, hframe, hgo, Clock.opened, ← r.openFrame_phase]
  rfl

theorem State.roll_follower (hm : r.mode = .follower) :
    s.roll r = (s.rolled r).withClock (Clock.startFollower r s.clock) := by
  unfold State.roll
  rw [hm]
  rfl

theorem State.openRate_eq (hr : s.pass.record = some r) {m : Move} (hm : s.move r.slot = some m) :
    s.openRate r = if m.speedTrack ≠ [] then speedRate m.speedTrack r.openFrame else r.rate.getD 0 := by
  rw [State.openRate, State.loadedRate_of_move (s := (s.rolled r).withClock (Clock.startMaster r s.clock)) hr hm]
  rfl

theorem State.rolled_axis (a : AxisId) :
    (s.rolled r).axis a = { s.axis a with softClamp := false, pulseClamp := false } := by
  rw [State.rolled, State.withPass_axis, State.clearReport, State.onAxes_axis, State.withPass_axis]

/-! ### What a roll leaves -/

section
variable (hr : s.pass.record = some r) (hm : r.mode ≠ .step) (hlt : r.first < r.last)
include hr hm hlt

/-- A roll writes the clock, the pass and the clamp flags of the axes. -/
theorem State.roll_eq_rolled : ∃ c p, s.roll r = { s.rolled r with clock := c, pass := p } := by
  cases hmode : r.mode with
  | master => exact ⟨_, _, State.roll_master hr hmode hlt⟩
  | follower => exact ⟨_, _, State.roll_follower hmode⟩
  | step => exact absurd hmode hm

/-- The pass runs at once, with a frame exposed, when a MASTER clock opens on its start frame; else it is ROLLING. -/
theorem State.roll_pass : (s.roll r).pass = { s.pass with
    state := if r.mode = .master ∧ r.lead = 0 then .running else .rolling
    report := { Report.cleared r with frames := if r.mode = .master ∧ r.lead = 0 then 1 else 0 }
    endReached := some false, cameraRun := true } := by
  cases hmode : r.mode with
  | step => exact absurd hmode hm
  | follower =>
    rw [State.roll_follower hmode]
    rfl
  | master =>
    rw [State.roll_master hr hmode hlt]
    by_cases hlead : r.lead = 0
    · rw [if_pos ⟨rfl, hlead⟩, if_pos ⟨rfl, hlead⟩, r.openFrame_of_no_lead hlead]
      exact Pass.frameStart_of_rolling rfl hlt
    · obtain ⟨hs, he, hout⟩ := (r.openFrame_before hlt).2 (by omega)
      rw [if_neg (fun h => hlead h.2), if_neg (fun h => hlead h.2)]
      exact Pass.frameStart_of_lead hs he hout

end

/-- Settles O36: the tests of PASS_RUN and of the trigger, and the roll by the mode and by whether there is a lead. -/
theorem aRollStartsTheRun : Obligations.ARollStartsTheRun := by
  unfold Obligations.ARollStartsTheRun
  refine ⟨fun s l hs => ⟨fun h => ?_, fun r hr hidle => ?_⟩, fun s r hr => ⟨fun hst hm htr => ?_, fun h => ?_⟩,
    fun s r hr hst hlt hm => ?_, fun s hr => ?_⟩
  · cases hr : s.pass.record with
    | none => exact exec_passRun_of_none hs hr
    | some r => rw [exec_passRun hs hr, if_pos (h.resolve_left (by simp [hr]))]
  · rw [exec_passRun hs hr, if_neg hidle]
    refine ⟨fun h => if_pos h ▸ rfl, fun h hst => ?_, fun h hst => ?_⟩
    · rw [if_neg h, if_pos hst]
    · rw [if_neg h, if_neg (not_not.2 hst)]
  · rw [exec_rollTriggerEdge hr, if_pos (State.triggerRolls_iff.2 ⟨hst, hm, htr⟩)]
  · rw [exec_rollTriggerEdge hr, if_neg]
    rw [State.triggerRolls_iff]
    rintro ⟨hst, hm, htr⟩
    rcases h with h | h | h
    · exact h hst
    · exact hm h
    · simp [htr] at h
  · intro t begun
    have hpass : t.pass = _ := State.roll_pass hr hm hlt
    have hpeaks : (Report.cleared r).peaks = some (r.axes.map (fun pa => { axis := pa.axis, magnitude := 0 })) :=
      congrArg some (List.map_map ..)
    obtain ⟨c, p, hroll⟩ := State.roll_eq_rolled hr hm hlt
    refine ⟨fun hb => ?_, fun hb => ?_, ?_, (congrArg Pass.cameraRun hpass :), (congrArg Pass.endReached hpass :),
      (congrArg (·.report.outcome) hpass :), (congrArg (·.report.cause) hpass :),
      (congrArg (·.report.conditions) hpass :), ?_, fun a => ?_, ?_, ?_, fun hmode => ?_, fun hmode => ?_⟩
    · rw [hpass, if_pos hb, if_pos hb]; exact ⟨rfl, rfl⟩
    · rw [hpass, if_neg hb, if_neg hb]; exact ⟨rfl, rfl⟩
    · rw [hpass, hr]
    · rw [hpass, hpeaks]
    · exact (congrArg (State.axis · a) hroll).trans (State.rolled_axis a)
    · rw [hpass]
    · exact (congrArg (fun u : State => { u with pass := s.pass, clock := s.clock, axes := s.axes }) hroll :)
    · intro n
      have hn : n = r.openFrame := r.openFrame_eq.symm
      have hclock : t.clock = Clock.opened r (s.openRate r) := congrArg State.clock (State.roll_master hr hmode hlt)
      rw [hn, hclock]
      refine ⟨rfl, fun m hmv hsp => ?_, fun m rate hmv hsp hrate => ?_⟩
      · exact (State.openRate_eq hr hmv).trans (if_pos hsp)
      · refine (State.openRate_eq hr hmv).trans ?_
        rw [if_neg (not_not.2 hsp), hrate, Option.getD_some]
    · have hclock : t.clock = Clock.startFollower r s.clock := congrArg State.clock (State.roll_follower hmode)
      rw [hclock, Clock.startFollower, PassRecord.startFrame]
      cases r.direction <;> rfl
  · show execRollTriggerEdge s = _
    rw [execRollTriggerEdge, hr]

end Sys2Proof.Machine
end

section
/-! SUPPORT. The ends of the ramps of a CLOCKING run (R114, R115, R131): what the tick that ends a hold, a resume or a
stop leaves of the clock and the pass, and the setpoints it writes. -/

namespace Sys2Proof.Machine

variable {s : State} {r : PassRecord} {h k : Nat}

/-! ### The setpoints of a run's tick (R131) -/

/-- Each pass axis whose drive is ON takes its track value at the phase of `t` held within the pass range, and no more of
any axis is written. -/
def State.AtTrackValues (s t : State) (r : PassRecord) : Prop :=
  (∀ m, s.move r.slot = some m → r.first ≤ r.last → (r.axes.map (·.axis)).Nodup → ∀ pa ∈ r.axes,
    t.axis pa.axis = if (s.axis pa.axis).drive = .on
      then { s.axis pa.axis with
        setpoint := trackValue (m.axisTrack pa.axis)
          (max ((r.first : Int) * 65536) (min ((r.last : Int) * 65536) t.clock.phase)) pa.offset }
      else s.axis pa.axis) ∧
  (∀ b, b ∉ r.axes.map (·.axis) → t.axis b = s.axis b) ∧
  (∀ b, { t.axis b with setpoint := (s.axis b).setpoint } = s.axis b)

theorem PassRecord.evaluationPhase_eq (hle : r.first ≤ r.last) (p : Int) :
    r.evaluationPhase p = max ((r.first : Int) * 65536) (min ((r.last : Int) * 65536) p) := by
  rw [PassRecord.evaluationPhase, saturate, puPerFrame]
  split_ifs <;> omega

theorem State.finish_clock_phase (s : State) (e : Option RunEnd) : (s.finish e).clock.phase = s.clock.phase := by
  cases e with
  | none => rfl
  | some e => cases e <;> rfl

theorem State.clockTick_slots (s : State) : s.clockTick.1.slots = s.slots := by
  have hmoves : ∀ p, (s.phaseMoves p).1.slots = s.slots := fun p => (congrArg State.slots (s.phaseMoves_frame p) :)
  unfold State.clockTick State.tickFollowing
  split
  · exact (congrArg State.slots s.tickClocking_frame :)
  · split
    · exact hmoves _
    · exact hmoves _
    · rfl
  · rfl
  · rfl

theorem State.tickRun_atTrackValues (s : State) (r : PassRecord) : s.AtTrackValues (s.tickRun r) r := by
  refine ⟨fun m hm hle hn pa hpa => ?_, fun b => (s.tickRun_axis r b).2, fun b => (s.tickRun_axis r b).1⟩
  have hphase : (s.tickRun r).clock.phase = s.clockTick.1.clock.phase := by
    rw [s.tickRun_eq, State.finish_clock_phase]
    exact (congrArg (·.clock.phase) (s.clockTick.1.writeSetpoints_frame r _) :)
  have haxis : s.clockTick.1.axis pa.axis = s.axis pa.axis := by rw [State.axis, s.clockTick_axes, State.axis]
  rw [hphase, ← PassRecord.evaluationPhase_eq hle, s.tickRun_eq, State.finish_axis,
    State.writeSetpoints_mem _ r _ ((State.move_congr s.clockTick_slots _).trans hm) hn hpa, haxis]

/-! ### The tick's clock (R110) -/

theorem Clock.not_reaches_nextFrameStart (c : Clock) : ¬ c.dir.reaches c.phase c.nextFrameStart = true := by
  rw [c.nextFrameStart_eq, Clock.nextFrame, Direction.reaches_iff]
  cases c.dir <;> simp only [Direction.nextFrame] <;> omega

/-- A CLOCKING tick whose phase stays before the next frame start goes on with the ramp's end. -/
theorem State.tickClocking_within (hp : ¬ s.clock.dir.reaches s.clock.advanced s.clock.nextFrameStart = true) :
    s.tickClocking =
      (s.withClock { s.clock.ticked with cameraSync := s.clock.syncAt s.clock.advanced }).rampEnd := by
  rw [State.tickClocking_eq, Clock.rated, State.phaseMoves_stepped_within _ _ _ _ _ hp]
  rfl

/-- The last tick of a hold applies rate 0: with the remainder below one pu the phase stands. -/
theorem Clock.ticked_of_hold {c : Clock} (hr : c.ramp = .hold h k) (hk : h ≤ k + 1) (hrem : c.remainder < 2000000)
    (hcap : c.capLimit c.phase = c.phase) :
    c.advanced = c.phase ∧ c.ticked = { c with ramp := .hold h (k + 1), appliedRate := 0 } := by
  have hrate : c.ramp.tick.applied c.baseRate = 0 := by
    rw [hr, Ramp.tick, Ramp.applied, Nat.sub_eq_zero_of_le hk, Nat.mul_zero, Nat.zero_div]
  have htotal : c.total = c.remainder := by rw [Clock.total, hrate, Nat.zero_mul, Nat.add_zero]
  have hadv : c.advanced = c.phase := by
    rw [Clock.advanced, htotal, Nat.div_eq_of_lt hrem]
    refine Eq.trans (congrArg c.capLimit ?_) hcap
    cases c.dir <;> simp [Direction.move]
  refine ⟨hadv, ?_⟩
  rw [Clock.ticked, hadv, hrate, htotal, Nat.mod_eq_of_lt hrem, hr]
  rfl

/-- Of the pass, a frame start writes its state, its report and the end reached. -/
theorem State.passFrameStart_pass (s : State) (n : Int) : { (s.passFrameStart n).1.pass with
    state := s.pass.state, report := s.pass.report, endReached := s.pass.endReached } = s.pass := by
  unfold State.passFrameStart
  split
  · rfl
  · next r _ =>
    split
    · exact congrArg (fun p : Pass => { p with
        state := s.pass.state, report := s.pass.report, endReached := s.pass.endReached })
        (Pass.frameStart_eq r n s.pass)
    · rfl

theorem State.frameStart_pass (s : State) (n : Int) : { (s.frameStart n).1.pass with
    state := s.pass.state, report := s.pass.report, endReached := s.pass.endReached } = s.pass := by
  unfold State.frameStart
  dsimp only
  generalize (if s.clock.mode = some .master then _ else _ : Clock) = c
  exact (s.withClock c).passFrameStart_pass n

theorem State.phaseMoves_pass (s : State) (p : Int) : { (s.phaseMoves p).1.pass with
    state := s.pass.state, report := s.pass.report, endReached := s.pass.endReached } = s.pass := by
  by_cases hp : s.clock.dir.reaches p s.clock.nextFrameStart = true
  · rw [State.phaseMoves_frameStart s hp]
    exact (s.withClock { s.clock with phase := p }).frameStart_pass _
  · rw [State.phaseMoves_within s hp]; rfl

/-- The ramp and the applied rate that a tick's first stages leave, whatever frame start they reach. -/
theorem State.phaseMoves_rated (s : State) :
    ((s.withClock s.clock.rated).phaseMoves s.clock.advanced).1.clock.ramp = s.clock.ramp.tick ∧
    ((s.withClock s.clock.rated).phaseMoves s.clock.advanced).1.clock.appliedRate =
      s.clock.ramp.tick.applied s.clock.baseRate := by
  have hclock := (s.withClock s.clock.rated).phaseMoves_clock s.clock.advanced
  exact ⟨(congrArg Clock.ramp hclock :), (congrArg Clock.appliedRate hclock :)⟩

/-! ### The ramp's own end (R114, R115) -/

theorem State.rampEnd_hold_ends (hr : s.clock.ramp = .hold h k) (hk : h ≤ k) :
    s.rampEnd = (({ s with
      clock := { s.clock with ramp := .held, appliedRate := 0 }
      pass := { s.pass with state := .held } } : State).raise .passHeld, none) := by
  simp only [State.rampEnd, hr, if_pos hk]

theorem State.rampEnd_resume_goesOn (hr : s.clock.ramp = .resume h k) (hk : ¬ h ≤ k) : s.rampEnd = (s, none) := by
  simp only [State.rampEnd, hr, if_neg hk]

theorem State.rampEnd_resume_ends (hr : s.clock.ramp = .resume h k) (hk : h ≤ k) :
    s.rampEnd = ({ s with
      clock := { s.clock with ramp := .none }
      pass := { s.pass with state := if s.pass.endReached = some true then .trailing else .running } }, none) := by
  simp only [State.rampEnd, hr, if_pos hk]

theorem State.rampEnd_stop_ends (hr : s.clock.ramp = .stop h k) (hk : h ≤ k) :
    s.rampEnd = (s.withClock { s.clock with ramp := .none, appliedRate := 0 }, some .stopped) := by
  simp only [State.rampEnd, hr, if_pos (Or.inl hk : h ≤ k ∨ s.clock.atLimit = true)]

/-! ### The ends, each when it is due -/

section
variable (hr : s.pass.record = some r)
include hr

theorem exec_holdRampEnd_due (hst : s.pass.state = .holding) (hs : s.clock.state = .clocking)
    (hramp : s.clock.ramp = .hold h k) (hk : h ≤ k + 1) (hrem : s.clock.remainder < 2000000)
    (hcap : s.clock.capLimit s.clock.phase = s.clock.phase) :
    ∃ b, exec .holdRampEnd s = .next (s.tickRun r) ∧ { s.tickRun r with axes := s.axes } =
      ({ s with
        clock := { s.clock with ramp := .held, appliedRate := 0, cameraSync := b }
        pass := { s.pass with state := .held } } : State).raise .passHeld := by
  obtain ⟨hadv, hticked⟩ := Clock.ticked_of_hold hramp hk hrem hcap
  have hp : ¬ s.clock.dir.reaches s.clock.advanced s.clock.nextFrameStart = true := by
    rw [hadv]; exact s.clock.not_reaches_nextFrameStart
  have hrun : s.pass.state.inRun = true := by rw [hst]; rfl
  refine ⟨s.clock.syncAt s.clock.advanced, ?_, ?_⟩
  · have hheld : s.tickClocking.1.clock.ramp = .held := by
      rw [State.tickClocking_within hp, hticked, State.rampEnd_hold_ends rfl hk]
      rfl
    have hdue : s.holdDue = true := by simp [State.holdDue, State.clocksRun, hramp, hrun, hs, hheld]
    show execHoldRampEnd s = _
    rw [execHoldRampEnd, if_pos hdue, State.tickPass_inRun hr hrun]
  · rw [State.tickRun_clocking_within hs hp, hticked]
    exact State.ramped_hold_ends rfl hk

theorem exec_resumeRampEnd_due (hdue : s.resumeDue = true) (hramp : s.clock.ramp = .resume h k) :
    ∃ u : State, { u with pass := s.pass, clock := s.clock } = s ∧
      { u.pass with state := s.pass.state, report := s.pass.report, endReached := s.pass.endReached } = s.pass ∧
      u.clock.appliedRate = s.clock.baseRate * (k + 1) / h ∧
      exec .resumeRampEnd s = .next (s.tickRun r) ∧ { s.tickRun r with axes := s.axes } =
        { u with
          clock := { u.clock with ramp := .none }
          pass := { u.pass with state := if u.pass.endReached = some true then .trailing else .running } } := by
  have hdue' := hdue
  simp only [State.resumeDue, hramp, State.clocksRun, Bool.and_eq_true, decide_eq_true_eq] at hdue'
  obtain ⟨⟨hrun, hs⟩, hnone⟩ := hdue'
  have hexec : exec .resumeRampEnd s = .next (s.tickRun r) := by
    show execResumeRampEnd s = _
    rw [execResumeRampEnd, if_pos hdue, State.tickPass_inRun hr hrun]
  obtain ⟨huramp, hurate⟩ := s.phaseMoves_rated
  have hframe := (s.withClock s.clock.rated).phaseMoves_frame s.clock.advanced
  have hpass := (s.withClock s.clock.rated).phaseMoves_pass s.clock.advanced
  rw [State.tickClocking_eq] at hnone
  rw [s.tickRun_but_axes, s.clockTick_clocking hs, State.tickClocking_eq]
  rw [hramp] at huramp hurate
  rcases hq : (s.withClock s.clock.rated).phaseMoves s.clock.advanced with ⟨u, e⟩
  rw [hq] at huramp hurate hframe hpass hnone
  cases e with
  | some e => exact absurd (huramp.symm.trans hnone) (by simp [Ramp.tick])
  | none =>
    have hk : h ≤ k + 1 := by
      by_contra hlt
      have hstays : u.rampEnd.1.clock.ramp = .none := hnone
      rw [State.rampEnd_resume_goesOn huramp hlt] at hstays
      exact absurd (huramp.symm.trans hstays) (by simp [Ramp.tick])
    have hu := State.rampEnd_resume_ends huramp hk
    refine ⟨u, ?_, hpass, hurate, hexec, ?_⟩
    · rw [State.mk.injEq] at hframe ⊢
      simp_all
    · exact congrArg (fun q : State × Option RunEnd => q.1.finish q.2) hu

/-- No frame start completes a run that is STOPPING. -/
theorem State.phaseMoves_stopping (hst : s.pass.state = .stopping) (c : Clock) (p : Int) :
    ((s.withClock c).phaseMoves p).2 = none := by
  have hrun : s.pass.state.inRun = true := by rw [hst]; rfl
  by_cases hp : c.dir.reaches p c.nextFrameStart = true
  · refine congrArg Prod.snd (State.phaseMoves_goesOn (s := s.withClock c) hr hrun (by simp [hst]) hp ?_)
    rintro ⟨-, hc⟩
    have hent : s.pass.entered r c.nextFrame = .stopping := by simp [Pass.entered, hst]
    rw [Pass.frameStart_eq] at hc
    simp only [State.withClock_pass, State.withClock_clock, hent] at hc
    simp [PassState.completes] at hc
  · exact congrArg Prod.snd (State.phaseMoves_within (s.withClock c) hp)

theorem exec_stopRampEnd_due (hst : s.pass.state = .stopping) (hs : s.clock.state = .clocking)
    (hramp : s.clock.ramp = .stop h k) (hk : h ≤ k + 1) :
    ∃ u : State, { u with pass := s.pass, clock := s.clock } = s ∧
      { u.pass with state := s.pass.state, report := s.pass.report, endReached := s.pass.endReached } = s.pass ∧
      exec .stopRampEnd s = .next (s.tickRun r) ∧ { s.tickRun r with axes := s.axes } =
        u.endRun .aborted (s.pass.stopCause.map StopCause.reported) := by
  have hrun : s.pass.state.inRun = true := by rw [hst]; rfl
  have hgoes := State.phaseMoves_stopping hr hst s.clock.rated s.clock.advanced
  have huramp := s.phaseMoves_rated.1
  have hframe := (s.withClock s.clock.rated).phaseMoves_frame s.clock.advanced
  have hpass := (s.withClock s.clock.rated).phaseMoves_pass s.clock.advanced
  have htick := s.tickClocking_eq
  rw [hramp] at huramp
  rcases hq : (s.withClock s.clock.rated).phaseMoves s.clock.advanced with ⟨u, e⟩
  rw [hq] at huramp hgoes hframe hpass htick
  obtain rfl : e = none := hgoes
  replace htick : s.tickClocking = _ := htick.trans (State.rampEnd_stop_ends huramp hk)
  have hcause : u.pass.stopCause = s.pass.stopCause := (congrArg Pass.stopCause hpass :)
  refine ⟨u, ?_, hpass, ?_, ?_⟩
  · rw [State.mk.injEq] at hframe ⊢
    simp_all
  · have hdue : s.stopDue = true := by simp [State.stopDue, State.clocksRun, hramp, hrun, hs, htick]
    show execStopRampEnd s = _
    rw [execStopRampEnd, if_pos hdue, State.tickPass_inRun hr hrun]
  · rw [s.tickRun_but_axes, s.clockTick_clocking hs, htick, ← hcause]
    rfl

end

theorem EventKind.passHeld_bit : EventKind.passHeld.bit = 0x10#17 := by decide

theorem EventKind.passEnded_bit : EventKind.passEnded.bit = 0x8#17 := by decide

end Sys2Proof.Machine
end

section
/-! SUPPORT. PASS_HOLD and PASS_RESUME (R137, R138), and the statement on them and on the ends of their ramps. -/

namespace Sys2Proof.Machine

variable {s : State} {l : LinkId} {r : PassRecord}

theorem exec_passHold_of_none (hs : s.phase = .serving) (hr : s.pass.record = none) :
    exec (.passHold l) s = .next ((s.deselect l).refuse l .state) := by
  show execPassHold l s = _
  rw [execPassHold, State.taken_serving s l hs, State.deselect_pass, hr]

theorem exec_passHold (hs : s.phase = .serving) (hr : s.pass.record = some r) :
    exec (.passHold l) s = .next (
      if s.pass.state = .idle then (s.deselect l).refuse l .state
      else if r.mode ≠ .master then (s.deselect l).refuse l .mode
      else if s.pass.state ≠ .running then (s.deselect l).refuse l .state
      else ((s.deselect l).hold r).ok l .none) := by
  show execPassHold l s = _
  rw [execPassHold, State.taken_serving s l hs, State.deselect_pass, hr]

theorem exec_passResume_of_none (hs : s.phase = .serving) (hr : s.pass.record = none) :
    exec (.passResume l) s = .next ((s.deselect l).refuse l .state) := by
  show execPassResume l s = _
  rw [execPassResume, State.taken_serving s l hs, State.deselect_pass, hr]

theorem exec_passResume (hs : s.phase = .serving) (hr : s.pass.record = some r) :
    exec (.passResume l) s = .next (
      if s.pass.state = .idle then (s.deselect l).refuse l .state
      else if r.mode ≠ .master then (s.deselect l).refuse l .mode
      else if s.pass.state ≠ .held then (s.deselect l).refuse l .state
      else ((s.deselect l).resume r).ok l .none) := by
  show execPassResume l s = _
  rw [execPassResume, State.taken_serving s l hs, State.deselect_pass, hr]

/-- A hold in a run notes HELD in the report. -/
theorem State.hold_running (ho : s.pass.report.outcome = .running) : s.hold r = { s with
    pass := { s.pass with
      state := .holding
      report := { s.pass.report with conditions := { s.pass.report.conditions with held := true } } }
    clock := { s.clock with ramp := .hold r.holdRamp 0 } } :=
  State.note_running (s := { s with
    pass := { s.pass with state := .holding }, clock := { s.clock with ramp := .hold r.holdRamp 0 } }) ho _

/-- Settles O37: the tests of the two commands, and the ends of their ramps by what the tick leaves beside the axes. -/
theorem holdAndResumeAndTheEndsOfTheirRamps : Obligations.HoldAndResumeAndTheEndsOfTheirRamps := by
  unfold Obligations.HoldAndResumeAndTheEndsOfTheirRamps
  refine ⟨fun s l hs => ⟨fun h => ?_, fun r hr hidle => ⟨fun hm => ?_, fun hm => ⟨fun hst => ?_, fun hst => ?_,
    fun hst ho => ?_, fun hst => ?_⟩⟩⟩, fun s r h k hr hst hs hramp hk hrem hcap => ?_,
    fun s r h k hr hdue hramp => ?_⟩
  · cases hr : s.pass.record with
    | none => exact ⟨exec_passHold_of_none hs hr, exec_passResume_of_none hs hr⟩
    | some r =>
      have hidle := h.resolve_left (by simp [hr])
      exact ⟨by rw [exec_passHold hs hr, if_pos hidle], by rw [exec_passResume hs hr, if_pos hidle]⟩
  · exact ⟨by rw [exec_passHold hs hr, if_neg hidle, if_pos hm],
      by rw [exec_passResume hs hr, if_neg hidle, if_pos hm]⟩
  · rw [exec_passHold hs hr, if_neg hidle, if_neg (not_not.2 hm), if_pos hst]
  · rw [exec_passResume hs hr, if_neg hidle, if_neg (not_not.2 hm), if_pos hst]
  · rw [exec_passHold hs hr, if_neg hidle, if_neg (not_not.2 hm), if_neg (not_not.2 hst),
      State.hold_running (by rwa [State.deselect_pass])]
    simp only [State.deselect_pass, State.deselect_clock]
  · rw [exec_passResume hs hr, if_neg hidle, if_neg (not_not.2 hm), if_neg (not_not.2 hst), State.resume]
    simp only [State.deselect_pass, State.deselect_clock]
  · obtain ⟨b, hexec, htick⟩ := exec_holdRampEnd_due hr hst hs hramp hk hrem hcap
    refine ⟨_, hexec, (congrArg State.pass htick :), (congrArg (·.clock.ramp) htick :),
      (congrArg (·.clock.appliedRate) htick :), ?_, fun l => ?_, ?_, s.tickRun_atTrackValues r⟩
    · exact (congrArg (fun u : State => { u.clock with
        ramp := s.clock.ramp, appliedRate := s.clock.appliedRate, cameraSync := s.clock.cameraSync }) htick :)
    · rw [← EventKind.passHeld_bit]
      cases l
      · exact (congrArg State.linkA htick :)
      · exact (congrArg State.linkB htick :)
    · exact (congrArg (fun u : State => { u with
        pass := s.pass, clock := s.clock, linkA := s.linkA, linkB := s.linkB }) htick :)
  · obtain ⟨u, hframe, hpass, hrate, hexec, htick⟩ := exec_resumeRampEnd_due hr hdue hramp
    have hp := congrArg State.pass htick
    have hend : (s.tickRun r).pass.endReached = u.pass.endReached := (congrArg Pass.endReached hp :)
    refine ⟨_, hexec, (congrArg (·.clock.ramp) htick :), ?_, (congrArg (·.clock.appliedRate) htick).trans hrate, ?_, ?_,
      s.tickRun_atTrackValues r⟩
    · rw [hend]
      exact (congrArg Pass.state hp :)
    · exact (congrArg (fun p : Pass => { p with
        state := s.pass.state, endReached := s.pass.endReached, report := s.pass.report }) hp).trans hpass
    · exact (congrArg (fun v : State => { v with pass := s.pass, clock := s.clock }) htick).trans hframe

end Sys2Proof.Machine
end

section
/-! SUPPORT. PASS_ABORT (R140, R134, R159): a stop request to the clock (R115, R123), the run it ends at once or stops on a
ramp, and the approach it stops. -/

namespace Sys2Proof.Machine

variable {s : State} {l : LinkId} {r : PassRecord}

/-! ### The command, by the pass state -/

theorem exec_passAbort_of_none (hs : s.phase = .serving) (hr : s.pass.record = none) :
    exec (.passAbort l) s = .next ((s.deselect l).refuse l .state) := by
  show execPassAbort l s = _
  rw [execPassAbort, State.taken_serving s l hs, State.deselect_pass, hr]

section
variable (hs : s.phase = .serving) (hr : s.pass.record = some r)
include hs hr

theorem exec_passAbort_refused (h : s.pass.state = .idle ∨ s.pass.state = .armed ∨ s.pass.state = .atStart ∨
    s.pass.state = .ended) : exec (.passAbort l) s = .next ((s.deselect l).refuse l .state) := by
  show execPassAbort l s = _
  rw [execPassAbort, State.taken_serving s l hs, State.deselect_pass, hr]
  rcases h with h | h | h | h <;> rw [h]

theorem exec_passAbort_stopping (h : s.pass.state = .stopping) :
    exec (.passAbort l) s = .next ((s.deselect l).ok l .none) := by
  show execPassAbort l s = _
  rw [execPassAbort, State.taken_serving s l hs, State.deselect_pass, hr, h]

theorem exec_passAbort_run (hrun : s.pass.state.inRun = true) (hst : s.pass.state ≠ .stopping) :
    exec (.passAbort l) s = .next (((s.deselect l).abortRun r).ok l .none) := by
  show execPassAbort l s = _
  rw [execPassAbort, State.taken_serving s l hs, State.deselect_pass, hr]
  cases h : s.pass.state with
  | stopping => exact absurd h hst
  | rolling | running | holding | held | resuming | trailing => rfl
  | idle | armed | approaching | atStart | ended | stepMoving | stepSettling | exposing | stepReady =>
    simp [h, PassState.inRun] at hrun

theorem exec_passAbort_stepMoving (h : s.pass.state = .stepMoving) :
    exec (.passAbort l) s = .next ((s.deselect l).requestStepAbort.ok l .none) := by
  show execPassAbort l s = _
  rw [execPassAbort, State.taken_serving s l hs, State.deselect_pass, hr, h]

theorem exec_passAbort_step (h : s.pass.state = .stepSettling ∨ s.pass.state = .exposing ∨ s.pass.state = .stepReady) :
    exec (.passAbort l) s = .next (((s.deselect l).endRun .aborted (some .command)).ok l .none) := by
  show execPassAbort l s = _
  rw [execPassAbort, State.taken_serving s l hs, State.deselect_pass, hr]
  rcases h with h | h | h <;> rw [h]

theorem exec_passAbort_approaching (h : s.pass.state = .approaching) :
    exec (.passAbort l) s = .next ((s.deselect l).stopApproach.ok l .none) := by
  show execPassAbort l s = _
  rw [execPassAbort, State.taken_serving s l hs, State.deselect_pass, hr, h]

end

theorem PassState.inRun_of_rolled {p : PassState} (h : p = .rolling ∨ p = .running ∨ p = .trailing) :
    p.inRun = true := by
  rcases h with h | h | h <;> rw [h] <;> rfl

/-! ### The stop request (R115, R123) -/

/-- The least tick at which the stop's fraction is no more than the current one is the one it begins at. -/
theorem stopTick_eq {hs q h j : Nat} (hh : 1 ≤ h) (hj : (hs - j) * h ≤ q * hs)
    (hleast : ∀ i, i < j → q * hs < (hs - i) * h) : stopTick hs q h = j :=
  le_antisymm ((stopTick_le_iff hh).2 hj)
    (not_lt.1 (fun hlt => absurd ((stopTick_le_iff hh).1 le_rfl) (not_le.2 (hleast _ hlt))))

theorem State.clockStop_begins {hs j : Nat} (hr : ∀ h k, s.clock.ramp ≠ .stop h k)
    (hj : stopTick hs s.clock.ramp.fraction.1 s.clock.ramp.fraction.2 = j) (hlt : j < hs) :
    s.clockStop hs = (s.withClock { s.clock with ramp := .stop hs j }, none) := by
  unfold State.clockStop
  split
  · next h => exact absurd h (hr _ _)
  · rw [hj, if_neg (by omega)]

theorem State.clockStop_ends {hs : Nat} (hr : ∀ h k, s.clock.ramp ≠ .stop h k)
    (hj : stopTick hs s.clock.ramp.fraction.1 s.clock.ramp.fraction.2 = hs) :
    s.clockStop hs = (s.withClock { s.clock with ramp := .none, appliedRate := 0 }, some .stopped) := by
  unfold State.clockStop
  split
  · next h => exact absurd h (hr _ _)
  · rw [hj, if_pos le_rfl]

/-- The pass as PASS_ABORT hands its stop request to the clock. -/
def State.commandStop (s : State) : State := s.withPass { s.pass with state := .stopping, stopCause := some .command }

theorem State.abortRun_eq : s.abortRun r =
    (s.commandStop.stopRequest r.stopRamp).1.finish (s.commandStop.stopRequest r.stopRamp).2 := rfl

theorem State.stopRequest_clocking (h : s.clock.state = .clocking) (hs : Nat) : s.stopRequest hs = s.clockStop hs := by
  rw [State.stopRequest, h]

theorem State.stopRequest_following (h : s.clock.state = .following) (hs : Nat) :
    s.stopRequest hs = s.followerStop hs := by
  rw [State.stopRequest, h]

/-- A stop begins on the ramp's tick j of a CLOCKING run. -/
theorem State.abortRun_begins (h : s.clock.state = .clocking) {j : Nat} (hr : ∀ h k, s.clock.ramp ≠ .stop h k)
    (hj : stopTick r.stopRamp s.clock.ramp.fraction.1 s.clock.ramp.fraction.2 = j) (hlt : j < r.stopRamp) :
    s.abortRun r = { s with
      pass := { s.pass with state := .stopping, stopCause := some .command }
      clock := { s.clock with ramp := .stop r.stopRamp j } } := by
  rw [State.abortRun_eq, State.stopRequest_clocking (s := s.commandStop) h,
    State.clockStop_begins (s := s.commandStop) hr hj hlt]
  rfl

/-- A CLOCKING run whose current fraction is 0 ends at once. -/
theorem State.abortRun_ends (h : s.clock.state = .clocking) (hr : ∀ h k, s.clock.ramp ≠ .stop h k)
    (hj : stopTick r.stopRamp s.clock.ramp.fraction.1 s.clock.ramp.fraction.2 = r.stopRamp) :
    s.abortRun r = s.endRun .aborted (some .command) := by
  rw [State.abortRun_eq, State.stopRequest_clocking (s := s.commandStop) h,
    State.clockStop_ends (s := s.commandStop) hr hj]
  rfl

theorem State.abortRun_following_begun (h : s.clock.state = .following) (hf : s.clock.firstFrameBegun = some true)
    (hst : 0 < r.stopRamp) : s.abortRun r = { s with
      pass := { s.pass with state := .stopping, stopCause := some .command }
      clock := { s.clock with
        state := .clocking, remainder := 0, baseRate := s.clock.measuredRate
        ramp := .stop r.stopRamp 0, lock := none, firstFrameBegun := none } } := by
  rw [State.abortRun_eq, State.stopRequest_following (s := s.commandStop) h,
    State.followerStop_begun (s := s.commandStop) hf hst]
  rfl

theorem State.abortRun_following_notBegun (h : s.clock.state = .following)
    (hf : s.clock.firstFrameBegun = some false) : s.abortRun r = s.endRun .aborted (some .command) := by
  rw [State.abortRun_eq, State.stopRequest_following (s := s.commandStop) h,
    State.followerStop_notBegun (s := s.commandStop) hf]
  rfl

/-! ### The approach (R134) -/

section
variable {g : GroupEase} (hg : s.pass.approach = some g)
include hg

theorem State.stopApproach_stopping (hst : g.stopping = true) : s.stopApproach = s := by
  rw [State.stopApproach, hg]
  exact if_pos hst

theorem State.stopApproach_givesUp (hst : g.stopping = false) (hv : ∀ e ∈ g.axes, g.velocity e = 0) :
    s.stopApproach = forAxes g.ids (fun a t => t.onAxis a (fun x => { x with creep := none }))
      (s.withPass { s.pass with approach := none, state := .armed }) := by
  have hstill : g.still = true := by simpa [GroupEase.still] using hv
  rw [State.stopApproach, hg]
  simp only [hst, hstill, Bool.false_eq_true, if_false, if_true, State.approachGivenUp, hg]

theorem State.stopApproach_handsOver (hst : g.stopping = false) (hv : ∃ e ∈ g.axes, g.velocity e ≠ 0) :
    s.stopApproach =
      (s.withPass { s.pass with approach := some { g with stopping := true } }).handToCreep g := by
  have hstill : ¬ g.still = true := by simpa [GroupEase.still] using hv
  rw [State.stopApproach, hg]
  simp only [hst, hstill, Bool.false_eq_true, if_false]

end

/-- Settles O38: PASS_ABORT by the pass state and the clock, and the end of a stop by what its last tick leaves beside
the axes. -/
theorem passAbortByState : Obligations.PassAbortByState := by
  unfold Obligations.PassAbortByState
  refine ⟨fun s l hs hr => exec_passAbort_of_none hs hr, fun s l r hs hr => ?_, fun s r h k hr hst hs hramp hk => ?_⟩
  · intro d ended
    have hp : d.pass = s.pass := s.deselect_pass l
    have hc : d.clock = s.clock := s.deselect_clock l
    have hended : d.endRun .aborted (some .command) = ended := by
      rw [State.endRun, hp, hc]
      rfl
    refine ⟨fun h => exec_passAbort_refused hs hr h, fun h => exec_passAbort_stopping hs hr h,
      fun h hclock hramp hstop => ?_, fun h k q j hclock hh hq hcur hj hle hleast => ?_,
      fun h hclock hbegun hstop => ?_, fun h hclock hramp => ?_, fun h hclock hbegun => ?_, fun h => ⟨fun ha => ?_, fun ha => ?_⟩,
      fun h => hended ▸ exec_passAbort_step hs hr h, fun g h hg => ⟨fun hst => ?_, fun hst hv => ?_, fun hst hv => ?_⟩⟩
    · rw [exec_passAbort_run hs hr (PassState.inRun_of_rolled h) (by rcases h with h | h | h <;> simp [h]),
        State.abortRun_begins (hc ▸ hclock) (by simp [hramp]) (j := 0) (by simp [hramp, Ramp.fraction, stopTick])
          hstop, hp, hc]
    · have hrun : s.pass.state.inRun = true ∧ s.pass.state ≠ .stopping := by
        rcases hcur with ⟨hst, -, -⟩ | ⟨hst, -, -⟩ <;> simp [hst, PassState.inRun]
      have hstops : ∀ a b, d.clock.ramp ≠ .stop a b := by
        rcases hcur with ⟨-, hramp, -⟩ | ⟨-, hramp, -⟩ <;> simp [hc, hramp]
      have hfraction : d.clock.ramp.fraction = (q, h) := by
        rcases hcur with ⟨-, hramp, rfl⟩ | ⟨-, hramp, rfl⟩ <;> rw [hc, hramp, Ramp.fraction]
      have htick : stopTick r.stopRamp d.clock.ramp.fraction.1 d.clock.ramp.fraction.2 = j := by
        rw [hfraction]
        exact stopTick_eq hh hle hleast
      rw [exec_passAbort_run hs hr hrun.1 hrun.2]
      refine ⟨fun hlt => ?_, fun heq => ?_⟩
      · rw [State.abortRun_begins (hc ▸ hclock) hstops htick hlt, hp, hc]
      · rw [State.abortRun_ends (hc ▸ hclock) hstops (htick.trans heq), hended]
    · rw [exec_passAbort_run hs hr (PassState.inRun_of_rolled h) (by rcases h with h | h | h <;> simp [h]),
        State.abortRun_following_begun (hc ▸ hclock) (hc ▸ hbegun) hstop, hp, hc]
    · rw [exec_passAbort_run hs hr (by rw [h]; rfl) (by simp [h]), State.abortRun_ends (hc ▸ hclock)
        (by simp [hramp]) (by simp [hramp, Ramp.fraction, stopTick]), hended]
    · rw [exec_passAbort_run hs hr (by rw [h]; rfl) (by simp [h]),
        State.abortRun_following_notBegun (hc ▸ hclock) (hc ▸ hbegun), hended]
    · rw [exec_passAbort_stepMoving hs hr h, State.requestStepAbort, hp, if_pos ha]
    · rw [exec_passAbort_stepMoving hs hr h, State.requestStepAbort, hp, if_neg (by simp [ha]),
        State.withStepping, hp]
      rfl
    · rw [exec_passAbort_approaching hs hr h, State.stopApproach_stopping (hp ▸ hg) hst]
    · rw [exec_passAbort_approaching hs hr h, State.stopApproach_givesUp (hp ▸ hg) hst hv, hp]
      rfl
    · rw [exec_passAbort_approaching hs hr h, State.stopApproach_handsOver (hp ▸ hg) hst hv, hp]
      rfl
  · obtain ⟨u, hframe, hpass, hexec, htick⟩ := exec_stopRampEnd_due hr hst hs hramp hk
    have hp := congrArg State.pass htick
    have hc := congrArg State.clock htick
    refine ⟨_, hexec, (congrArg Pass.state hp :), (congrArg Pass.cameraRun hp :), (congrArg Pass.stopCause hp :),
      (congrArg Pass.endReached hp :), (congrArg (·.report.outcome) hp :), (congrArg (·.report.cause) hp :),
      (congrArg Clock.state hc :), (congrArg Clock.appliedRate hc :), (congrArg Clock.cameraSync hc :), ?_, ?_,
      fun l => ?_, ?_, s.tickRun_atTrackValues r⟩
    · exact ((congrArg Pass.record hp).trans (congrArg Pass.record hpass :)).trans hr
    · exact (congrArg Pass.approach hp).trans (congrArg Pass.approach hpass :)
    · rw [← EventKind.passEnded_bit]
      cases l
      · exact (congrArg State.linkA htick).trans (congrArg (fun v : State => v.linkA.raise .passEnded) hframe :)
      · exact (congrArg State.linkB htick).trans (congrArg (fun v : State => v.linkB.raise .passEnded) hframe :)
    · refine Eq.trans (congrArg (fun v : State => { v with
        pass := s.pass, clock := s.clock, linkA := s.linkA, linkB := s.linkB }) htick) ?_
      exact (congrArg (fun v : State => { v with
        pass := s.pass, clock := s.clock, linkA := s.linkA, linkB := s.linkB }) hframe :)

end Sys2Proof.Machine
end

section
/-! SUPPORT. PASS_GO_START (R132) with its tests in order, the approach's tick, and the ends of an approach (R133,
R134). -/

namespace Sys2Proof.Machine

variable {s : State} {l : LinkId} {r : PassRecord} {g : GroupEase}

/-! ### PASS_GO_START (R132) -/

theorem exec_passGoStart_of_none (hs : s.phase = .serving) (hr : s.pass.record = none) :
    exec (.passGoStart l) s = .next ((s.deselect l).refuse l .state) := by
  show execPassGoStart l s = _
  rw [execPassGoStart, State.taken_serving s l hs, State.deselect_pass, hr]

/-- The eases of the approach: each pass axis from its setpoint to its start value. -/
def State.approachEases (s : State) (r : PassRecord) (m : Move) : List EaseAxis :=
  r.axes.map (fun pa =>
    { axis := pa.axis, start := (s.axis pa.axis).setpoint
      dist := trackValue (m.axisTrack pa.axis) (r.startFrame * 65536) pa.offset - (s.axis pa.axis).setpoint })

theorem State.easeAxes_approachTargets {m : Move} (hm : s.move r.slot = some m) :
    s.easeAxes (s.approachTargets r) = s.approachEases r m := by
  simp only [State.approachTargets, hm, State.easeAxes, List.map_map]
  rfl

theorem exec_passGoStart {m : Move} (hs : s.phase = .serving) (hr : s.pass.record = some r)
    (hm : s.move r.slot = some m) :
    exec (.passGoStart l) s = .next (
      if s.pass.state ≠ .armed ∧ s.pass.state ≠ .ended then (s.deselect l).refuse l .state
      else if r.axes.any (fun pa => decide ((s.axis pa.axis).drive ≠ .on)) = true then
        (s.deselect l).refuse l .state
      else if r.axes.any (fun pa => !(s.axis pa.axis).conf.admits (s.axis pa.axis).setpoint) = true then
        (s.deselect l).refuse l .limits
      else (s.groupDuration (s.approachEases r m)).elim ((s.deselect l).refuse l .range)
        (fun n => ((s.deselect l).beginApproach (s.approachEases r m) n).ok l .none)) := by
  have htargets : (s.deselect l).approachTargets r = s.approachTargets r := by
    simp [State.approachTargets]
  show execPassGoStart l s = _
  rw [execPassGoStart, State.taken_serving s l hs, State.deselect_pass, hr]
  simp only [htargets, State.deselect_easeAxes, State.deselect_groupDuration, State.deselect_axis,
    State.easeAxes_approachTargets hm]
  cases s.groupDuration (s.approachEases r m) <;> rfl

theorem exec_passGoStart_refused (hs : s.phase = .serving)
    (h : s.pass.record = none ∨ (s.pass.state ≠ .armed ∧ s.pass.state ≠ .ended)) :
    exec (.passGoStart l) s = .next ((s.deselect l).refuse l .state) := by
  cases hr : s.pass.record with
  | none => exact exec_passGoStart_of_none hs hr
  | some r =>
    show execPassGoStart l s = _
    rw [execPassGoStart, State.taken_serving s l hs, State.deselect_pass, hr]
    exact congrArg Host.Outcome.next (if_pos (h.resolve_left (by simp [hr])))

theorem State.beginApproach_atStart {es : List EaseAxis} (n : Nat) (h : ∀ e ∈ es, e.dist = 0) :
    s.beginApproach es n = s.atStart := if_pos (by simpa using h)

theorem State.beginApproach_eases {es : List EaseAxis} (n : Nat) (h : ∃ e ∈ es, e.dist ≠ 0) :
    s.beginApproach es n = s.withPass { s.pass with
      state := .approaching
      approach := some { axes := es, duration := n, elapsed := 0, stopping := false } } :=
  if_neg (by simpa using h)

/-! ### The approach's tick (R133, R134) -/

/-- A tick of an approach's ease, its end aside. -/
def State.approachEased (s : State) (g : GroupEase) : State :=
  (s.easeSetpoints g (g.elapsed + 1)).withPass
    { s.pass with approach := some { g with elapsed := g.elapsed + 1 } }

theorem State.easeSetpoints_pass (s : State) (g : GroupEase) (k : Nat) : (s.easeSetpoints g k).pass = s.pass :=
  (congrArg State.pass (s.easeSetpoints_frame g k) :)

theorem State.groupCreepTick_pass (s : State) (g : GroupEase) : (s.groupCreepTick g).pass = s.pass :=
  (congrArg State.pass (s.groupCreepTick_frame g) :)

theorem State.approachEased_frame : { s.approachEased g with pass := s.pass, axes := s.axes } = s := by
  have h := s.easeSetpoints_frame g (g.elapsed + 1)
  rw [State.mk.injEq] at h ⊢
  simp_all [State.approachEased]

theorem State.approachEased_notMem {b : AxisId} (h : b ∉ g.ids) : (s.approachEased g).axis b = s.axis b :=
  s.easeSetpoints_notMem g (g.elapsed + 1) h

theorem State.approachEased_mem (hn : g.ids.Nodup) {e : EaseAxis} (h : e ∈ g.axes) :
    (s.approachEased g).axis e.axis =
      { s.axis e.axis with setpoint := e.start + easeOffset e.dist g.duration (g.elapsed + 1) } :=
  s.easeSetpoints_mem g (g.elapsed + 1) hn h

section
variable (hg : s.pass.approach = some g)
include hg

theorem State.tickApproach_easing (hst : g.stopping = false) :
    s.tickApproach = if g.duration ≤ g.elapsed + 1 then (s.approachEased g).atStart else s.approachEased g := by
  simp only [State.tickApproach, hg, hst, Bool.false_eq_true, if_false, State.approachEased, State.easeSetpoints_pass]

theorem State.tickApproach_stopping (hst : g.stopping = true) :
    s.tickApproach = if (s.groupCreepTick g).groupAtRest g = true then (s.groupCreepTick g).approachGivenUp
      else s.groupCreepTick g := by
  simp only [State.tickApproach, hg, hst, if_true]

variable (hap : s.pass.state = .approaching)
include hap

theorem exec_approachEaseEnd (hst : g.stopping = false) (hd : g.duration ≤ g.elapsed + 1) :
    exec .approachEaseEnd s = .next s.tickApproach := by
  show execApproachEaseEnd s = _
  simp [execApproachEaseEnd, State.approachEaseDue, hg, hap, hst, hd]

theorem exec_approachStopAtRest (hn : g.ids.Nodup) (hst : g.stopping = true)
    (hr : ∀ a ∈ g.ids, (s.axis a).creepTick.creepAtRest = true) :
    exec .approachStopAtRest s = .next s.tickApproach := by
  show execApproachStopAtRest s = _
  simp [execApproachStopAtRest, State.approachRestDue, hg, hap, hst, (s.groupAtRest_groupCreepTick_iff hn).2 hr]

end

theorem State.tickPass_approaching (hr : s.pass.record = some r) (hap : s.pass.state = .approaching) :
    s.tickPass = s.tickApproach := by
  simp [State.tickPass, hr, hap, PassState.inRun, PassState.inStep]

/-! ### The ends of an approach -/

theorem State.approachGivenUp_of_approach (hg : s.pass.approach = some g) :
    s.approachGivenUp = forAxes g.ids (fun a t => t.onAxis a (fun x => { x with creep := none }))
      (s.withPass { s.pass with approach := none, state := .armed }) := by
  rw [State.approachGivenUp, hg]

theorem EventKind.passAtStart_bit : EventKind.passAtStart.bit = 0x4#17 := by decide

theorem approachEaseEnd_ends (hap : s.pass.state = .approaching) (hg : s.pass.approach = some g) (hn : g.ids.Nodup)
    (hst : g.stopping = false) (hd : g.elapsed + 1 = g.duration) :
    ∃ t, exec .approachEaseEnd s = .next t ∧ t.pass = { s.pass with approach := none, state := .atStart } ∧
      (∀ l, t.link l = { s.link l with flags := (s.link l).flags ||| 0x4#17 }) ∧
      (∀ e ∈ g.axes, t.axis e.axis = { s.axis e.axis with setpoint := e.start + e.dist }) ∧
      (∀ b, b ∉ g.ids → t.axis b = s.axis b) ∧
      { t with pass := s.pass, axes := s.axes, linkA := s.linkA, linkB := s.linkB } = s := by
  have hframe := s.approachEased_frame (g := g)
  refine ⟨_, exec_approachEaseEnd hg hap hst hd.ge, ?_⟩
  rw [State.tickApproach_easing hg hst, if_pos hd.ge]
  refine ⟨rfl, fun l => ?_, fun e he => ?_, fun b hb => State.approachEased_notMem hb, ?_⟩
  · have hlink : (s.approachEased g).link l = s.link l := by
      cases l
      · exact (congrArg State.linkA hframe :)
      · exact (congrArg State.linkB hframe :)
    rw [State.atStart, State.raise_link, State.withPass_link, hlink, Link.raise, EventKind.passAtStart_bit]
  · refine (State.approachEased_mem hn he).trans ?_
    rw [hd, easeOffset_self _ (hd ▸ Nat.le_add_left ..)]
  · exact (congrArg (fun t : State => { t with linkA := s.linkA, linkB := s.linkB }) hframe :)

theorem approachStopAtRest_ends (hap : s.pass.state = .approaching) (hg : s.pass.approach = some g)
    (hn : g.ids.Nodup) (hst : g.stopping = true) (hr : ∀ a ∈ g.ids, (s.axis a).creepTick.creepAtRest = true) :
    ∃ t, exec .approachStopAtRest s = .next t ∧ t.pass = { s.pass with approach := none, state := .armed } ∧
      (∀ a ∈ g.ids, t.axis a = { (s.axis a).creepTick with creep := none }) ∧
      (∀ b, b ∉ g.ids → t.axis b = s.axis b) ∧ { t with pass := s.pass, axes := s.axes } = s := by
  have hpass := s.groupCreepTick_pass g
  refine ⟨_, exec_approachStopAtRest hg hap hn hst hr, ?_⟩
  rw [State.tickApproach_stopping hg hst, if_pos ((s.groupAtRest_groupCreepTick_iff hn).2 hr)]
  refine ⟨?_, fun a ha => ?_, fun b hb => ?_, ?_⟩
  · rw [State.approachGivenUp_of_approach (hpass ▸ hg), hpass]
    exact (congrArg State.pass (forAxes_onAxis_frame _ g.ids _) :)
  · rw [State.approachGivenUp_of_approach (hpass ▸ hg),
      forAxes_onAxis_mem _ _ (fun x => { x with creep := none }) (fun _ => rfl) ha, State.withPass_axis,
      s.groupCreepTick_mem g hn ha]
  · rw [State.approachGivenUp_of_approach (hpass ▸ hg), forAxes_onAxis_notMem _ _ _ hb, State.withPass_axis,
      s.groupCreepTick_notMem g hb]
  · have h1 := s.groupCreepTick_frame g
    have h2 := (s.groupCreepTick g).approachGivenUp_frame
    rw [State.mk.injEq] at h1 h2 ⊢
    simp_all

/-- Settles O35: the tests of PASS_GO_START in order, the two ends, and the approach's tick. -/
theorem theApproachBeginsAndEnds : Obligations.TheApproachBeginsAndEnds := by
  unfold Obligations.TheApproachBeginsAndEnds
  refine ⟨fun s l r m hs hr hm => ?_, fun s g hap hg hn hst hd => approachEaseEnd_ends hap hg hn hst hd,
    fun s g hap hg hn hst hrest => approachStopAtRest_ends hap hg hn hst hrest,
    fun s l hs h => exec_passGoStart_refused hs (h.imp_right (fun hi => by simp [hi])), fun s r g hr hap hg hn => ?_⟩
  · intro d es
    have hes : es = s.approachEases r m := rfl
    refine ⟨fun h1 h2 => exec_passGoStart_refused hs (.inr ⟨h1, h2⟩), fun hst => ?_⟩
    rw [exec_passGoStart hs hr hm, if_neg (by rcases hst with h | h <;> simp [h]), ← hes]
    refine ⟨fun h => by rw [if_pos (by simpa using h)], fun h => ?_⟩
    rw [if_neg (by simpa using h)]
    refine ⟨fun h => by rw [if_pos (by simpa using h)], fun h => ?_⟩
    rw [if_neg (by simpa using h)]
    refine ⟨fun hdur => by rw [hdur]; rfl, fun n hdur => ?_⟩
    rw [hdur, Option.elim_some]
    refine ⟨fun h0 => ?_, fun h0 => ?_⟩
    · rw [State.beginApproach_atStart n h0, State.atStart, State.deselect_pass]; rfl
    · rw [State.beginApproach_eases n h0, State.deselect_pass]; rfl
  · intro t
    have ht : t = s.tickApproach := State.tickPass_approaching hr hap
    refine ⟨fun hst => ⟨fun hlt => ?_, fun hge => ht ▸ exec_approachEaseEnd hg hap hst hge⟩,
      fun hst => ⟨fun hrest => ?_, fun hrest => ht ▸ exec_approachStopAtRest hg hap hn hst hrest⟩⟩
    · rw [ht, State.tickApproach_easing hg hst, if_neg (by omega)]
      exact ⟨rfl, fun e he => State.approachEased_mem hn he, fun b hb => State.approachEased_notMem hb,
        State.approachEased_frame⟩
    · have hmoves : ¬ (s.groupCreepTick g).groupAtRest g = true := by
        rw [s.groupAtRest_groupCreepTick_iff hn]
        obtain ⟨a, ha, hf⟩ := hrest
        exact fun hall => by simp [hall a ha] at hf
      rw [ht, State.tickApproach_stopping hg hst, if_neg hmoves]
      exact ⟨fun a ha => s.groupCreepTick_mem g hn ha, fun b hb => s.groupCreepTick_notMem g hb,
        s.groupCreepTick_frame g⟩

end Sys2Proof.Machine
end

section
/-! SUPPORT. PASS_DISARM (R147): the bound move released (R11, R12), the axes released with their staged records applied
(R86), the clock and the record dropped (R125). -/

namespace Sys2Proof.Machine

variable {s : State} {l : LinkId} {r : PassRecord} {m : Move}

/-! ### A staged record and the moves (R85, R86) -/

/-- The axis holds a staged record that differs from the one in force in a certified limit. -/
def State.Relimits (s : State) (a : AxisId) : Prop :=
  ∃ rec, (s.axis a).staged = some rec ∧ (s.axis a).conf.limitsDiffer rec = true

theorem State.applyStaged_move_of_relimits {a : AxisId} (h : s.Relimits a) (n : Nat) :
    (s.applyStaged a).move n = (s.move n).map (Move.relimited a) := by
  obtain ⟨rec, hrec, hdiff⟩ := h
  rw [State.applyStaged, hrec]
  dsimp only
  rw [State.applyRecord_move, State.onAxis_axis, if_pos hdiff, State.onAxis_move]

theorem State.applyStaged_move_of_not_relimits {a : AxisId} (h : ¬ s.Relimits a) (n : Nat) :
    (s.applyStaged a).move n = s.move n := by
  cases hrec : (s.axis a).staged with
  | none => rw [State.applyStaged_none _ _ hrec]
  | some rec =>
    rw [State.applyStaged, hrec]
    dsimp only
    rw [State.applyRecord_move, State.onAxis_axis, if_neg (fun hdiff => h ⟨rec, hrec, hdiff⟩), State.onAxis_move]

theorem Move.relimited_opened (a : AxisId) (h : m.state = .opened) : m.relimited a = m := by
  by_cases ht : m.hasTrack a = true
  · rw [Move.relimited_tracked a ht, Move.limitsChanged, h]
  · exact Move.relimited_untracked a ht

theorem Move.relimited_ready {a : AxisId} (ht : m.hasTrack a = true) (h : m.state = .ready) :
    m.relimited a = m.uncertified := by
  rw [Move.relimited_tracked a ht, Move.limitsChanged, h]

/-- An OPEN move stays as it is, whatever staged records are applied. -/
theorem forAxes_applyStaged_move_opened (as : List AxisId) {n : Nat} (hm : s.move n = some m) (h : m.state = .opened) :
    (forAxes as (fun a t => t.applyStaged a) s).move n = some m := by
  refine forAxes_inv s (fun t => t.move n = some m) _ (fun b t ht => ?_) as hm
  by_cases hb : t.Relimits b
  · rw [State.applyStaged_move_of_relimits hb, ht, Option.map_some, Move.relimited_opened b h]
  · rw [State.applyStaged_move_of_not_relimits hb, ht]

/-- A READY move loses its certification when a staged record changes a certified limit of one of its tracks. -/
theorem forAxes_applyStaged_move_ready {as : List AxisId} (hn : as.Nodup) {n : Nat} (hm : s.move n = some m)
    (h : m.state = .ready) :
    ((∃ a ∈ as, m.hasTrack a = true ∧ s.Relimits a) →
      (forAxes as (fun a t => t.applyStaged a) s).move n = some m.uncertified) ∧
    ((¬ ∃ a ∈ as, m.hasTrack a = true ∧ s.Relimits a) →
      (forAxes as (fun a t => t.applyStaged a) s).move n = some m) := by
  induction as generalizing s with
  | nil => exact ⟨by simp, fun _ => hm⟩
  | cons b bs ih =>
    rw [List.nodup_cons] at hn
    rw [forAxes_cons]
    by_cases hb : m.hasTrack b = true ∧ s.Relimits b
    · have hmove : (s.applyStaged b).move n = some m.uncertified := by
        rw [State.applyStaged_move_of_relimits hb.2, hm, Option.map_some, Move.relimited_ready hb.1 h]
      exact ⟨fun _ => forAxes_applyStaged_move_opened bs hmove rfl,
        fun hnone => absurd ⟨b, List.mem_cons_self, hb⟩ hnone⟩
    · have hmove : (s.applyStaged b).move n = some m := by
        by_cases hr : s.Relimits b
        · rw [State.applyStaged_move_of_relimits hr, hm, Option.map_some,
            Move.relimited_untracked b (fun ht => hb ⟨ht, hr⟩)]
        · rw [State.applyStaged_move_of_not_relimits hr, hm]
      have hrest : (∃ a ∈ b :: bs, m.hasTrack a = true ∧ s.Relimits a) ↔
          ∃ a ∈ bs, m.hasTrack a = true ∧ (s.applyStaged b).Relimits a := by
        rw [List.exists_mem_cons_iff, or_iff_right hb]
        refine exists_congr fun a => and_congr_right fun ha => ?_
        have hne : a ≠ b := fun e => hn.1 (e ▸ ha)
        rw [State.Relimits, State.Relimits, State.applyStaged_axis_ne _ _ hne]
      rw [hrest]
      exact ih hn.2 hmove

/-! ### What a disarming leaves -/

/-- The part as a disarming leaves it before the staged records of its axes are applied. -/
def State.unbound (s : State) (r : PassRecord) : State :=
  forAxes r.axisIds (fun a t => t.onAxis a (fun x => { x with owner := .none }))
    ((s.withClock s.clock.disarmed).onMove r.slot Move.release)

/-- The pass controller behind a disarming: IDLE without record, the report kept. -/
def Pass.disarmed (p : Pass) : Pass :=
  { p with
    state := .idle, record := none, stopCause := none, endReached := none, approach := none
    stepping := Stepping.reset }

theorem State.unbound_frame :
    { s.unbound r with clock := s.clock, axes := s.axes, slots := s.slots } = s := by
  have h := forAxes_onAxis_frame ((s.withClock s.clock.disarmed).onMove r.slot Move.release) r.axisIds
    (fun x => { x with owner := .none })
  rw [State.mk.injEq] at h ⊢
  simp_all [State.unbound]

theorem State.unbound_clock : (s.unbound r).clock = s.clock.disarmed := by
  have h := forAxes_onAxis_frame ((s.withClock s.clock.disarmed).onMove r.slot Move.release) r.axisIds
    (fun x => { x with owner := .none })
  refine (congrArg State.clock h :).trans ?_
  rw [State.onMove_clock, State.withClock_clock]

theorem State.unbound_axis (b : AxisId) :
    (s.unbound r).axis b = if b ∈ r.axisIds then { s.axis b with owner := .none } else s.axis b := by
  unfold State.unbound
  split
  · next h =>
    rw [forAxes_onAxis_mem _ _ (fun x => { x with owner := .none }) (fun _ => rfl) h, State.onMove_axis,
      State.withClock_axis]
  · next h => rw [forAxes_onAxis_notMem _ _ _ h, State.onMove_axis, State.withClock_axis]

theorem State.unbound_move (n : Nat) :
    (s.unbound r).move n = if n = r.slot then (s.move n).map Move.release else s.move n := by
  have h := forAxes_onAxis_frame ((s.withClock s.clock.disarmed).onMove r.slot Move.release) r.axisIds
    (fun x => { x with owner := .none })
  rw [State.move_congr (t := s.unbound r) (congrArg State.slots h :), State.onMove_move, State.withClock_move]

theorem State.disarm_eq (hr : s.pass.record = some r) :
    s.disarm r = ((s.unbound r).applyStagedAll r.axisIds).withPass s.pass.disarmed := by
  have hmove : (s.withClock s.clock.disarmed).releaseMove =
      (s.withClock s.clock.disarmed).onMove r.slot Move.release := by
    rw [State.releaseMove, State.withClock_pass, hr]
  have hpass : ((s.unbound r).applyStagedAll r.axisIds).pass = s.pass :=
    (congrArg State.pass (State.applyStagedAll_frame _ _) :).trans (congrArg State.pass s.unbound_frame :)
  rw [State.disarm, State.releaseAxes, hmove, ← State.unbound]
  dsimp only
  rw [hpass]
  rfl

section
variable (hr : s.pass.record = some r)
include hr

theorem State.disarm_frame :
    { s.disarm r with
      pass := s.pass, clock := s.clock, axes := s.axes, slots := s.slots, check := s.check, linkA := s.linkA
      linkB := s.linkB } = s := by
  have h1 := s.unbound_frame (r := r)
  have h2 := (s.unbound r).applyStagedAll_frame r.axisIds
  rw [State.disarm_eq hr]
  rw [State.mk.injEq] at h1 h2 ⊢
  simp_all

theorem State.disarm_clock : (s.disarm r).clock = { Clock.reset with glitchCount := s.clock.glitchCount } := by
  rw [State.disarm_eq hr]
  exact (congrArg State.clock (State.applyStagedAll_frame _ _) :).trans State.unbound_clock

theorem State.disarm_pass : (s.disarm r).pass = s.pass.disarmed := by
  rw [State.disarm_eq hr]
  rfl

theorem State.disarm_axis (b : AxisId) : (s.disarm r).axis b =
    if b ∈ r.axisIds then ({ s.axis b with owner := .none } : Axis).appliedStaged else s.axis b := by
  rw [State.disarm_eq hr, State.withPass_axis, State.applyStagedAll_axis, State.unbound_axis]
  split <;> rfl

/-- With no staged record a disarming touches no more of the store than the move it releases, and no link. -/
theorem State.disarm_noneStaged (h : ∀ a ∈ r.axisIds, (s.axis a).staged = none) :
    (∀ n, n ≠ r.slot → (s.disarm r).move n = s.move n) ∧ (s.disarm r).check = s.check ∧
      ∀ k, (s.disarm r).link k = s.link k := by
  have hall : (s.unbound r).applyStagedAll r.axisIds = s.unbound r := by
    refine State.applyStagedAll_none _ _ (fun a ha => ?_)
    rw [State.unbound_axis, if_pos ha]
    exact h a ha
  have hframe := s.unbound_frame (r := r)
  rw [State.disarm_eq hr, hall]
  refine ⟨fun n hn => ?_, (congrArg State.check hframe :), fun k => ?_⟩
  · rw [State.withPass_move, State.unbound_move, if_neg hn]
  · cases k
    · exact (congrArg State.linkA hframe :)
    · exact (congrArg State.linkB hframe :)

/-- The released move loses its certification: it carried the mark of R12, or a released axis with one of its tracks has
a staged record that differs in a certified limit. -/
def State.Drops (s : State) (r : PassRecord) (m : Move) : Prop :=
  m.uncertify = true ∨ ∃ pa ∈ r.axes, m.hasTrack pa.axis = true ∧ s.Relimits pa.axis

theorem State.disarm_move (hm : s.move r.slot = some m) (hb : m.state = .bound) :
    (s.Drops r m → (s.disarm r).move r.slot = some m.uncertified) ∧
    (¬ s.Drops r m → (s.disarm r).move r.slot = some { m with state := .ready }) := by
  have hmove : (s.unbound r).move r.slot = some m.release := by
    rw [State.unbound_move, if_pos rfl, hm, Option.map_some]
  have hrelimits : ∀ a ∈ r.axisIds, ((s.unbound r).Relimits a ↔ s.Relimits a) := fun a ha => by
    rw [State.Relimits, State.Relimits, State.unbound_axis, if_pos ha]
  have hlist : (∃ a ∈ allAxes.filter (fun a => r.axisIds.contains a), m.hasTrack a = true ∧ (s.unbound r).Relimits a) ↔
      ∃ pa ∈ r.axes, m.hasTrack pa.axis = true ∧ s.Relimits pa.axis := by
    constructor
    · rintro ⟨a, ha, ht, hrel⟩
      have hmem : a ∈ r.axisIds := by simpa [allAxes_mem] using ha
      obtain ⟨pa, hpa, rfl⟩ := List.mem_map.1 hmem
      exact ⟨pa, hpa, ht, (hrelimits _ hmem).1 hrel⟩
    · rintro ⟨pa, hpa, ht, hrel⟩
      have hmem : pa.axis ∈ r.axisIds := List.mem_map_of_mem hpa
      exact ⟨pa.axis, by simpa [allAxes_mem] using hmem, ht, (hrelimits _ hmem).2 hrel⟩
  have hnodup : (allAxes.filter (fun a => r.axisIds.contains a)).Nodup :=
    List.Nodup.filter _ (by decide)
  rw [State.disarm_eq hr, State.withPass_move, State.applyStagedAll, State.Drops]
  by_cases hu : m.uncertify = true
  · have hrelease : m.release = m.uncertified := by rw [Move.release, hb]; exact if_pos hu
    exact ⟨fun _ => forAxes_applyStaged_move_opened _ (hrelease ▸ hmove) rfl, fun h => absurd (.inl hu) h⟩
  · have hrelease : m.release = { m with state := .ready } := by rw [Move.release, hb]; exact if_neg hu
    have hready := forAxes_applyStaged_move_ready hnodup (hrelease ▸ hmove) rfl
    exact ⟨fun h => hready.1 (hlist.2 (h.resolve_left hu)), fun h => hready.2 (fun hex => h (.inr (hlist.1 hex)))⟩

end

/-! ### The command -/

theorem exec_passDisarm_of_none (hs : s.phase = .serving) (hr : s.pass.record = none) :
    exec (.passDisarm l) s = .next ((s.deselect l).refuse l .state) := by
  show execPassDisarm l s = _
  rw [execPassDisarm, State.taken_serving s l hs, State.deselect_pass, hr]

theorem exec_passDisarm_refused (hs : s.phase = .serving) (hr : s.pass.record = some r)
    (hst : s.pass.state ≠ .armed ∧ s.pass.state ≠ .atStart ∧ s.pass.state ≠ .ended) :
    exec (.passDisarm l) s = .next ((s.deselect l).refuse l .state) := by
  show execPassDisarm l s = _
  rw [execPassDisarm, State.taken_serving s l hs, State.deselect_pass, hr]
  exact congrArg Host.Outcome.next (if_pos hst)

theorem exec_passDisarm (hs : s.phase = .serving) (hr : s.pass.record = some r)
    (hst : s.pass.state = .armed ∨ s.pass.state = .atStart ∨ s.pass.state = .ended)
    (hm : ((s.deselect l).disarm r).move r.slot = some m) :
    exec (.passDisarm l) s = .next (((s.deselect l).disarm r).ok l (.disarmed m.state)) := by
  show execPassDisarm l s = _
  rw [execPassDisarm, State.taken_serving s l hs, State.deselect_pass, hr]
  simp only [hm]
  refine congrArg Host.Outcome.next (if_neg ?_)
  rcases hst with h | h | h <;> simp [h]

/-- Settles O39: the disarming, part by part, with the released move by whether it loses its certification. -/
theorem passDisarmReleasesMoveAndAxes : Obligations.PassDisarmReleasesMoveAndAxes := by
  unfold Obligations.PassDisarmReleasesMoveAndAxes
  intro s l hs
  refine ⟨fun hr => exec_passDisarm_of_none hs hr, fun r hr =>
    ⟨fun h1 h2 h3 => exec_passDisarm_refused hs hr ⟨h1, h2, h3⟩, fun hst m hm hb => ?_⟩⟩
  have hrd : (s.deselect l).pass.record = some r := by rw [State.deselect_pass, hr]
  have hmove := State.disarm_move hrd (m := m) (by rw [State.deselect_move, hm]) hb
  have hdrops : (s.deselect l).Drops r m ↔ s.Drops r m := by
    simp only [State.Drops, State.Relimits, State.deselect_axis]
  rw [hdrops] at hmove
  obtain ⟨k, hk⟩ : ∃ k, ((s.deselect l).disarm r).move r.slot = some k := by
    by_cases h : s.Drops r m
    · exact ⟨_, hmove.1 h⟩
    · exact ⟨_, hmove.2 h⟩
  refine ⟨_, exec_passDisarm hs hr hst hk, ?_, ?_, fun pa hpa => ?_, ⟨?_, fun hstaged => ?_⟩, fun b hb' => ?_,
    ⟨fun h => ?_, fun h => ?_⟩, ?_⟩
  · rw [State.ok_clock, State.disarm_clock hrd, State.deselect_clock]
  · rw [State.ok_pass, State.disarm_pass hrd, State.deselect_pass, Pass.disarmed]
  · have hmem : pa.axis ∈ r.axisIds := List.mem_map_of_mem hpa
    rw [State.ok_axis, State.disarm_axis hrd, if_pos hmem, State.deselect_axis]
    rfl
  · have hframe := State.disarm_frame hrd
    rw [State.mk.injEq] at hframe ⊢
    simp_all
  · obtain ⟨hmoves, hcheck, hlinks⟩ := State.disarm_noneStaged hrd (fun a ha => by
      obtain ⟨pa, hpa, rfl⟩ := List.mem_map.1 ha
      rw [State.deselect_axis]
      exact hstaged pa hpa)
    refine ⟨fun n hn => ?_, ?_, ?_, ?_⟩
    · rw [State.ok_move, hmoves n hn, State.deselect_move]
    · rw [State.ok_check, hcheck, State.deselect_check]
    · rw [State.ok, State.accept, State.answer_link_other, hlinks, State.deselect_link_other]
    · rw [State.ok, State.accept, State.answer_link, hlinks]
  · rw [State.ok_axis, State.disarm_axis hrd, if_neg, State.deselect_axis]
    intro hmem
    obtain ⟨pa, hpa, rfl⟩ := List.mem_map.1 hmem
    exact hb' pa hpa rfl
  · rw [State.ok_move]
    exact hmove.1 h
  · rw [State.ok_move]
    exact hmove.2 h
  · rw [State.ok_move, hk, State.ok, State.accept, State.answer_link]
    rfl

end Sys2Proof.Machine
end

section
/-! SUPPORT. The pass record that PASS_ARM carries (R128, R129 test 2): each field of the command by the value it stands
for, and the axis set in increasing order (entry 17). -/

namespace Sys2Proof.Machine

variable {p : PassArgs} {r : PassRecord}

/-! ### The fields (R192) -/

theorem directionOf_eq_some {n : Nat} {d : Direction} :
    directionOf n = some d ↔ n ≤ 1 ∧ d = if n = 0 then .forward else .reverse := by
  match n with
  | 0 => simp [directionOf, eq_comm]
  | 1 => simp [directionOf, eq_comm]
  | n + 2 => simp [directionOf]

theorem syncModeOf_eq_some {n : Nat} {m : SyncMode} :
    syncModeOf n = some m ↔ n ≤ 2 ∧ m = if n = 0 then .master else if n = 1 then .follower else .step := by
  match n with
  | 0 => simp [syncModeOf, eq_comm]
  | 1 => simp [syncModeOf, eq_comm]
  | 2 => simp [syncModeOf, eq_comm]
  | n + 3 => simp [syncModeOf]

theorem rollSourceOf_eq_some {n : Nat} {x : RollSource} :
    rollSourceOf n = some x ↔ n ≤ 1 ∧ x = if n = 0 then .command else .trigger := by
  match n with
  | 0 => simp [rollSourceOf, eq_comm]
  | 1 => simp [rollSourceOf, eq_comm]
  | n + 2 => simp [rollSourceOf]

theorem flagOf_eq_some {n : Nat} {b : Bool} : flagOf n = some b ↔ n ≤ 1 ∧ b = decide (n = 1) := by
  match n with
  | 0 => simp [flagOf, eq_comm]
  | 1 => simp [flagOf, eq_comm]
  | n + 2 => simp [flagOf]

/-- The pass rate behind its presence byte lies in its range, or is absent. -/
def passRateOk (presence rate : Nat) : Prop := presence = 0 ∨ (presence = 1 ∧ 1000 ≤ rate ∧ rate ≤ 300000)

theorem passRateOf_eq_some {presence rate : Nat} {x : Option Nat} : passRateOf presence rate = some x ↔
    passRateOk presence rate ∧ x = if presence = 1 then some rate else none := by
  match presence with
  | 0 => simp [passRateOf, passRateOk, eq_comm]
  | 1 => by_cases h : 1000 ≤ rate ∧ rate ≤ 300000 <;> simp [passRateOf, passRateOk, h, eq_comm]
  | n + 2 => simp [passRateOf, passRateOk]

/-! ### The step fields -/

/-- The step fields lie in their ranges. -/
def passStepOk (p : PassArgs) : Prop :=
  200 ≤ p.stepTime ∧ p.stepTime ≤ 20000 ∧ p.stepSettle ≤ 4000 ∧ p.exposureControl ≤ 1 ∧ 1 ≤ p.exposureTime ∧
    p.exposureTime ≤ 60000 ∧ p.stepInput ≤ 1

/-- The step fields as a record of a STEP pass keeps them. -/
def passStepFields (p : PassArgs) : StepFields :=
  { stepTime := p.stepTime, settle := p.stepSettle
    exposure := if p.exposureControl = 0 then .timed p.exposureTime else .handshake p.exposureTime
    inputEnable := decide (p.stepInput = 1) }

theorem stepFieldsOf_eq_some {f : StepFields} : stepFieldsOf p = some f ↔ passStepOk p ∧ f = passStepFields p := by
  unfold stepFieldsOf passStepOk passStepFields
  split
  · next h =>
    split
    · next e hc he =>
      obtain ⟨hi, rfl⟩ := flagOf_eq_some.1 he
      simp [hc, hi, h, eq_comm]
    · next e hc he =>
      obtain ⟨hi, rfl⟩ := flagOf_eq_some.1 he
      simp [hc, hi, h, eq_comm]
    · next h0 h1 =>
      refine iff_of_false (by simp) ?_
      rintro ⟨⟨-, -, -, hc, -, -, hi⟩, -⟩
      have he := flagOf_eq_some.2 ⟨hi, rfl⟩
      rcases Nat.le_one_iff_eq_zero_or_eq_one.1 hc with hc | hc
      · exact h0 _ hc he
      · exact h1 _ hc he
  · next h =>
    refine iff_of_false (by simp) ?_
    rintro ⟨⟨h1, h2, h3, -, h4, h5, -⟩, -⟩
    exact h ⟨h1, h2, h3, h4, h5⟩

theorem stepPartOf_eq_some {mode : SyncMode} {x : Option StepFields} : stepPartOf mode p = some x ↔
    (mode = .step → passStepOk p) ∧ x = if mode = .step then some (passStepFields p) else none := by
  cases mode with
  | master => simp [stepPartOf, eq_comm]
  | follower => simp [stepPartOf, eq_comm]
  | step =>
    simp only [stepPartOf, Option.map_eq_some_iff, stepFieldsOf_eq_some, forall_const, if_pos]
    exact ⟨fun ⟨f, ⟨hok, hf⟩, hx⟩ => ⟨hok, hx ▸ hf ▸ rfl⟩, fun ⟨hok, hx⟩ => ⟨_, ⟨hok, rfl⟩, hx.symm⟩⟩

/-! ### The axis set -/

/-- The pairs of axis and offset form an axis set. -/
def passAxesOk (ps : List (Nat × Int)) : Prop :=
  ps ≠ [] ∧ ps.length ≤ 16 ∧ (∀ q ∈ ps, q.1 ≤ 15 ∧ -1073741824 ≤ q.2 ∧ q.2 ≤ 1073741824) ∧ (ps.map (·.1)).Nodup

/-- The pair that names an axis, as a pass axis. -/
def passAxisIn (ps : List (Nat × Int)) (a : AxisId) : Option PassAxis :=
  (ps.find? (fun q => decide (q.1 = a.val))).map (fun q => { axis := a, offset := q.2 })

theorem passAxesOf_refuses_iff {ps : List (Nat × Int)} :
    (ps.isEmpty || decide (16 < ps.length) || ps.any (fun q => decide (15 < q.1)) ||
      !decide ((ps.map (·.1)).Nodup) ||
      ps.any (fun q => decide (q.2 < -1073741824 ∨ 1073741824 < q.2))) = true ↔ ¬ passAxesOk ps := by
  rw [← Bool.not_eq_false, not_iff_not]
  simp only [passAxesOk, Bool.or_eq_false_iff, List.isEmpty_eq_false_iff, decide_eq_false_iff_not, List.any_eq_false,
    Bool.not_eq_false', decide_eq_true_eq, not_lt, not_or, forall_and]
  tauto

theorem passAxesOf_eq_some {ps : List (Nat × Int)} {as : List PassAxis} :
    passAxesOf ps = some as ↔ passAxesOk ps ∧ as = allAxes.filterMap (passAxisIn ps) := by
  unfold passAxesOf
  split
  · next h => exact iff_of_false (by simp) (fun hok => passAxesOf_refuses_iff.1 h hok.1)
  · next h =>
    rw [passAxesOf_refuses_iff, not_not] at h
    rw [and_iff_right h, Option.some.injEq, eq_comm]
    rfl

/-- With no axis named twice, the pair that names an axis is the one in the list. -/
theorem passAxisIn_eq_some {ps : List (Nat × Int)} (hn : (ps.map (·.1)).Nodup) {a : AxisId} {q : PassAxis} :
    passAxisIn ps a = some q ↔ q.axis = a ∧ (a.val, q.offset) ∈ ps := by
  unfold passAxisIn
  rw [Option.map_eq_some_iff]
  constructor
  · rintro ⟨⟨n, v⟩, hfind, rfl⟩
    have hval : n = a.val := by simpa using List.find?_some hfind
    exact ⟨rfl, hval ▸ List.mem_of_find?_eq_some hfind⟩
  · rintro ⟨rfl, hmem⟩
    cases hfind : ps.find? (fun p => decide (p.1 = q.axis.val)) with
    | none => exact absurd (decide_eq_true rfl) (List.find?_eq_none.1 hfind _ hmem)
    | some p =>
      have hval : p.1 = q.axis.val := by simpa using List.find?_some hfind
      have hp : p = (q.axis.val, q.offset) :=
        List.inj_on_of_nodup_map hn (List.mem_of_find?_eq_some hfind) hmem hval
      exact ⟨p, rfl, by rw [hp]⟩

theorem mem_passAxes_iff {ps : List (Nat × Int)} (hn : (ps.map (·.1)).Nodup) (q : PassAxis) :
    q ∈ allAxes.filterMap (passAxisIn ps) ↔ (q.axis.val, q.offset) ∈ ps := by
  simp only [List.mem_filterMap, passAxisIn_eq_some hn]
  constructor
  · rintro ⟨a, -, rfl, h⟩
    exact h
  · exact fun h => ⟨q.axis, allAxes_mem _, rfl, h⟩

theorem passAxes_increasing (ps : List (Nat × Int)) :
    List.Pairwise (fun a b => a < b) ((allAxes.filterMap (passAxisIn ps)).map (·.axis)) := by
  have haxis : ∀ a q, passAxisIn ps a = some q → q.axis = a := fun a q h => by
    obtain ⟨q', -, rfl⟩ := Option.map_eq_some_iff.1 h
    rfl
  rw [List.pairwise_map, List.pairwise_filterMap]
  refine List.Pairwise.imp (fun {a b} hlt q hq q' hq' => ?_) (by decide : allAxes.Pairwise (· < ·))
  rw [haxis a q hq, haxis b q' hq']
  exact hlt

/-! ### The record -/

/-- Every field lies in its range (R128). -/
def passFieldsOk (p : PassArgs) : Prop :=
  1 ≤ p.slot ∧ p.slot ≤ 64 ∧ p.first < p.last ∧ p.last ≤ 65535 ∧ p.direction ≤ 1 ∧ p.mode ≤ 2 ∧
    passRateOk p.ratePresence p.rate ∧ passAxesOk p.axes ∧ p.lead ≤ 255 ∧ p.trail ≤ 255 ∧ 20 ≤ p.holdRamp ∧
    p.holdRamp ≤ 20000 ∧ 20 ≤ p.stopRamp ∧ p.stopRamp ≤ 20000 ∧ p.rollSource ≤ 1 ∧ (p.mode = 2 → passStepOk p)

/-- The record of fields that lie in their ranges. -/
def passRecordFrom (p : PassArgs) : PassRecord :=
  { slot := p.slot, first := p.first, last := p.last
    direction := if p.direction = 0 then .forward else .reverse
    mode := if p.mode = 0 then .master else if p.mode = 1 then .follower else .step
    rate := if p.ratePresence = 1 then some p.rate else none
    axes := allAxes.filterMap (passAxisIn p.axes), lead := p.lead, trail := p.trail, holdRamp := p.holdRamp
    stopRamp := p.stopRamp, rollSource := if p.rollSource = 0 then .command else .trigger
    step := if p.mode = 2 then some (passStepFields p) else none }

theorem passRecordOf_eq_some : passRecordOf p = some r ↔ passFieldsOk p ∧ r = passRecordFrom p := by
  simp only [passRecordOf, Option.bind_eq_bind, Option.bind_eq_some_iff, directionOf_eq_some, syncModeOf_eq_some,
    passRateOf_eq_some, passAxesOf_eq_some, rollSourceOf_eq_some, stepPartOf_eq_some, Option.ite_none_right_eq_some,
    Bool.and_eq_true, decide_eq_true_eq, slotOk_iff]
  have hstep : ∀ {m : SyncMode}, p.mode ≤ 2 →
      (m = if p.mode = 0 then .master else if p.mode = 1 then .follower else .step) → (m = .step ↔ p.mode = 2) := by
    rintro _ hle rfl
    split_ifs <;> simp <;> omega
  constructor
  · rintro ⟨_, ⟨hdir, rfl⟩, m, ⟨hmode, hm⟩, _, ⟨hrate, rfl⟩, _, ⟨haxes, rfl⟩, _, ⟨hsource, rfl⟩, _, ⟨hfields, rfl⟩,
      ⟨⟨⟨⟨⟨⟨⟨hslot, hslot'⟩, hlt⟩, hlast⟩, hlead⟩, htrail⟩, hhold, hhold'⟩, hstop, hstop'⟩, hr⟩
    simp only [hstep hmode hm] at hfields hr
    refine ⟨⟨hslot, hslot', hlt, hlast, hdir, hmode, hrate, haxes, hlead, htrail, hhold, hhold', hstop, hstop', hsource,
      hfields⟩, ?_⟩
    rw [← Option.some.inj hr, hm, passRecordFrom]
  · rintro ⟨⟨hslot, hslot', hlt, hlast, hdir, hmode, hrate, haxes, hlead, htrail, hhold, hhold', hstop, hstop', hsource,
      hfields⟩, rfl⟩
    have hm := hstep hmode rfl
    refine ⟨_, ⟨hdir, rfl⟩, _, ⟨hmode, rfl⟩, _, ⟨hrate, rfl⟩, _, ⟨haxes, rfl⟩, _, ⟨hsource, rfl⟩, _,
      ⟨fun h => hfields (hm.1 h), rfl⟩,
      ⟨⟨⟨⟨⟨⟨⟨hslot, hslot'⟩, hlt⟩, hlast⟩, hlead⟩, htrail⟩, hhold, hhold'⟩, hstop, hstop'⟩, ?_⟩
    simp only [hm, passRecordFrom]

end Sys2Proof.Machine
end

section
/-! SUPPORT. PASS_ARM (R129, R130): the twelve tests as a chain, each with what it says, and the arming. -/

namespace Sys2Proof.Machine

variable {s : State} {l : LinkId} {p : PassArgs} {r : PassRecord} {m : Move} {sum : Summary}

/-! ### Tests 5 to 12 of R129 on a READY move -/

/-- Tests 5 to 7: the pass leaves the move's span, an axis has no present track, or a MASTER pass has no rate. -/
def PassRecord.lacks (r : PassRecord) (m : Move) : Bool :=
  decide (r.first < m.first ∨ m.last < r.last) || r.axes.any (fun pa => !m.hasTrack pa.axis) ||
    decide (r.mode = .master ∧ m.speedTrack.isEmpty = true ∧ r.rate = none)

/-- Tests 11 and 12: a MASTER rate above the ceiling, or a step time too short for it. -/
def PassRecord.tooFast (r : PassRecord) (m : Move) (sum : Summary) : Bool :=
  decide (r.mode = .master ∧ sum.ceiling < r.masterRate m) ||
    (decide (r.mode = .step) && r.step.any (fun f => decide (f.stepTime < ceilDiv 3000000 sum.ceiling)))

theorem State.armRefusal_eq : s.armRefusal m sum r =
    if r.lacks m = true then some .range
    else if r.axes.any (fun pa => decide ((s.axis pa.axis).owner ≠ .none)) = true then some .owned
    else if r.axes.any (fun pa =>
      decide ((s.axis pa.axis).drive ≠ .on ∨ (s.axis pa.axis).datum ≠ .known)) = true then some .notHomed
    else if r.axes.any (fun pa => !s.passAxisFits m sum r pa) = true then some .limits
    else if r.tooFast m sum = true then some .ceiling
    else none := by
  have hlacks : ∀ x : Option Reason, (if r.lacks m = true then some .range else x) =
      if r.first < m.first ∨ m.last < r.last then some .range
      else if r.axes.any (fun pa => !m.hasTrack pa.axis) = true then some .range
      else if r.mode = .master ∧ m.speedTrack.isEmpty = true ∧ r.rate = none then some .range else x := by
    intro x
    simp only [PassRecord.lacks, Bool.or_eq_true, decide_eq_true_eq, ite_or]
  have hfast : (if r.tooFast m sum = true then some Reason.ceiling else none) =
      if r.mode = .master ∧ sum.ceiling < r.masterRate m then some .ceiling
      else match r.mode, r.step with
        | .step, some f => if f.stepTime < ceilDiv 3000000 sum.ceiling then some .ceiling else none
        | _, _ => none := by
    simp only [PassRecord.tooFast, Bool.or_eq_true, decide_eq_true_eq, ite_or]
    cases r.mode <;> cases r.step <;> simp
  rw [hlacks, hfast]
  rfl

/-- The tests read the axes and nothing else of the part. -/
theorem State.armRefusal_congr {t : State} (h : t.axes = s.axes) : t.armRefusal m sum r = s.armRefusal m sum r := by
  have haxis : t.axis = s.axis := funext fun a => by rw [State.axis, h, State.axis]
  unfold State.armRefusal State.passAxisFits
  rw [haxis]

theorem Move.hasTrack_eq_false_iff (m : Move) (a : AxisId) : m.hasTrack a = false ↔ m.axisTrack a = [] := by
  simp [Move.hasTrack]

theorem PassRecord.lacks_iff : r.lacks m = true ↔ r.first < m.first ∨ m.last < r.last ∨
    (∃ pa ∈ r.axes, m.axisTrack pa.axis = []) ∨ (r.mode = .master ∧ m.speedTrack = [] ∧ r.rate = none) := by
  simp [PassRecord.lacks, Move.hasTrack_eq_false_iff, or_assoc]

/-- A value lies outside the soft limits of an axis. -/
def Axis.Outside (x : Axis) (v : Int) : Prop := v < x.conf.softLow ∨ x.conf.softHigh < v

theorem State.passAxisFits_eq_false_iff {pa : PassAxis} : s.passAxisFits m sum r pa = false ↔
    (∃ e, sum.extents.find? (fun e => decide (e.axis = pa.axis)) = some e ∧
      (e.low + pa.offset < (s.axis pa.axis).conf.softLow ∨ (s.axis pa.axis).conf.softHigh < e.high + pa.offset)) ∨
    (s.axis pa.axis).Outside (trackValue (m.axisTrack pa.axis) (r.startFrame * 65536) pa.offset) ∨
    (s.axis pa.axis).Outside (s.axis pa.axis).setpoint := by
  have hadmits : ∀ v, (s.axis pa.axis).conf.admits v = false ↔ (s.axis pa.axis).Outside v := fun v => by
    rw [← Bool.not_eq_true', AxisRecord.admits_eq_false_iff]; rfl
  unfold State.passAxisFits
  dsimp only
  rw [Bool.and_eq_false_iff, Bool.and_eq_false_iff, hadmits, hadmits, or_assoc]
  refine or_congr ?_ Iff.rfl
  cases sum.extents.find? (fun e => decide (e.axis = pa.axis)) with
  | none => simp
  | some e =>
    simp only [decide_eq_false_iff_not, Option.some.injEq, exists_eq_left']
    omega

theorem lt_highestRate_iff {ks : List SpeedKey} {n : Nat} : n < highestRate ks ↔ ∃ k ∈ ks, n < k.rate := by
  have hfold : ∀ (ks : List SpeedKey) (x : Nat), n < ks.foldl (fun m k => max m k.rate) x ↔
      n < x ∨ ∃ k ∈ ks, n < k.rate := by
    intro ks
    induction ks with
    | nil => simp
    | cons k ks ih =>
      intro x
      rw [List.foldl_cons, ih, lt_max_iff, or_assoc, List.exists_mem_cons_iff]
  rw [highestRate, hfold]
  simp

theorem PassRecord.tooFast_iff (hpos : 0 < sum.ceiling) : r.tooFast m sum = true ↔
    (r.mode = .master ∧ ((m.speedTrack = [] ∧ ∃ n, r.rate = some n ∧ sum.ceiling < n) ∨
      ∃ k ∈ m.speedTrack, sum.ceiling < k.rate)) ∨
    (r.mode = .step ∧ ∃ f, r.step = some f ∧ f.stepTime * sum.ceiling < 3000000) := by
  have hrate : sum.ceiling < r.masterRate m ↔ (m.speedTrack = [] ∧ ∃ n, r.rate = some n ∧ sum.ceiling < n) ∨
      ∃ k ∈ m.speedTrack, sum.ceiling < k.rate := by
    unfold PassRecord.masterRate
    cases m.speedTrack with
    | nil => cases r.rate <;> simp
    | cons k ks => simp [lt_highestRate_iff]
  have htime : ∀ f : StepFields, f.stepTime < ceilDiv 3000000 sum.ceiling ↔ f.stepTime * sum.ceiling < 3000000 :=
    fun f => by rw [← not_le, ceilDiv_le_iff hpos, not_le]
  simp only [PassRecord.tooFast, Bool.or_eq_true, Bool.and_eq_true, decide_eq_true_eq, hrate, Option.any_eq_true, htime]

/-! ### The command -/

section
variable (hs : s.phase = .serving)
include hs

theorem exec_passArm_state (h : s.pass.state ≠ .idle) :
    exec (.passArm l p) s = .next ((s.deselect l).refuse l .state) := by
  show execPassArm l p s = _
  rw [execPassArm, State.taken_serving s l hs, State.deselect_pass, if_pos h]

variable (hidle : s.pass.state = .idle)
include hidle

theorem exec_passArm_range (h : passRecordOf p = none) :
    exec (.passArm l p) s = .next ((s.deselect l).refuse l .range) := by
  show execPassArm l p s = _
  rw [execPassArm, State.taken_serving s l hs, State.deselect_pass, if_neg (not_not.2 hidle), h]

variable (hp : passRecordOf p = some r)
include hp

theorem exec_passArm_busy (h : s.isTarget r.slot = true) :
    exec (.passArm l p) s = .next ((s.deselect l).refuse l .busyOther) := by
  show execPassArm l p s = _
  rw [execPassArm, State.taken_serving s l hs, State.deselect_pass, if_neg (not_not.2 hidle), hp]
  simp only [State.deselect_isTarget, if_pos h]

variable (htarget : s.isTarget r.slot = false)
include htarget

theorem exec_passArm_notReady (h : ∀ m, s.move r.slot = some m → m.state ≠ .ready) :
    exec (.passArm l p) s = .next ((s.deselect l).refuse l .notReady) := by
  show execPassArm l p s = _
  rw [execPassArm, State.taken_serving s l hs, State.deselect_pass, if_neg (not_not.2 hidle), hp]
  simp only [State.deselect_isTarget, htarget, Bool.false_eq_true, if_false, State.deselect_move]
  cases hm : s.move r.slot with
  | none => rfl
  | some m =>
    dsimp only
    split
    · next hready _ => exact absurd hready (h m hm)
    · rfl

theorem exec_passArm_ready (hm : s.move r.slot = some m) (hready : m.state = .ready) (hsum : m.summary = some sum) :
    exec (.passArm l p) s = .next ((s.armRefusal m sum r).elim
      (((s.deselect l).arm r).ok l (.armed r.slot sum.ceiling)) (fun why => (s.deselect l).refuse l why)) := by
  show execPassArm l p s = _
  rw [execPassArm, State.taken_serving s l hs, State.deselect_pass, if_neg (not_not.2 hidle), hp]
  simp only [State.deselect_isTarget, htarget, Bool.false_eq_true, if_false, State.deselect_move, hm, hready, hsum]
  rw [State.armRefusal_congr (s.deselect_axes l)]
  cases s.armRefusal m sum r <;> rfl

end

/-- The arming, with the move it binds written out. -/
theorem State.arm_eq (hm : s.move r.slot = some m) : s.arm r =
    { forAxes (r.axes.map (·.axis)) (fun a t => t.onAxis a (fun x => { x with owner := .pass }))
        (s.setMove r.slot (some { m with state := .bound })) with
      pass := { s.pass with state := .armed, record := some r } } := by
  have hmove : s.onMove r.slot (fun m => { m with state := .bound }) =
      s.setMove r.slot (some { m with state := .bound }) := by
    rw [State.onMove, hm, Option.map_some]
  have hpass : (forAxes (r.axes.map (·.axis)) (fun a t => t.onAxis a (fun x => { x with owner := .pass }))
      (s.setMove r.slot (some { m with state := .bound }))).pass = s.pass :=
    (congrArg State.pass (forAxes_onAxis_frame _ _ _) :).trans (s.setMove_pass _ _)
  rw [State.arm, hmove, PassRecord.axisIds, State.withPass]
  dsimp only
  rw [hpass]

/-- Settles O34: the ranges of the fields, the tests in their order, the arming, and the record that is written. -/
theorem passArmBindsOrChangesNothing : Obligations.PassArmBindsOrChangesNothing := by
  unfold Obligations.PassArmBindsOrChangesNothing
  refine ⟨fun p => ?_, fun s l p hs => ⟨fun h => exec_passArm_state hs h, fun hidle =>
    ⟨fun h => exec_passArm_range hs hidle h, fun r hp => ⟨fun h => exec_passArm_busy hs hidle hp h, fun ht =>
      ⟨fun h => exec_passArm_notReady hs hidle hp ht h, fun m sum hm hready hsum hpos => ?_⟩⟩⟩⟩, fun p r hp => ?_⟩
  · rw [Option.isSome_iff_exists]
    simp only [passRecordOf_eq_some, exists_and_left, exists_eq, and_true]
    simp only [passFieldsOk, passRateOk, passAxesOk, passStepOk, and_assoc]
  · intro t5 t8 t9 out t10 t11 t12
    rw [exec_passArm_ready hs hidle hp ht hm hready hsum, State.armRefusal_eq]
    have h5 : r.lacks m = true ↔ t5 := PassRecord.lacks_iff
    have h8 : r.axes.any (fun pa => decide ((s.axis pa.axis).owner ≠ .none)) = true ↔ t8 := by
      simp only [List.any_eq_true, decide_eq_true_eq]; rfl
    have h9 : r.axes.any (fun pa =>
        decide ((s.axis pa.axis).drive ≠ .on ∨ (s.axis pa.axis).datum ≠ .known)) = true ↔ t9 := by
      simp only [List.any_eq_true, decide_eq_true_eq]; rfl
    have h10 : r.axes.any (fun pa => !s.passAxisFits m sum r pa) = true ↔ t10 := by
      simp only [List.any_eq_true, Bool.not_eq_true', State.passAxisFits_eq_false_iff]; rfl
    have h11 : r.tooFast m sum = true ↔ t11 ∨ t12 := PassRecord.tooFast_iff hpos
    simp only [h5, h8, h9, h10, h11]
    refine ⟨fun a5 => ?_, fun a5 a8 => ?_, fun a5 a8 a9 => ?_, fun a5 a8 a9 a10 => ?_, fun a5 a8 a9 a10 a11 => ?_,
      fun a5 a8 a9 a10 a11 a12 => ?_⟩
    · rw [if_pos a5]; rfl
    · rw [if_neg a5, if_pos a8]; rfl
    · rw [if_neg a5, if_neg a8, if_pos a9]; rfl
    · rw [if_neg a5, if_neg a8, if_neg a9, if_pos a10]; rfl
    · rw [if_neg a5, if_neg a8, if_neg a9, if_neg a10, if_pos a11]; rfl
    · rw [if_neg a5, if_neg a8, if_neg a9, if_neg a10, if_neg (not_or.2 ⟨a11, a12⟩), Option.elim_none,
        State.arm_eq (by rw [State.deselect_move, hm]), State.deselect_pass]
  · obtain ⟨⟨-, -, -, -, -, -, -, ⟨-, -, -, hnodup⟩, -⟩, rfl⟩ := passRecordOf_eq_some.1 hp
    exact ⟨rfl, mem_passAxes_iff hnodup, passAxes_increasing p.axes⟩

end Sys2Proof.Machine
end

section
/-! SUPPORT. What the outputs of a run show (R113, R127, R144, R149, R150): the part at rest, in a run of a MASTER or
FOLLOWER pass, or in a STEP run; and the operations that leave what they show as it is. -/

namespace Sys2Proof.Machine

variable {s t u : State} {l : LinkId} {a : AxisId}

/-- What O55 ties together: the pass state, the clock state, the camera run output, the exposure trigger, the report's
outcome and the camera sync output. -/
def State.signals (s : State) : PassState × ClockState × Bool × Bool × RunOutcome × Bool :=
  (s.pass.state, s.clock.state, s.pass.cameraRun, s.pass.stepping.trigger, s.pass.report.outcome, s.clock.cameraSync)

/-- No run is in progress. -/
structure State.AtRest (s : State) : Prop where
  state : s.pass.runs = false
  clock : s.clock.state = .stopped
  cameraRun : s.pass.cameraRun = false
  trigger : s.pass.stepping.trigger = false
  outcome : s.pass.report.outcome ≠ .running
  sync : s.clock.cameraSync = false

/-- A run of a MASTER or FOLLOWER pass is in progress. -/
structure State.InRun (s : State) : Prop where
  state : s.pass.state.inRun = true
  clock : s.clock.state = .clocking ∨ s.clock.state = .following
  cameraRun : s.pass.cameraRun = true
  trigger : s.pass.stepping.trigger = false
  outcome : s.pass.report.outcome = .running

/-- Clock, camera run output and report are those of a STEP run, whatever the pass state. -/
structure State.StepRun (s : State) : Prop where
  clock : s.clock.state = .stepping
  cameraRun : s.pass.cameraRun = true
  outcome : s.pass.report.outcome = .running
  sync : s.clock.cameraSync = false

/-- A STEP run is in progress. -/
structure State.InStep (s : State) : Prop extends s.StepRun where
  state : s.pass.state.inStep = true
  trigger : s.pass.stepping.trigger = true ↔ s.pass.state = .exposing

/-- The part is at rest, in a run or in a STEP run. -/
def State.InMode (s : State) : Prop := s.AtRest ∨ s.InRun ∨ s.InStep

theorem PassState.not_inStep_of_inRun {p : PassState} (h : p.inRun = true) : p.inStep = false := by
  cases p <;> simp_all [PassState.inRun, PassState.inStep]

theorem PassState.not_exposing_of_not_inStep {p : PassState} (h : p.inStep = false) : p ≠ .exposing := by
  rintro rfl
  cases h

theorem State.outputsAgree_iff : s.outputsAgree = true ↔ s.InMode := by
  simp only [State.outputsAgree, decide_eq_true_eq]
  constructor
  · rintro ⟨hrun, hstep, hcam, htrig, hout, hsync⟩
    cases hr : s.pass.state.inRun with
    | true =>
      have hns := PassState.not_inStep_of_inRun hr
      have hne := PassState.not_exposing_of_not_inStep hns
      have hruns : s.pass.runs = true := by simp [Pass.runs, hr]
      exact .inr (.inl ⟨hr, hrun.1 hr, hcam.2 hruns, by simpa [hne] using htrig, hout.2 hruns⟩)
    | false =>
      cases hs : s.pass.state.inStep with
      | true =>
        have hruns : s.pass.runs = true := by simp [Pass.runs, hs]
        have hclock := hstep.1 hs
        exact .inr (.inr ⟨⟨hclock, hcam.2 hruns, hout.2 hruns, hsync (.inr hclock)⟩, hs, htrig⟩)
      | false =>
        have hne := PassState.not_exposing_of_not_inStep hs
        have hruns : s.pass.runs = false := by simp [Pass.runs, hr, hs]
        have hclock : s.clock.state = .stopped := by
          cases hc : s.clock.state <;> simp_all
        exact .inl ⟨hruns, hclock, by simpa [hruns] using hcam, by simpa [hne] using htrig, by simpa [hruns] using hout,
          hsync (.inl hclock)⟩
  · rintro (h | h | h)
    · have hruns := h.state
      simp only [Pass.runs, Bool.or_eq_false_iff] at hruns
      have hne := PassState.not_exposing_of_not_inStep hruns.2
      simp [Pass.runs, hruns, h.clock, h.cameraRun, h.trigger, h.outcome, h.sync, hne]
    · have hns := PassState.not_inStep_of_inRun h.state
      have hne := PassState.not_exposing_of_not_inStep hns
      rcases h.clock with hc | hc <;> simp [Pass.runs, h.state, hns, hc, h.cameraRun, h.trigger, h.outcome, hne]
    · have hnr : s.pass.state.inRun = false := by
        cases hr : s.pass.state.inRun with
        | true => exact absurd h.state (by simp [PassState.not_inStep_of_inRun hr])
        | false => rfl
      simp [Pass.runs, h.state, hnr, h.clock, h.cameraRun, h.trigger, h.outcome, h.sync]

/-! ### Which of the three it is -/

theorem State.InMode.inRun (h : s.InMode) (hs : s.pass.state.inRun = true) : s.InRun := by
  rcases h with h | h | h
  · have := h.state
    simp [Pass.runs, hs] at this
  · exact h
  · have := PassState.not_inStep_of_inRun hs
    simp [h.state] at this

theorem State.InMode.inStep (h : s.InMode) (hs : s.pass.state.inStep = true) : s.InStep := by
  rcases h with h | h | h
  · have := h.state
    simp [Pass.runs, hs] at this
  · have := PassState.not_inStep_of_inRun h.state
    simp [hs] at this
  · exact h

theorem State.InMode.atRest (h : s.InMode) (hs : s.pass.runs = false) : s.AtRest := by
  rcases h with h | h | h
  · exact h
  · simp [Pass.runs, h.state] at hs
  · simp [Pass.runs, h.state] at hs

/-- Only during a run does the clock follow. -/
theorem State.InMode.inRun_of_following (h : s.InMode) (hc : s.clock.state = .following) : s.InRun := by
  rcases h with h | h | h
  · simp [h.clock] at hc
  · exact h
  · simp [h.clock] at hc

/-! ### The mode goes on -/

/-- The mode is one of the three again. -/
def State.ModeKept (s t : State) : Prop := s.InMode → t.InMode

theorem State.ModeKept.refl (s : State) : s.ModeKept s := id

theorem State.ModeKept.trans (h : s.ModeKept t) (k : t.ModeKept u) : s.ModeKept u := fun hs => k (h hs)

section
variable (h : t.signals = s.signals)
include h

theorem State.AtRest.of_signals (hs : s.AtRest) : t.AtRest := by
  simp only [State.signals, Prod.mk.injEq] at h
  obtain ⟨hst, hcl, hcam, htr, hout, hsy⟩ := h
  exact ⟨by simpa [Pass.runs, hst] using hs.state, hcl ▸ hs.clock, hcam ▸ hs.cameraRun, htr ▸ hs.trigger,
    hout ▸ hs.outcome, hsy ▸ hs.sync⟩

theorem State.InRun.of_signals (hs : s.InRun) : t.InRun := by
  simp only [State.signals, Prod.mk.injEq] at h
  obtain ⟨hst, hcl, hcam, htr, hout, -⟩ := h
  exact ⟨hst ▸ hs.state, hcl ▸ hs.clock, hcam ▸ hs.cameraRun, htr ▸ hs.trigger, hout ▸ hs.outcome⟩

theorem State.InStep.of_signals (hs : s.InStep) : t.InStep := by
  simp only [State.signals, Prod.mk.injEq] at h
  obtain ⟨hst, hcl, hcam, htr, hout, hsy⟩ := h
  exact ⟨⟨hcl ▸ hs.clock, hcam ▸ hs.cameraRun, hout ▸ hs.outcome, hsy ▸ hs.sync⟩, hst ▸ hs.state,
    by simpa [hst, htr] using hs.trigger⟩

theorem State.ModeKept.of_signals : s.ModeKept t :=
  Or.imp (.of_signals h) (Or.imp (.of_signals h) (.of_signals h))

end

theorem State.clock_of_motion (h : t.motion = s.motion) : t.clock = s.clock := congrArg (fun m => m.2.2.1) h

theorem State.signals_of_motion (h : t.motion = s.motion) : t.signals = s.signals := by
  rw [State.signals, State.pass_of_motion h, State.clock_of_motion h, State.signals]

theorem State.ModeKept.of_motion (h : t.motion = s.motion) : s.ModeKept t := .of_signals (State.signals_of_motion h)

/-- An operation made for each axis of a list keeps the mode when it does for each axis. -/
theorem forAxes_modeKept (f : AxisId → State → State) (h : ∀ b (t : State), t.ModeKept (f b t))
    (as : List AxisId) (s : State) : s.ModeKept (forAxes as f s) :=
  forAxes_inv s s.ModeKept f (fun b t ht => ht.trans (h b t)) as (.refl s)

/-! ### Operations that leave the outputs as they are: axes, records, parks, homes -/

section
variable (s) (a)

theorem foldl_signals {α : Type} (f : State → α → State) (hf : ∀ t x, (f t x).signals = t.signals) (xs : List α) :
    (xs.foldl f s).signals = s.signals := by
  induction xs generalizing s with
  | nil => rfl
  | cons x xs ih => exact (ih _).trans (hf s x)

theorem forAxes_signals (f : AxisId → State → State) (hf : ∀ b t, (f b t).signals = t.signals) (as : List AxisId) :
    (forAxes as f s).signals = s.signals := foldl_signals s _ (fun t b => hf b t) as

@[simp] theorem State.raise_signals (e : EventKind) : (s.raise e).signals = s.signals := rfl

@[simp] theorem State.onAxis_signals (f : Axis → Axis) : (s.onAxis a f).signals = s.signals := rfl

@[simp] theorem State.onAxes_signals (f : Axis → Axis) : (s.onAxes f).signals = s.signals := rfl

@[simp] theorem forAxes_onAxis_signals (as : List AxisId) (f : Axis → Axis) :
    (forAxes as (fun b t => t.onAxis b f) s).signals = s.signals :=
  forAxes_signals s _ (fun b t => t.onAxis_signals b f) as

@[simp] theorem State.applyRecord_signals (r : AxisRecord) : (s.applyRecord a r).signals = s.signals :=
  (congrArg State.signals (s.applyRecord_frame a r) :)

@[simp] theorem State.applyStaged_signals : (s.applyStaged a).signals = s.signals :=
  (congrArg State.signals (s.applyStaged_frame a) :)

@[simp] theorem State.applyStagedAll_signals (as : List AxisId) : (s.applyStagedAll as).signals = s.signals :=
  (congrArg State.signals (s.applyStagedAll_frame as) :)

@[simp] theorem State.writeSetpoints_signals (r : PassRecord) (p : Int) :
    (s.writeSetpoints r p).signals = s.signals := (congrArg State.signals (s.writeSetpoints_frame r p) :)

@[simp] theorem State.easeSetpoints_signals (g : GroupEase) (k : Nat) : (s.easeSetpoints g k).signals = s.signals :=
  (congrArg State.signals (s.easeSetpoints_frame g k) :)

@[simp] theorem State.groupCreepTick_signals (g : GroupEase) : (s.groupCreepTick g).signals = s.signals :=
  (congrArg State.signals (s.groupCreepTick_frame g) :)

@[simp] theorem State.handToCreep_signals (g : GroupEase) : (s.handToCreep g).signals = s.signals :=
  (congrArg State.signals (s.handToCreep_frame g) :)

@[simp] theorem State.homeSucceeds_signals : (s.homeSucceeds a).signals = s.signals := State.applyStaged_signals _ a

@[simp] theorem State.homeFails_signals (c : MotionCause) : (s.homeFails a c).signals = s.signals :=
  (congrArg State.signals (s.homeFails_frame a c) :)

@[simp] theorem State.faultHome_signals (c : MotionCause) : (s.faultHome a c).signals = s.signals :=
  (congrArg State.signals (s.faultHome_frame a c) :)

@[simp] theorem State.homeAtRest_signals : (s.homeAtRest a).signals = s.signals := by
  unfold State.homeAtRest
  split
  · rfl
  · split <;> simp

@[simp] theorem State.tickHome_signals : (s.tickHome a).signals = s.signals := by
  unfold State.tickHome
  split
  · dsimp only
    split
    · rfl
    · split <;> simp
  · rfl

@[simp] theorem State.stopReached_signals : (s.stopReached a).signals = s.signals := State.homeSucceeds_signals _ a

@[simp] theorem State.endPark_signals (c : MotionCause) : (s.endPark c).signals = s.signals :=
  (congrArg State.signals (s.endPark_frame c) :)

@[simp] theorem State.faultPark_signals (c : MotionCause) : (s.faultPark c).signals = s.signals :=
  (congrArg State.signals (s.faultPark_frame c) :)

@[simp] theorem State.tickPark_signals : s.tickPark.signals = s.signals := by
  unfold State.tickPark
  split
  · rfl
  · next g _ =>
    split
    · dsimp only
      split <;> simp
    · have hease := s.easeSetpoints_signals g (g.elapsed + 1)
      dsimp only
      split
      · exact (State.endPark_signals _ _).trans hease
      · exact hease

@[simp] theorem State.stopPark_signals : s.stopPark.signals = s.signals := by
  unfold State.stopPark
  split
  · rfl
  · split
    · rfl
    · split
      · simp
      · exact State.handToCreep_signals _ _

@[simp] theorem State.beginPark_signals (es : List EaseAxis) (d : Nat) : (s.beginPark es d).signals = s.signals := by
  unfold State.beginPark
  split
  · exact forAxes_onAxis_signals s _ _
  · exact forAxes_onAxis_signals _ _ _

@[simp] theorem Report.note_outcome (f : Conditions → Conditions) (r : Report) : (r.note f).outcome = r.outcome := by
  unfold Report.note
  split <;> rfl

theorem Report.handOver_outcome (x y : Axis) (r : Report) : (r.handOver a x y).outcome = r.outcome := by
  simp only [Report.handOver, Report.peak, apply_ite Report.outcome, Report.note_outcome, ite_self]

@[simp] theorem State.tickAxis_signals : (s.tickAxis a).signals = s.signals := by
  unfold State.tickAxis
  dsimp only
  split
  · split
    · simp [State.signals, State.withPass, Report.handOver_outcome]
    · rfl
  all_goals rfl

@[simp] theorem State.note_signals (f : Conditions → Conditions) : (s.note f).signals = s.signals := by
  simp [State.signals, State.note, State.withPass, Report.note_outcome]

end

end Sys2Proof.Machine
end

section
/-! SUPPORT. What starts, carries on and ends a run (R110 to R123, R133 to R141, R147 to R160) leaves clock, outputs, report
and pass state in agreement. -/

namespace Sys2Proof.Machine

variable {s t u : State} {l : LinkId} {a : AxisId}

/-! ### The end of a run (R139, R140, R160) -/

/-- Whatever ends a run leaves the part at rest. -/
theorem State.endRun_atRest {o : RunOutcome} (ho : o ≠ .running) (c : Option ReportCause) : (s.endRun o c).AtRest :=
  ⟨rfl, rfl, rfl, rfl, ho, rfl⟩

theorem State.InRun.finish (h : s.InRun) (e : Option RunEnd) : (s.finish e).InMode := by
  cases e with
  | none => exact .inr (.inl h)
  | some e => cases e <;> exact .inl (State.endRun_atRest (by simp) _)

theorem State.InRun.writeAndFinish (h : s.InRun) (r : PassRecord) (e : Option RunEnd) :
    (s.writeAndFinish r e).InMode := by
  cases e with
  | none => exact .inr (.inl h)
  | some e => exact State.InRun.finish (h.of_signals (s.writeSetpoints_signals r _)) _

/-! ### A run goes on: frame starts, ramps, stops (R110 to R115, R123, R136) -/

theorem State.InRun.withClock {c : Clock} (h : s.InRun) (hc : c.state = .clocking ∨ c.state = .following) :
    (s.withClock c).InRun := ⟨h.state, hc, h.cameraRun, h.trigger, h.outcome⟩

theorem State.InRun.withPass {p : Pass} (h : s.InRun) (hp : p.state.inRun = true) (hc : p.cameraRun = s.pass.cameraRun)
    (ht : p.stepping = s.pass.stepping) (ho : p.report.outcome = s.pass.report.outcome) : (s.withPass p).InRun :=
  ⟨hp, h.clock, hc.trans h.cameraRun, (congrArg Stepping.trigger ht).trans h.trigger, ho.trans h.outcome⟩

theorem Pass.frameStart_inRun (r : PassRecord) (n : Int) {p : Pass} (h : p.state.inRun = true) :
    (p.frameStart r n).state.inRun = true := by
  have hentered : ((if p.state = .rolling ∧ n = r.startFrame then .running else p.state : PassState)).inRun = true := by
    split
    · rfl
    · exact h
  unfold Pass.frameStart
  dsimp only
  split
  · dsimp only
    generalize (if p.state = .rolling ∧ n = r.startFrame then .running else p.state : PassState) = e at hentered
    split
    · rfl
    · exact hentered
  · exact hentered

theorem State.InRun.passFrameStart (h : s.InRun) (n : Int) : (s.passFrameStart n).1.InRun := by
  unfold State.passFrameStart
  split
  · exact h
  · next r _ =>
    split
    · refine h.withPass (Pass.frameStart_inRun r n h.state) ?_ ?_ (Pass.frameStart_outcome r n s.pass)
      all_goals unfold Pass.frameStart; dsimp only; split <;> rfl
    · exact h

theorem State.InRun.frameStart (h : s.InRun) (n : Int) : (s.frameStart n).1.InRun := by
  refine State.InRun.passFrameStart (h.withClock ?_) n
  split <;> exact h.clock

theorem State.InRun.phaseMoves (h : s.InRun) (p : Int) : (s.phaseMoves p).1.InRun := by
  have hphase : (s.withClock { s.clock with phase := p }).InRun := h.withClock h.clock
  unfold State.phaseMoves
  dsimp only
  split
  · exact hphase.frameStart _
  · split
    · exact h.withClock h.clock
    · exact hphase

theorem State.InRun.rampEnd (h : s.InRun) : s.rampEnd.1.InRun := by
  unfold State.rampEnd
  split
  · exact h
  · exact h
  · split
    · exact ⟨rfl, h.clock, h.cameraRun, h.trigger, h.outcome⟩
    · exact h
  · split
    · refine ⟨?_, h.clock, h.cameraRun, h.trigger, h.outcome⟩
      dsimp only
      split <;> rfl
    · exact h
  · split
    · exact h.withClock h.clock
    · exact h

theorem State.InRun.tickClocking (h : s.InRun) : s.tickClocking.1.InRun := by
  unfold State.tickClocking
  dsimp only
  generalize hc : ({ s.clock with ramp := _, appliedRate := _, remainder := _ } : Clock) = c
  generalize c.capLimit _ = p
  have hmoved : ((s.withClock c).phaseMoves p).1.InRun :=
    State.InRun.phaseMoves (h.withClock (by rw [← hc]; exact h.clock)) p
  generalize (s.withClock c).phaseMoves p = q at hmoved
  obtain ⟨v, e⟩ := q
  cases e with
  | none => exact hmoved.rampEnd
  | some e => exact hmoved

theorem State.InRun.clockStop (h : s.InRun) (hs : Nat) : (s.clockStop hs).1.InRun := by
  unfold State.clockStop
  split
  · exact h
  · dsimp only
    split <;> exact h.withClock h.clock

theorem State.InRun.followerStop (h : s.InRun) (hs : Nat) : (s.followerStop hs).1.InRun := by
  unfold State.followerStop
  split
  · exact State.InRun.clockStop (h.withClock (.inl rfl)) hs
  · exact h

theorem State.InRun.stopRequest (h : s.InRun) (hs : Nat) : (s.stopRequest hs).1.InRun := by
  unfold State.stopRequest
  split
  · exact h.clockStop hs
  · exact h.followerStop hs
  · exact h
  · exact h

theorem State.InRun.abortRun (h : s.InRun) (r : PassRecord) : (s.abortRun r).InMode :=
  have hstop : (s.withPass { s.pass with state := .stopping, stopCause := some .command }).InRun :=
    h.withPass rfl rfl rfl rfl
  (hstop.stopRequest _).finish _

theorem State.InRun.hold (h : s.InRun) (r : PassRecord) : (s.hold r).InRun := by
  refine State.InRun.of_signals (State.note_signals _ _) ?_
  exact ⟨rfl, h.clock, h.cameraRun, h.trigger, h.outcome⟩

theorem State.InRun.resume (h : s.InRun) (r : PassRecord) : (s.resume r).InRun :=
  ⟨rfl, h.clock, h.cameraRun, h.trigger, h.outcome⟩

/-! ### Follower mode (R116 to R122) -/

@[simp] theorem State.loseSync_signals (s : State) : s.loseSync.signals = s.signals := State.note_signals _ _

@[simp] theorem State.loseLock_signals (s : State) : s.loseLock.signals = s.signals := rfl

@[simp] theorem State.followerExpires_signals (s : State) : s.followerExpires.signals = s.signals := by
  unfold State.followerExpires
  split <;> simp

@[simp] theorem State.expireBefore_signals (s : State) (n : Nat) : (s.expireBefore n).signals = s.signals := by
  unfold State.expireBefore
  split
  · split <;> simp
  · rfl

@[simp] theorem State.tickLoss_signals (s : State) : s.tickLoss.signals = s.signals := by
  unfold State.tickLoss
  split
  · split <;> simp
  · rfl

theorem State.InRun.tickFollowing (h : s.InRun) : s.tickFollowing.1.InRun := by
  unfold State.tickFollowing
  split
  · exact h.phaseMoves _
  · exact h.phaseMoves _
  · exact h

theorem State.InRun.overspeedStop (h : s.InRun) (r : PassRecord) : (s.overspeedStop r).InMode :=
  have hstop : (s.withPass { s.pass with state := .stopping, stopCause := some .overspeed }).InRun :=
    h.withPass rfl rfl rfl rfl
  (hstop.followerStop _).finish _

theorem State.InRun.relock (h : s.InRun) (r : PassRecord) : (s.relock r).InMode := by
  have hsnap : s.snap.1.InRun := h.phaseMoves _
  have hlock : (s.snap.1.withClock { s.snap.1.clock with lock := some .locked }).InRun := hsnap.withClock hsnap.clock
  unfold State.relock
  exact State.InRun.writeAndFinish
    (State.InRun.of_signals ((State.raise_signals _ _).trans (State.note_signals _ _)) hlock) r _

theorem Clock.acquire_state (n : Nat) (previous : Option Nat) (p : Nat) (c : Clock) :
    (c.acquire n previous p).state = c.state := by
  simp only [Clock.acquire, apply_ite Clock.state, ite_self]

theorem State.InRun.followedEdge (h : s.InRun) (r : PassRecord) (e : Option Nat) (n : Nat) :
    (s.followedEdge r e n).InMode := by
  unfold State.followedEdge
  split
  · exact .inr (.inl h)
  · next e =>
    dsimp only
    have hused : (s.withClock (s.clock.usePeriod (min (n - e) 4294967295))).InRun := h.withClock h.clock
    split
    · exact hused.overspeedStop r
    · split
      · exact State.InRun.writeAndFinish (State.InRun.phaseMoves hused _) r _
      · refine State.InRun.writeAndFinish (State.InRun.frameStart (hused.withClock ?_) _) r _
        exact hused.clock
      · exact .inr (.inl (hused.withClock (by rw [Clock.acquire_state]; exact hused.clock)))

theorem State.cameraEdge_modeKept (n : Nat) : s.ModeKept (s.cameraEdge n) := by
  intro h
  unfold State.cameraEdge
  split
  · next hc =>
    have hrun : (s.expireBefore n).InRun := .of_signals (s.expireBefore_signals n) (h.inRun_of_following hc)
    dsimp only
    generalize s.expireBefore n = u at hrun
    have hglitch : (u.withClock { u.clock with glitchCount := min (u.clock.glitchCount + 1) 255 }).InRun :=
      hrun.withClock hrun.clock
    have hmark : (u.withClock { u.clock with lastEdge := some n }).InRun := hrun.withClock hrun.clock
    have hedge : ∀ r, (if u.clock.lock = some .syncLost
        then (u.withClock { u.clock with lastEdge := some n }).relock r
        else (u.withClock { u.clock with lastEdge := some n }).followedEdge r u.clock.lastEdge n).InMode := by
      intro r
      split
      · exact hmark.relock r
      · exact hmark.followedEdge r _ n
    split <;>
    · split
      · exact .inr (.inl hglitch)
      · split
        · exact .inr (.inl hrun)
        · exact hedge _
  all_goals exact h

/-! ### The roll (R109, R135) -/

/-- A roll of a MASTER or FOLLOWER pass starts a run, which ends at once where its opening frame start ends the
trail. -/
theorem State.AtRest.roll (h : s.AtRest) {r : PassRecord} (hm : r.mode ≠ .step) : (s.roll r).InMode := by
  unfold State.roll
  dsimp only
  split
  · generalize hv : State.withClock _ (Clock.startMaster r _) = v
    have hstarted : v.InRun := by
      rw [← hv]
      exact ⟨rfl, .inl rfl, rfl, h.trigger, rfl⟩
    have hopened : (v.frameStart (v.clock.phase / puPerFrame)).1.InRun := hstarted.frameStart _
    refine State.InRun.finish (hopened.withClock ?_) _
    exact hopened.clock
  · exact .inr (.inl ⟨rfl, .inr rfl, rfl, h.trigger, rfl⟩)
  · next hr => exact absurd hr hm

/-! ### Stepping (R151 to R160) -/

theorem State.AtRest.beginStepRun (h : s.AtRest) (r : PassRecord) :
    (s.beginStepRun r).StepRun ∧ (s.beginStepRun r).pass.stepping.trigger = false :=
  ⟨⟨rfl, rfl, rfl, rfl⟩, h.trigger⟩

theorem State.StepRun.withStepping (h : s.StepRun) (x : Stepping) : (s.withStepping x).StepRun :=
  ⟨h.clock, h.cameraRun, h.outcome, h.sync⟩

theorem State.StepRun.beginStep (h : s.StepRun) (ht : s.pass.stepping.trigger = false) (f : StepFields) :
    (s.beginStep f).InStep :=
  ⟨⟨h.clock, h.cameraRun, h.outcome, h.sync⟩, rfl, by simp [State.beginStep, State.withPass, ht]⟩

theorem State.StepRun.beginExposure (h : s.StepRun) (f : StepFields) : (s.beginExposure f).InStep :=
  ⟨⟨h.clock, h.cameraRun, h.outcome, h.sync⟩, rfl, by simp [State.beginExposure, State.withPass]⟩

theorem State.StepRun.stepReady (h : s.StepRun) (ht : s.pass.stepping.trigger = false) : s.stepReady.InStep :=
  ⟨⟨h.clock, h.cameraRun, h.outcome, h.sync⟩, rfl, by simp [State.stepReady, State.withPass, ht]⟩

/-- Outside EXPOSING the trigger is LOW. -/
theorem State.InStep.trigger_low (h : s.InStep) (hs : s.pass.state ≠ .exposing) :
    s.pass.stepping.trigger = false := by
  simpa [hs] using h.trigger

theorem State.InStep.withStepping (h : s.InStep) {x : Stepping} (hx : x.trigger = s.pass.stepping.trigger) :
    (s.withStepping x).InStep :=
  ⟨h.toStepRun.withStepping x, h.state, by simpa [State.withStepping, State.withPass, hx] using h.trigger⟩

theorem State.StepRun.exposureCompleted (h : s.StepRun) (r : PassRecord) (f : StepFields) :
    (s.exposureCompleted r f).InMode := by
  unfold State.exposureCompleted
  dsimp only
  split
  · exact .inl (State.endRun_atRest (by simp) _)
  · split
    · refine .inr (.inr (State.StepRun.beginStep ?_ rfl f))
      exact ⟨h.clock, h.cameraRun, h.outcome, h.sync⟩
    · refine .inr (.inr (State.StepRun.stepReady ?_ rfl))
      exact ⟨h.clock, h.cameraRun, h.outcome, h.sync⟩

theorem State.StepRun.exposureTimedOut (h : s.StepRun) : s.exposureTimedOut.InStep := by
  refine State.StepRun.stepReady ⟨h.clock, h.cameraRun, ?_, h.sync⟩ rfl
  exact (Report.note_outcome _ _).trans h.outcome

theorem State.StepRun.exposureElapsed (h : s.StepRun) (r : PassRecord) (f : StepFields) :
    (s.exposureElapsed r f).InMode := by
  unfold State.exposureElapsed
  split
  · exact h.exposureCompleted r f
  · exact .inr (.inr h.exposureTimedOut)

theorem State.StepRun.stepArrives (h : s.StepRun) (ht : s.pass.stepping.trigger = false) (f : StepFields) :
    (s.stepArrives f).InMode := by
  unfold State.stepArrives
  dsimp only
  split
  · exact .inl (State.endRun_atRest (by simp) _)
  · split
    · refine .inr (.inr (State.StepRun.beginExposure ?_ f))
      exact ⟨h.clock, h.cameraRun, h.outcome, h.sync⟩
    · exact .inr (.inr ⟨⟨h.clock, h.cameraRun, h.outcome, h.sync⟩, rfl, by simp [State.withPass, ht]⟩)

theorem State.InStep.tickStep (h : s.InStep) (r : PassRecord) (f : StepFields) : (s.tickStep r f).InMode := by
  have hwritten : (s.writeSetpoints r s.clock.phase).InStep := h.of_signals (s.writeSetpoints_signals r _)
  unfold State.tickStep
  split
  · next hst =>
    split
    · exact .inr (.inr h)
    · dsimp only
      generalize hu : ({ s with clock := _, pass := _ } : State) = u
      have heased : u.InStep := by
        rw [← hu]
        exact ⟨⟨h.clock, h.cameraRun, h.outcome, h.sync⟩, h.state, h.trigger⟩
      have hlow : u.pass.stepping.trigger = false := heased.trigger_low (by rw [← hu]; simp [hst])
      have hw := u.writeSetpoints_signals r u.clock.phase
      have hwritten := heased.of_signals hw
      rw [← hu] at hwritten hw ⊢
      split
      · refine hwritten.toStepRun.stepArrives ?_ f
        rw [← hlow, ← hu]
        exact congrArg (fun x => x.2.2.2.1) hw
      · exact .inr (.inr hwritten)
  · dsimp only
    split
    · exact .inr (.inr (hwritten.toStepRun.beginExposure f))
    · exact .inr (.inr (hwritten.withStepping rfl))
  · dsimp only
    split
    · exact hwritten.toStepRun.exposureElapsed r f
    · exact .inr (.inr (hwritten.withStepping rfl))
  · exact .inr (.inr hwritten)
  · exact .inr (.inr h)

end Sys2Proof.Machine
end

section
/-! SUPPORT. The approach, arming and disarming, faults, resets and the servo tick (R20, R106, R130 to R134, R142, R147,
R163, R168, R170) leave clock, outputs, report and pass state in agreement. -/

namespace Sys2Proof.Machine

variable {s t u : State} {l : LinkId} {a : AxisId}

/-! ### The pass at rest (R130, R132 to R134, R147) -/

/-- At rest, the pass passes from one state outside a run to another. -/
theorem State.AtRest.withPass {p : Pass} (h : s.AtRest) (hp : p.runs = false) (hc : p.cameraRun = s.pass.cameraRun)
    (ht : p.stepping = s.pass.stepping) (ho : p.report = s.pass.report) : (s.withPass p).AtRest :=
  ⟨hp, h.clock, hc.trans h.cameraRun, (congrArg Stepping.trigger ht).trans h.trigger,
    fun hr => h.outcome ((congrArg Report.outcome ho).symm.trans hr), h.sync⟩

theorem State.AtRest.atStart (h : s.AtRest) : s.atStart.AtRest := by
  refine State.AtRest.of_signals (State.raise_signals _ _) ?_
  exact h.withPass rfl rfl rfl rfl

theorem State.AtRest.approachGivenUp (h : s.AtRest) : s.approachGivenUp.AtRest := by
  unfold State.approachGivenUp
  split
  · exact h.withPass rfl rfl rfl rfl
  · refine State.AtRest.of_signals (forAxes_onAxis_signals _ _ _) ?_
    exact h.withPass rfl rfl rfl rfl

theorem State.AtRest.beginApproach (h : s.AtRest) (es : List EaseAxis) (d : Nat) : (s.beginApproach es d).AtRest := by
  unfold State.beginApproach
  split
  · exact h.atStart
  · exact h.withPass rfl rfl rfl rfl

theorem State.AtRest.stopApproach (h : s.AtRest) : s.stopApproach.AtRest := by
  unfold State.stopApproach
  split
  · exact h
  · split
    · exact h
    · split
      · exact h.approachGivenUp
      · refine State.AtRest.of_signals (State.handToCreep_signals _ _) ?_
        exact h.withPass h.state rfl rfl rfl

theorem State.AtRest.tickApproach (h : s.AtRest) : s.tickApproach.AtRest := by
  unfold State.tickApproach
  split
  · exact h
  · next g _ =>
    split
    · have hcreep : (s.groupCreepTick g).AtRest := h.of_signals (s.groupCreepTick_signals g)
      dsimp only
      split
      · exact hcreep.approachGivenUp
      · exact hcreep
    · have hease : (s.easeSetpoints g (g.elapsed + 1)).AtRest := h.of_signals (s.easeSetpoints_signals g _)
      dsimp only
      generalize s.easeSetpoints g (g.elapsed + 1) = v at hease
      have hnext : (v.withPass { v.pass with approach := some { g with elapsed := g.elapsed + 1 } }).AtRest :=
        hease.withPass hease.state rfl rfl rfl
      split
      · exact hnext.atStart
      · exact hnext

theorem State.AtRest.arm (h : s.AtRest) (r : PassRecord) : (s.arm r).AtRest := by
  have howned : (forAxes r.axisIds (fun b v => v.onAxis b (fun x => { x with owner := .pass }))
      (s.onMove r.slot (fun m => { m with state := .bound }))).AtRest :=
    h.of_signals ((forAxes_onAxis_signals _ _ _).trans (State.signals_of_motion (s.onMove_motion _ _)))
  exact howned.withPass rfl rfl rfl rfl

theorem State.AtRest.disarm (h : s.AtRest) (r : PassRecord) : (s.disarm r).AtRest := by
  have hclock : (s.withClock s.clock.disarmed).AtRest := ⟨h.state, rfl, h.cameraRun, h.trigger, h.outcome, rfl⟩
  have hreleased : ((s.withClock s.clock.disarmed).releaseMove.releaseAxes r).AtRest :=
    hclock.of_signals ((State.applyStagedAll_signals _ _).trans ((forAxes_onAxis_signals _ _ _).trans
      (State.signals_of_motion (State.releaseMove_motion _))))
  exact ⟨rfl, hreleased.clock, hreleased.cameraRun, rfl, hreleased.outcome, hreleased.sync⟩

/-! ### The tick of the pass (R131, R133, R154) -/

theorem State.InRun.tickRun (h : s.InRun) (r : PassRecord) : (s.tickRun r).InMode := by
  unfold State.tickRun
  have hticked : ∀ q : State × Option RunEnd, q.1.InRun →
      ((q.1.writeSetpoints r (r.evaluationPhase q.1.clock.phase)).finish q.2).InMode :=
    fun q hq => State.InRun.finish (hq.of_signals (q.1.writeSetpoints_signals r _)) q.2
  refine hticked _ ?_
  split
  · exact h.tickClocking
  · exact h.tickFollowing
  · exact h
  · exact h

theorem State.tickPass_modeKept : s.ModeKept s.tickPass := by
  intro h
  unfold State.tickPass
  split
  · exact h
  · next r _ =>
    split
    · next hrun => exact (h.inRun hrun).tickRun r
    · split
      · next hstep =>
        split
        · exact (h.inStep hstep).tickStep r _
        · exact h
      · next hrun hstep =>
        split
        · exact .inl (h.atRest (by simp [Pass.runs, hrun, hstep])).tickApproach
        · exact h

theorem State.tickApproach_modeKept (hs : s.pass.state = .approaching) : s.ModeKept s.tickApproach :=
  fun h => .inl (h.atRest (by rw [Pass.runs, hs]; rfl)).tickApproach

theorem State.approachEaseDue_approaching (h : s.approachEaseDue = true) : s.pass.state = .approaching := by
  unfold State.approachEaseDue at h
  split at h
  · simp only [Bool.and_eq_true, decide_eq_true_eq] at h
    exact h.1.1
  · cases h

theorem State.approachRestDue_approaching (h : s.approachRestDue = true) : s.pass.state = .approaching := by
  unfold State.approachRestDue at h
  split at h
  · simp only [Bool.and_eq_true, decide_eq_true_eq] at h
    exact h.1.1
  · cases h

/-! ### Faults (R142, R168, R170) -/

theorem State.faultPass_modeKept (c : ReportCause) : s.ModeKept (s.faultPass c) := by
  intro h
  unfold State.faultPass
  split
  · exact .inl (State.endRun_atRest (by simp) _)
  · next hruns =>
    have hrest : s.AtRest := h.atRest (by simpa [Pass.runs] using hruns)
    split
    · exact .inl hrest.approachGivenUp
    · exact .inl (hrest.withPass rfl rfl rfl rfl)
    · exact h

theorem State.tripAxis_modeKept : s.ModeKept (s.tripAxis a) := by
  unfold State.tripAxis
  dsimp only
  generalize hv : ((s.setAxis a _).raise .axisTrip) = v
  have htrip : s.ModeKept v := .of_signals (by rw [← hv]; rfl)
  split
  · exact htrip.trans (State.faultPass_modeKept _)
  · exact htrip.trans (.of_signals (State.faultPark_signals _ _))
  · exact htrip.trans (.of_signals (State.faultHome_signals _ _ _))
  · exact htrip

theorem State.allDrivesOff_modeKept (c : ReportCause) (m : MotionCause) : s.ModeKept (s.allDrivesOff c m) := by
  have hoff : s.ModeKept (s.onAxes Axis.driveOff) := .of_signals rfl
  refine (hoff.trans (State.faultPass_modeKept c)).trans (.of_signals ?_)
  exact (forAxes_signals _ _ (fun b v => v.faultHome_signals b m) _).trans (State.faultPark_signals _ m)

theorem State.estopAsserted_modeKept : s.ModeKept s.estopAsserted :=
  State.ModeKept.trans (t := (({ s with estop := true } : State).onAxes Axis.driveOff).raise .estop)
    (.of_signals rfl) (State.allDrivesOff_modeKept _ _)

theorem State.supplyStop_modeKept : s.ModeKept s.supplyStop := by
  unfold State.supplyStop
  split
  · exact .refl s
  · exact State.allDrivesOff_modeKept _ _

theorem State.compareSupply_modeKept : s.ModeKept s.compareSupply := by
  unfold State.compareSupply
  split
  · split
    · exact .of_signals rfl
    · exact .refl s
  · split
    · exact State.ModeKept.trans (t := ({ s with supplyLow := true } : State).raise .supplyLow) (.of_signals rfl)
        State.supplyStop_modeKept
    · exact .refl s

theorem State.setSupply_modeKept (level : Nat) (action : SupplyAction) : s.ModeKept (s.setSupply level action) := by
  have h : s.ModeKept ({ s with supplyLevel := level, supplyAction := action } : State).compareSupply :=
    State.ModeKept.trans (t := { s with supplyLevel := level, supplyAction := action }) (.of_signals rfl)
      State.compareSupply_modeKept
  unfold State.setSupply
  dsimp only
  split
  · exact h.trans State.supplyStop_modeKept
  · exact h

/-! ### The resets (R20, R148, R161) -/

theorem Report.softReset_outcome (r : Report) : r.softReset.outcome ≠ .running := by
  unfold Report.softReset
  split
  · simp
  · assumption

theorem State.softReset_atRest (s : State) : s.softReset.AtRest := by
  unfold State.softReset
  dsimp only
  generalize s.resetCheck.releaseMove = v
  have hreset : ({ v with pass := v.pass.softReset, clock := Clock.reset, park := none } : State).AtRest :=
    ⟨rfl, rfl, rfl, rfl, Report.softReset_outcome _, rfl⟩
  have hanswer : ∀ w : State, ((w.answerReset .a).answerReset .b).signals = w.signals := fun w =>
    State.signals_of_motion (by simp)
  have hlinks : ∀ w : State,
      ({ w.onLinks Link.softReset with edit := none, resetWaiting := false } : State).signals = w.signals :=
    fun _ => rfl
  refine hreset.of_signals ((hanswer _).trans ((hlinks _).trans ((State.applyStagedAll_signals _ _).trans ?_)))
  rfl

theorem State.hardReset_atRest (s : State) : s.hardReset.AtRest := by
  unfold State.hardReset
  split <;> exact ⟨rfl, rfl, rfl, rfl, (nofun : RunOutcome.none ≠ .running), rfl⟩

theorem State.tickEdit_modeKept : s.ModeKept s.tickEdit := by
  rcases s.tickEdit_motion with h | ⟨u, -, h⟩
  · exact .of_motion h
  · exact fun _ => .inl (h ▸ u.softReset_atRest)

theorem State.finishEdit_modeKept : s.ModeKept s.finishEdit := by
  rcases s.finishEdit_motion with h | ⟨u, -, h⟩
  · exact .of_motion h
  · exact fun _ => .inl (h ▸ u.softReset_atRest)

/-! ### The servo tick (R163) -/

theorem State.tickOutput_modeKept : s.ModeKept s.tickOutput := by
  have haxes : s.ModeKept (forAxes allAxes State.tickAxis s) :=
    .of_signals (forAxes_signals s _ (fun b v => v.tickAxis_signals b) _)
  have hstops : ∀ v : State, v.ModeKept v.tickStops := fun v =>
    forAxes_modeKept _ (fun b w => by
      split
      · exact .of_signals (w.stopReached_signals b)
      · exact .refl w) _ v
  have htrips : ∀ v : State, v.ModeKept v.tickTrips := fun v => by
    unfold State.tickTrips
    split
    · exact .refl v
    · exact State.tripAxis_modeKept
    · refine State.ModeKept.trans (t := { v with freeIx := v.freeIx + 1 }) (.of_signals rfl)
        (forAxes_modeKept _ (fun b w => ?_) _ _)
      split
      · exact State.tripAxis_modeKept
      · exact .refl w
  exact (haxes.trans (hstops _)).trans (htrips _)

theorem State.servoTick_modeKept : s.ModeKept s.servoTick := by
  have hbefore : s.ModeKept ((s.nextTick.tickLink .a).tickLink .b).tickInit := .of_motion s.beforeEdit_motion
  have hfaults := hbefore.trans (State.tickEdit_modeKept.trans
    ((State.ModeKept.of_motion (State.tickCheck_motion _)).trans State.compareSupply_modeKept))
  have hpass := hfaults.trans ((State.ModeKept.of_signals (State.tickLoss_signals _)).trans State.tickPass_modeKept)
  have hmotion : ∀ v : State, v.tickPark.tickHomes.signals = v.signals := fun v =>
    (forAxes_signals _ _ (fun b w => w.tickHome_signals b) _).trans v.tickPark_signals
  exact hpass.trans ((State.ModeKept.of_signals (hmotion _)).trans State.tickOutput_modeKept)

end Sys2Proof.Machine
end

section
/-! SUPPORT. Every row of the command table leaves clock, outputs, report and pass state in agreement; O55. -/

namespace Sys2Proof.Machine

/-! ### How a command is taken -/

section
variable {s t : State} {l : LinkId} {body : State → State}

/-- A command is taken: during initialization it is only answered, and in SERVING its body runs. -/
theorem State.ModeKept.taken (h : ∀ u : State, u.ModeKept (body u)) : s.ModeKept (s.taken l body) := by
  have hd := s.deselect_motion l
  cases hp : s.phase with
  | initializing =>
    rw [State.taken_initializing s l hp]
    exact .of_motion ((State.answer_motion _ l _).trans hd)
  | serving =>
    rw [State.taken_serving s l hp]
    exact (State.ModeKept.of_motion hd).trans (h _)

theorem State.ModeKept.taken_motion (h : ∀ u : State, (body u).motion = u.motion) : s.ModeKept (s.taken l body) :=
  .taken (fun u => .of_motion (h u))

theorem State.refuse_modeKept (w : Reason) : s.ModeKept (s.refuse l w) := .of_motion (s.refuse_motion l w)

theorem State.ModeKept.ok (h : s.ModeKept t) (r : Results) : s.ModeKept (t.ok l r) :=
  h.trans (.of_motion (t.ok_motion l r))

theorem State.ok_modeKept (r : Results) : s.ModeKept (s.ok l r) := (State.ModeKept.refl s).ok r

/-- An end row does its part when it is due, and nothing otherwise. -/
theorem State.ModeKept.ite (b : Prop) [Decidable b] (h : b → s.ModeKept t) : s.ModeKept (if b then t else s) := by
  split
  · next hb => exact h hb
  · exact .refl s

/-- What a pass does from rest. -/
theorem State.ModeKept.of_atRest (hs : s.pass.state.inRun = false ∧ s.pass.state.inStep = false)
    (h : s.AtRest → t.InMode) : s.ModeKept t := fun hm => h (hm.atRest (by simp [Pass.runs, hs]))

end

/-! ### The axis commands (R84, R91, R93, R96, R102, R104) -/

section
variable (l : LinkId) (s : State)

theorem State.takeRecord_modeKept (a : AxisId) (r : AxisRecord) : s.ModeKept (s.takeRecord l a r) := by
  have hstage : s.ModeKept (s.onAxis a (fun x => { x with staged := some r })) := .of_signals rfl
  unfold State.takeRecord
  split
  · exact (State.ModeKept.of_signals (s.applyRecord_signals a r)).ok _
  all_goals exact hstage.ok _

theorem execAxisSet_modeKept (axis : Nat) (rec : RecordArgs) :
    ∃ t, execAxisSet l axis rec s = .next t ∧ s.ModeKept t := by
  refine ⟨_, rfl, .taken (fun u => ?_)⟩
  split
  · exact u.takeRecord_modeKept l _ _
  · exact State.refuse_modeKept _

theorem execAxisEnable_modeKept (axis : Nat) : ∃ t, execAxisEnable l axis s = .next t ∧ s.ModeKept t := by
  refine ⟨_, rfl, .taken (fun u => ?_)⟩
  split
  · exact State.refuse_modeKept _
  split
  · exact State.refuse_modeKept _
  split
  · exact State.refuse_modeKept _
  · exact (State.ModeKept.of_signals (u.onAxis_signals _ _)).ok _

theorem execAxisDisable_modeKept (axis : Nat) : ∃ t, execAxisDisable l axis s = .next t ∧ s.ModeKept t := by
  refine ⟨_, rfl, .taken (fun u => ?_)⟩
  split
  · exact State.refuse_modeKept _
  split
  · exact State.refuse_modeKept _
  · exact (State.ModeKept.of_signals (u.onAxis_signals _ _)).ok _

theorem execAxisHome_modeKept (axis : Nat) : ∃ t, execAxisHome l axis s = .next t ∧ s.ModeKept t := by
  refine ⟨_, rfl, .taken (fun u => ?_)⟩
  split
  · exact State.refuse_modeKept _
  split
  · exact State.refuse_modeKept _
  split
  · exact State.refuse_modeKept _
  · exact (State.ModeKept.of_signals (u.onAxis_signals _ _)).ok _

theorem execAxisPark_modeKept (targets : List (Nat × Int)) :
    ∃ t, execAxisPark l targets s = .next t ∧ s.ModeKept t := by
  refine ⟨_, rfl, .taken (fun u => ?_)⟩
  split
  · exact State.refuse_modeKept _
  split
  · exact State.refuse_modeKept _
  split
  · exact State.refuse_modeKept _
  split
  · exact State.refuse_modeKept _
  split
  · exact State.refuse_modeKept _
  split
  · exact State.refuse_modeKept _
  split
  · exact State.refuse_modeKept _
  · exact (State.ModeKept.of_signals (u.beginPark_signals _ _)).ok _

theorem execAxisStop_modeKept (axis : Nat) : ∃ t, execAxisStop l axis s = .next t ∧ s.ModeKept t := by
  refine ⟨_, rfl, .taken (fun u => ?_)⟩
  split
  · exact State.refuse_modeKept _
  split
  · exact State.refuse_modeKept _
  · exact u.ok_modeKept _
  · split
    · exact u.ok_modeKept _
    · exact (State.ModeKept.of_signals (u.onAxis_signals _ _)).ok _
  · exact (State.ModeKept.of_signals u.stopPark_signals).ok _

end

/-! ### The pass commands (R130, R132 to R140, R147, R152, R158) -/

section
variable (l : LinkId) (s : State)

theorem execPassArm_modeKept (args : PassArgs) : ∃ t, execPassArm l args s = .next t ∧ s.ModeKept t := by
  refine ⟨_, rfl, .taken (fun u => ?_)⟩
  split
  · exact State.refuse_modeKept _
  next hidle =>
  have hstate : u.pass.state = .idle := by simpa using hidle
  split
  · exact State.refuse_modeKept _
  next r _ =>
  split
  · exact State.refuse_modeKept _
  split
  · exact State.refuse_modeKept _
  split
  · split
    · exact State.refuse_modeKept _
    · exact (State.ModeKept.of_atRest (by simp [hstate, PassState.inRun, PassState.inStep])
        (fun h => .inl (h.arm r))).ok _
  · exact State.refuse_modeKept _

theorem execPassGoStart_modeKept : ∃ t, execPassGoStart l s = .next t ∧ s.ModeKept t := by
  refine ⟨_, rfl, .taken (fun u => ?_)⟩
  split
  · exact State.refuse_modeKept _
  split
  · exact State.refuse_modeKept _
  next hstate =>
  have hrest : u.pass.state.inRun = false ∧ u.pass.state.inStep = false := by
    have : u.pass.state = .armed ∨ u.pass.state = .ended := by
      by_contra hne
      exact hstate (not_or.1 hne)
    rcases this with h | h <;> simp [h, PassState.inRun, PassState.inStep]
  split
  · exact State.refuse_modeKept _
  split
  · exact State.refuse_modeKept _
  split
  · exact State.refuse_modeKept _
  · exact (State.ModeKept.of_atRest hrest (fun h => .inl (h.beginApproach _ _))).ok _

theorem State.roll_modeKept {r : PassRecord} (hs : s.pass.state = .atStart) (hm : r.mode ≠ .step) :
    s.ModeKept (s.roll r) :=
  .of_atRest (by simp [hs, PassState.inRun, PassState.inStep]) (fun h => h.roll hm)

theorem execPassRun_modeKept : ∃ t, execPassRun l s = .next t ∧ s.ModeKept t := by
  refine ⟨_, rfl, .taken (fun u => ?_)⟩
  split
  · exact State.refuse_modeKept _
  split
  · exact State.refuse_modeKept _
  split
  · exact State.refuse_modeKept _
  next hmode =>
  split
  · exact State.refuse_modeKept _
  · next hstate => exact (u.roll_modeKept (by simpa using hstate) hmode).ok _

theorem execPassHold_modeKept : ∃ t, execPassHold l s = .next t ∧ s.ModeKept t := by
  refine ⟨_, rfl, .taken (fun u => ?_)⟩
  split
  · exact State.refuse_modeKept _
  next r _ =>
  split
  · exact State.refuse_modeKept _
  split
  · exact State.refuse_modeKept _
  split
  · exact State.refuse_modeKept _
  · next hstate =>
    have hrun : u.pass.state.inRun = true := by
      rw [not_not.1 hstate]
      rfl
    have hheld : u.ModeKept (u.hold r) := fun h => .inr (.inl ((h.inRun hrun).hold r))
    exact hheld.ok _

theorem execPassResume_modeKept : ∃ t, execPassResume l s = .next t ∧ s.ModeKept t := by
  refine ⟨_, rfl, .taken (fun u => ?_)⟩
  split
  · exact State.refuse_modeKept _
  next r _ =>
  split
  · exact State.refuse_modeKept _
  split
  · exact State.refuse_modeKept _
  split
  · exact State.refuse_modeKept _
  · next hstate =>
    have hrun : u.pass.state.inRun = true := by
      rw [not_not.1 hstate]
      rfl
    have hresumed : u.ModeKept (u.resume r) := fun h => .inr (.inl ((h.inRun hrun).resume r))
    exact hresumed.ok _

theorem State.requestStepAbort_modeKept (hs : s.pass.state.inStep = true) : s.ModeKept s.requestStepAbort := by
  intro h
  unfold State.requestStepAbort
  split
  · exact h
  · exact .inr (.inr ((h.inStep hs).withStepping rfl))

theorem execPassAbort_modeKept : ∃ t, execPassAbort l s = .next t ∧ s.ModeKept t := by
  refine ⟨_, rfl, .taken (fun u => ?_)⟩
  split
  · exact State.refuse_modeKept _
  next r _ =>
  have hend : u.ModeKept (u.endRun .aborted (some .command)) := fun _ => .inl (State.endRun_atRest (by simp) _)
  have hrun : u.pass.state.inRun = true → u.ModeKept (u.abortRun r) := fun hs h => (h.inRun hs).abortRun r
  cases hst : u.pass.state with
  | idle | armed | atStart | ended => exact State.refuse_modeKept _
  | approaching =>
    exact (State.ModeKept.of_atRest (by simp [hst, PassState.inRun, PassState.inStep])
      (fun h => .inl h.stopApproach)).ok _
  | rolling | running | holding | held | resuming | trailing => exact (hrun (by rw [hst]; rfl)).ok _
  | stopping => exact u.ok_modeKept _
  | stepMoving => exact (u.requestStepAbort_modeKept (by rw [hst]; rfl)).ok _
  | stepSettling | exposing | stepReady => exact hend.ok _

theorem execPassDisarm_modeKept : ∃ t, execPassDisarm l s = .next t ∧ s.ModeKept t := by
  refine ⟨_, rfl, .taken (fun u => ?_)⟩
  split
  · exact State.refuse_modeKept _
  next r _ =>
  split
  · exact State.refuse_modeKept _
  next hstate =>
  have hrest : u.pass.state.inRun = false ∧ u.pass.state.inStep = false := by
    have : u.pass.state = .armed ∨ u.pass.state = .atStart ∨ u.pass.state = .ended := by
      by_contra hne
      exact hstate (by simpa [not_or] using hne)
    rcases this with h | h | h <;> simp [h, PassState.inRun, PassState.inStep]
  split <;> exact (State.ModeKept.of_atRest hrest (fun h => .inl (h.disarm r))).ok _

end

/-! ### The step commands (R152, R153, R158) -/

section
variable {s : State} (l : LinkId) (r : PassRecord) (f : StepFields)

/-- A state in which steps are asked for is AT_START or a step state. -/
theorem PassState.takesSteps_cases {p : PassState} (h : p.takesSteps = true) : p = .atStart ∨ p.inStep = true := by
  cases p <;> simp_all [PassState.takesSteps, PassState.inStep]

theorem PassState.standing_cases {p : PassState} (h : p.standing = true) : p = .atStart ∨ p = .stepReady := by
  cases p <;> simp_all [PassState.standing]

theorem State.askSteps_modeKept (n : Nat) (d : Direction) (h : s.pass.state.takesSteps = true) :
    s.ModeKept (s.askSteps r f n d) := by
  intro hm
  have hbegins : ∀ (v : State) (x : Stepping), v.StepRun → x.trigger = false →
      ((v.withStepping x).beginStep f).InMode :=
    fun v x hv hx => .inr (.inr ((hv.withStepping x).beginStep hx f))
  unfold State.askSteps
  dsimp only
  rcases PassState.takesSteps_cases h with hs | hs
  · have hrest : s.AtRest := hm.atRest (by rw [Pass.runs, hs]; rfl)
    obtain ⟨hrun, htrig⟩ := hrest.beginStepRun r
    rw [if_pos hs, if_pos (by rw [hs]; rfl)]
    exact hbegins _ _ hrun htrig
  · have hstep : s.InStep := hm.inStep hs
    have hne : s.pass.state ≠ .atStart := fun he => by
      rw [he] at hs
      cases hs
    rw [if_neg hne]
    split
    · next hst =>
      have hready : s.pass.state = .stepReady := (PassState.standing_cases hst).resolve_left hne
      exact hbegins _ _ hstep.toStepRun (hstep.trigger_low (by simp [hready]))
    · exact .inr (.inr (hstep.withStepping rfl))

/-- Steps that are not refused are asked for in AT_START or a step state (R152, test 4). -/
theorem State.stepRefusal_takesSteps {n : Nat} {d : Direction} (h : s.stepRefusal r n d = none) :
    s.pass.state.takesSteps = true := by
  unfold State.stepRefusal at h
  dsimp only at h
  split at h
  · cases h
  split at h
  · cases h
  · next ht => simpa using ht

theorem State.expose_modeKept (h : s.pass.state.standing = true) : s.ModeKept (s.expose r f) := by
  intro hm
  unfold State.expose
  rcases PassState.standing_cases h with hs | hs
  · have hrest : s.AtRest := hm.atRest (by rw [Pass.runs, hs]; rfl)
    rw [if_pos hs]
    exact .inr (.inr ((hrest.beginStepRun r).1.beginExposure f))
  · have hstep : s.InStep := hm.inStep (by rw [hs]; rfl)
    rw [if_neg (by simp [hs])]
    exact .inr (.inr (hstep.toStepRun.beginExposure f))

variable (s)

theorem execPassStep_modeKept (count direction : Nat) :
    ∃ t, execPassStep l count direction s = .next t ∧ s.ModeKept t := by
  refine ⟨_, rfl, .taken (fun u => ?_)⟩
  split
  · exact State.refuse_modeKept _
  next r _ =>
  split
  · exact State.refuse_modeKept _
  split
  · exact State.refuse_modeKept _
  split
  · unfold State.takeSteps
    split
    · exact State.refuse_modeKept _
    · next href _ => exact (State.askSteps_modeKept r _ _ _ (State.stepRefusal_takesSteps r href)).ok _
    · exact State.refuse_modeKept _
  · exact State.refuse_modeKept _

theorem execPassExpose_modeKept : ∃ t, execPassExpose l s = .next t ∧ s.ModeKept t := by
  refine ⟨_, rfl, .taken (fun u => ?_)⟩
  split
  · exact State.refuse_modeKept _
  next r _ =>
  split
  · exact State.refuse_modeKept _
  split
  · split
    · next hst => exact (State.expose_modeKept r _ hst).ok _
    · exact State.refuse_modeKept _
  · exact State.refuse_modeKept _

end

/-! ### The other commands of a link (R18, R50, R174, R188, R190) -/

section
variable (l : LinkId) (s : State)

theorem execEventsClear_modeKept (kinds : WireEvents) : ∃ t, execEventsClear l kinds s = .next t ∧ s.ModeKept t := by
  refine ⟨_, rfl, .taken_motion (fun u => ?_)⟩
  split
  · simp
  · simp [State.okEvents]

theorem execCrcMode_modeKept (mode : Nat) : ∃ t, execCrcMode l mode s = .next t ∧ s.ModeKept t := by
  refine ⟨_, rfl, .taken_motion (fun u => ?_)⟩
  split <;> simp

theorem execMoveInfo_modeKept (slot : Nat) : ∃ t, execMoveInfo l slot s = .next t ∧ s.ModeKept t := by
  refine ⟨_, rfl, .taken_motion (fun u => ?_)⟩
  repeat' split
  all_goals simp

theorem execKeysGet_modeKept (slot track : Nat) : ∃ t, execKeysGet l slot track s = .next t ∧ s.ModeKept t := by
  refine ⟨_, rfl, .taken_motion (fun u => ?_)⟩
  repeat' split
  all_goals simp [State.openGet]

theorem execMoveCheck_modeKept (slot : Nat) (e : Option Nat) :
    ∃ t, execMoveCheck l slot e s = .next t ∧ s.ModeKept t := by
  refine ⟨_, rfl, .taken_motion (fun u => ?_)⟩
  repeat' split
  all_goals simp

theorem execAxisGet_modeKept (axis : Nat) : ∃ t, execAxisGet l axis s = .next t ∧ s.ModeKept t := by
  refine ⟨_, rfl, .taken_motion (fun u => ?_)⟩
  split <;> simp

theorem execReset_modeKept : ∃ t, execReset l s = .next t ∧ s.ModeKept t := by
  refine ⟨_, rfl, .taken (fun u => ?_)⟩
  unfold State.takeReset
  dsimp only
  split
  · exact fun _ => .inl (State.softReset_atRest _)
  · exact .of_motion (u.onLink_motion l _)

theorem execSupplySet_modeKept (level action : Nat) :
    ∃ t, execSupplySet l level action s = .next t ∧ s.ModeKept t := by
  refine ⟨_, rfl, .taken (fun u => ?_)⟩
  split
  · exact State.refuse_modeKept _
  split
  · exact State.refuse_modeKept _
  · exact (State.setSupply_modeKept _ _).ok _

end

/-! ### The events -/

section
variable (s : State) (a : AxisId)

theorem State.finishIf_modeKept (f : EditRun → Bool) : s.ModeKept (s.finishIf f) := by
  unfold State.finishIf
  split
  · split
    · exact State.finishEdit_modeKept
    · exact .refl s
  · exact .refl s

theorem State.softResetMoment_modeKept : s.ModeKept s.softResetMoment := by
  unfold State.softResetMoment
  split
  · exact .refl s
  · split <;> exact fun _ => .inl (State.softReset_atRest _)

theorem execDriveSettleEnd_modeKept : ∃ t, execDriveSettleEnd a s = .next t ∧ s.ModeKept t := by
  refine ⟨_, rfl, ?_⟩
  split
  · exact .ite _ (fun _ => .of_signals (s.onAxis_signals _ _))
  all_goals exact .refl s

theorem execExposureTimeEnd_modeKept : ∃ t, execExposureTimeEnd s = .next t ∧ s.ModeKept t := by
  refine ⟨_, rfl, ?_⟩
  split
  · exact .refl s
  · split
    · exact .ite _ (fun _ => State.tickPass_modeKept)
    · exact .refl s

theorem execExposureTimeout_modeKept : ∃ t, execExposureTimeout s = .next t ∧ s.ModeKept t := by
  refine ⟨_, rfl, ?_⟩
  split
  · exact .refl s
  · split
    · exact .ite _ (fun _ => State.tickPass_modeKept)
    · exact .refl s

theorem State.exposing_state {r : PassRecord} {f : StepFields} (h : s.exposing = some (r, f)) :
    s.pass.state = .exposing := by
  unfold State.exposing at h
  split at h
  · assumption
  · cases h

theorem execExposureDoneEdge_modeKept : ∃ t, execExposureDoneEdge s = .next t ∧ s.ModeKept t := by
  refine ⟨_, rfl, ?_⟩
  split
  · exact .refl s
  · next r f h =>
    split
    · have hstep : s.pass.state.inStep = true := by
        rw [s.exposing_state h]
        rfl
      exact fun hm => (hm.inStep hstep).toStepRun.exposureCompleted r f
    · exact .refl s

theorem execRollTriggerEdge_modeKept : ∃ t, execRollTriggerEdge s = .next t ∧ s.ModeKept t := by
  refine ⟨_, rfl, ?_⟩
  split
  · exact .refl s
  · refine .ite _ (fun h => ?_)
    obtain ⟨hst, hmode, -⟩ := State.triggerRolls_iff.1 h
    exact s.roll_modeKept hst hmode

theorem execStepAdvanceEdge_modeKept : ∃ t, execStepAdvanceEdge s = .next t ∧ s.ModeKept t := by
  refine ⟨_, rfl, ?_⟩
  split
  · exact .refl s
  · next r _ =>
    split
    · exact .refl s
    · refine .ite _ (fun h => ?_)
      simp only [Bool.and_eq_true, decide_eq_true_eq] at h
      exact State.askSteps_modeKept r _ 1 _ (State.stepRefusal_takesSteps r h.2)

theorem State.supplyRead_modeKept (n : Nat) : s.ModeKept ({ s with supplyTenths := n } : State).compareSupply :=
  State.ModeKept.trans (t := { s with supplyTenths := n }) (.of_signals rfl) State.compareSupply_modeKept

end

/-- Every command answers a next state in which clock, outputs, report and pass state agree, if they did before. -/
theorem exec_modeKept (i : Instr) (s : State) : ∃ t, exec i s = .next t ∧ s.ModeKept t := by
  have hedit : ∀ l c, s.ModeKept (s.taken l (fun t => t.storeEdit l c)) :=
    fun l c => .taken_motion (fun u => u.storeEdit_motion l c)
  have hpass : ∀ b : Bool, s.ModeKept (if b = true then s.tickPass else s) :=
    fun b => .ite _ (fun _ => State.tickPass_modeKept)
  have hpark : ∀ b : Bool, s.ModeKept (if b = true then s.tickPark else s) :=
    fun b => .ite _ (fun _ => .of_signals s.tickPark_signals)
  have hhome : ∀ (a : AxisId) (b : Bool), s.ModeKept (if b = true then s.tickHome a else s) :=
    fun a b => .ite _ (fun _ => .of_signals (s.tickHome_signals a))
  cases i with
  | hardReset => exact ⟨_, rfl, fun _ => .inl s.hardReset_atRest⟩
  | initializationEnd => exact ⟨_, rfl, .of_motion s.initializationEnds_motion⟩
  | softReset => exact ⟨_, rfl, s.softResetMoment_modeKept⟩
  | status l => exact ⟨_, rfl, .of_motion (by simp)⟩
  | eventsRead l => exact ⟨_, rfl, .of_motion (by simp)⟩
  | eventsMask l mask => exact ⟨_, rfl, .taken_motion (fun u => by simp [State.okEvents])⟩
  | eventsClear l kinds => exact execEventsClear_modeKept l s kinds
  | crcMode l mode => exact execCrcMode_modeKept l s mode
  | reset l => exact execReset_modeKept l s
  | faultStatus l => exact ⟨_, rfl, .taken_motion (fun u => u.ok_motion l _)⟩
  | moveInfo l slot => exact execMoveInfo_modeKept l s slot
  | keysGet l slot track => exact execKeysGet_modeKept l s slot track
  | moveNew l slot first last label exp => exact ⟨_, rfl, hedit l _⟩
  | moveSpan l slot first last exp => exact ⟨_, rfl, hedit l _⟩
  | moveLabel l slot label exp => exact ⟨_, rfl, hedit l _⟩
  | keysPut l slot track exp => exact ⟨_, rfl, hedit l _⟩
  | keyMarkFirst l slot track frame exp => exact ⟨_, rfl, hedit l _⟩
  | keyMarkLast l frame exp => exact ⟨_, rfl, hedit l _⟩
  | keyDrop l exp => exact ⟨_, rfl, hedit l _⟩
  | trackClear l slot track exp => exact ⟨_, rfl, hedit l _⟩
  | moveCopy l src dst exp => exact ⟨_, rfl, hedit l _⟩
  | moveRetire l slot exp => exact ⟨_, rfl, hedit l _⟩
  | moveProtect l slot exp => exact ⟨_, rfl, hedit l _⟩
  | moveUnprotect l slot exp => exact ⟨_, rfl, hedit l _⟩
  | moveCheck l slot exp => exact execMoveCheck_modeKept l s slot exp
  | axisSet l axis rec => exact execAxisSet_modeKept l s axis rec
  | axisGet l axis => exact execAxisGet_modeKept l s axis
  | axisEnable l axis => exact execAxisEnable_modeKept l s axis
  | axisDisable l axis => exact execAxisDisable_modeKept l s axis
  | axisHome l axis => exact execAxisHome_modeKept l s axis
  | axisPark l targets => exact execAxisPark_modeKept l s targets
  | axisStop l axis => exact execAxisStop_modeKept l s axis
  | passArm l args => exact execPassArm_modeKept l s args
  | passGoStart l => exact execPassGoStart_modeKept l s
  | passRun l => exact execPassRun_modeKept l s
  | passHold l => exact execPassHold_modeKept l s
  | passResume l => exact execPassResume_modeKept l s
  | passAbort l => exact execPassAbort_modeKept l s
  | passDisarm l => exact execPassDisarm_modeKept l s
  | passStep l count direction => exact execPassStep_modeKept s l count direction
  | passExpose l => exact execPassExpose_modeKept s l
  | passStatus l => exact ⟨_, rfl, .taken_motion (fun u => u.ok_motion l _)⟩
  | clockStatus l => exact ⟨_, rfl, .taken_motion (fun u => u.ok_motion l _)⟩
  | supplySet l level action => exact execSupplySet_modeKept l s level action
  | commandFrameRejected l bytes => exact ⟨_, rfl, .of_motion (s.selection_motion l bytes)⟩
  | dataBlock l bytes => exact ⟨_, rfl, .of_motion (s.selection_motion l bytes)⟩
  | endMarker l => exact ⟨_, rfl, .of_motion (s.endMarkerSelected_motion l)⟩
  | collectRequest l => exact ⟨_, rfl, .of_motion (s.collectSelected_motion l)⟩
  | linkDeselect l => exact ⟨_, rfl, .of_motion (s.deselect_motion l)⟩
  | dataBlockApplied => exact ⟨_, rfl, s.finishIf_modeKept _⟩
  | keyDropEnd => exact ⟨_, rfl, s.finishIf_modeKept _⟩
  | trackClearEnd => exact ⟨_, rfl, s.finishIf_modeKept _⟩
  | moveCopyEnd => exact ⟨_, rfl, s.finishIf_modeKept _⟩
  | moveRetireEnd => exact ⟨_, rfl, s.finishIf_modeKept _⟩
  | checkEnd => exact ⟨_, rfl, .of_motion s.endCheck_motion⟩
  | servoTick => exact ⟨_, rfl, State.servoTick_modeKept⟩
  | driveSettleEnd axis => exact execDriveSettleEnd_modeKept s axis
  | putTransferTimeout l => exact ⟨_, rfl, .ite _ (fun _ => .of_motion (s.transferTimesOut_motion l))⟩
  | getTransferTimeout l => exact ⟨_, rfl, .ite _ (fun _ => .of_motion (s.transferTimesOut_motion l))⟩
  | parkEaseEnd => exact ⟨_, rfl, hpark _⟩
  | parkStopAtRest => exact ⟨_, rfl, hpark _⟩
  | approachEaseEnd =>
    exact ⟨_, rfl, .ite _ (fun h => State.tickApproach_modeKept (State.approachEaseDue_approaching h))⟩
  | approachStopAtRest =>
    exact ⟨_, rfl, .ite _ (fun h => State.tickApproach_modeKept (State.approachRestDue_approaching h))⟩
  | homeBrakingAtRest axis => exact ⟨_, rfl, hhome axis _⟩
  | homeFinishingAtRest axis => exact ⟨_, rfl, hhome axis _⟩
  | homeStopReached axis => exact ⟨_, rfl, .ite _ (fun _ => .of_signals (s.stopReached_signals axis))⟩
  | homeTravelExceeded axis => exact ⟨_, rfl, hhome axis _⟩
  | homeAbandonAtRest axis => exact ⟨_, rfl, hhome axis _⟩
  | holdRampEnd => exact ⟨_, rfl, hpass _⟩
  | resumeRampEnd => exact ⟨_, rfl, hpass _⟩
  | stopRampEnd => exact ⟨_, rfl, hpass _⟩
  | syncLossTimeout => exact ⟨_, rfl, .ite _ (fun _ => .of_signals s.loseSync_signals)⟩
  | lockTimeout => exact ⟨_, rfl, .ite _ (fun _ => .of_signals s.loseLock_signals)⟩
  | stepEaseEnd => exact ⟨_, rfl, hpass _⟩
  | stepSettleEnd => exact ⟨_, rfl, hpass _⟩
  | exposureTimeEnd => exact execExposureTimeEnd_modeKept s
  | exposureTimeout => exact execExposureTimeout_modeKept s
  | cameraFrameEdge offset => exact ⟨_, rfl, State.cameraEdge_modeKept _⟩
  | rollTriggerEdge => exact execRollTriggerEdge_modeKept s
  | stepAdvanceEdge => exact execStepAdvanceEdge_modeKept s
  | exposureDoneEdge => exact execExposureDoneEdge_modeKept s
  | estopAssert =>
    refine ⟨_, rfl, ?_⟩
    split
    · exact .refl s
    · exact State.estopAsserted_modeKept
  | estopRelease => exact ⟨_, rfl, .ite _ (fun _ => .of_signals rfl)⟩
  | supplyMonitorLow tenths => exact ⟨_, rfl, s.supplyRead_modeKept tenths⟩
  | supplyMonitorOk tenths => exact ⟨_, rfl, s.supplyRead_modeKept tenths⟩
  | homeSwitchAssert axis =>
    refine ⟨_, rfl, ?_⟩
    split
    · exact .refl s
    · exact .of_signals (s.onAxis_signals _ _)
  | homeSwitchRelease axis => exact ⟨_, rfl, .ite _ (fun _ => .of_signals (s.onAxis_signals _ _))⟩
  | encoderTransition axis positive => exact ⟨_, rfl, .of_signals (s.onAxis_signals _ _)⟩
  | getDataBlockSent l => exact ⟨_, rfl, .of_motion (s.blockSent_motion l)⟩

/-- Settles O55. The part is at rest, in a run or in a STEP run; what begins or ends a run writes the clock, the outputs,
the report and the pass state together, and every other operation leaves them, or goes from one state of a run to
another. -/
theorem outputsStayInAgreement : Obligations.OutputsStayInAgreement := by
  intro s t ho hr hs
  refine ⟨?_, State.recordAgrees_invariant.step hs hr⟩
  rw [State.outputsAgree_iff] at ho ⊢
  unfold Machine.step at hs
  split at hs
  · cases hs
    exact ho
  · next c rest _ =>
    obtain ⟨u, hu, hk⟩ := exec_modeKept c (s.withPending rest)
    rw [hu] at hs
    cases hs
    exact hk (State.ModeKept.of_signals (s := s) rfl ho)

end Sys2Proof.Machine
end

section
/-! SUPPORT. PASS_STEP and the step advance edge (R152, R153): the tests in order, and what steps that are taken do to
the pass and the clock (R151, R154). -/

namespace Sys2Proof.Machine

variable {s : State} {l : LinkId} {r : PassRecord} {f : StepFields} {n : Nat} {d : Direction}

/-! ### The pass states of the tests -/

theorem PassState.stepInHand_iff (p : PassState) :
    p.stepInHand = true ↔ p = .stepMoving ∨ p = .stepSettling ∨ p = .exposing := by
  cases p <;> simp [PassState.stepInHand]

theorem PassState.standing_iff (p : PassState) : p.standing = true ↔ p = .atStart ∨ p = .stepReady := by
  cases p <;> simp [PassState.standing]

theorem PassState.takesSteps_iff (p : PassState) :
    p.takesSteps = true ↔ p.stepInHand = true ∨ p.standing = true := by
  cases p <;> simp [PassState.takesSteps, PassState.stepInHand, PassState.standing]

/-! ### Frames ahead -/

theorem stepFrom_eq (d : Direction) (x : Int) (n : Nat) :
    stepFrom d x n = if d = .forward then x + n else x - n := by
  cases d <;> rfl

theorem stepFrom_stepFrom (d : Direction) (x : Int) (m n : Nat) :
    stepFrom d (stepFrom d x m) n = stepFrom d x (m + n) := by
  cases d <;> simp only [stepFrom, Direction.move] <;> omega

theorem Stepping.committed_of_direction {t : Stepping} (h : t.direction = some d) (start : Int) :
    t.committed start = stepFrom d (t.destination.getD start) t.pending := by
  rw [Stepping.committed, h]

/-- Where none is pending or in hand against it, the committed frame is counted in the direction asked for. -/
theorem Stepping.committed_of_agrees {t : Stepping} (start : Int) (hnone : t.direction = none → t.pending = 0)
    (h : t.pending = 0 ∨ t.against d = false) :
    t.committed start = stepFrom d (t.destination.getD start) t.pending := by
  unfold Stepping.committed
  cases hd : t.direction with
  | none => rw [hnone hd]; cases d <;> simp [stepFrom, Direction.move]
  | some e =>
    rcases h with h | h
    · rw [h]; cases e <;> cases d <;> simp [stepFrom, Direction.move]
    · have he : e = d := by simpa [Stepping.against, hd] using h
      rw [he]

/-! ### The tests of R152, in order -/

theorem Stepping.against_iff (t : Stepping) (d : Direction) :
    t.against d = true ↔ ∃ e, t.direction = some e ∧ e ≠ d := by
  cases h : t.direction <;> simp [Stepping.against, h]

/-- Test 6: a direction against the steps in hand. -/
def State.stepsOppose (s : State) (d : Direction) : Bool :=
  (s.pass.state.stepInHand || decide (0 < s.pass.stepping.pending)) && s.pass.stepping.against d

/-- Test 8: the committed frame would leave the pass range. -/
def State.stepsLeave (s : State) (r : PassRecord) (n : Nat) (d : Direction) : Bool :=
  !r.inRange (stepFrom d (s.pass.stepping.committed r.startFrame) n)

theorem State.stepsOppose_iff : s.stepsOppose d = true ↔
    (s.pass.state.stepInHand = true ∨ 0 < s.pass.stepping.pending) ∧
      ∃ e, s.pass.stepping.direction = some e ∧ e ≠ d := by
  rw [State.stepsOppose, Bool.and_eq_true, Bool.or_eq_true, decide_eq_true_eq, Stepping.against_iff]

theorem State.stepsLeave_iff : s.stepsLeave r n d = true ↔
    stepFrom d (s.pass.stepping.committed r.startFrame) n < r.first ∨
      r.last < stepFrom d (s.pass.stepping.committed r.startFrame) n := by
  simp only [State.stepsLeave, PassRecord.inRange, Bool.not_eq_true', decide_eq_false_iff_not]
  omega

theorem State.stepRefusal_eq : s.stepRefusal r n d =
    if r.mode ≠ .step then some .mode
    else if ¬ s.pass.state.takesSteps = true then some .state
    else if s.pass.stepping.abortRequested = true ∨ s.stepsOppose d = true then some .state
    else if 255 < s.pass.stepping.pending + n ∨ s.stepsLeave r n d = true then some .range
    else none := by
  rw [ite_or, ite_or]
  simp only [State.stepRefusal, State.stepsOppose, State.stepsLeave, Bool.not_eq_true', Bool.not_eq_true]

theorem State.stepRefusal_eq_none_iff (hm : r.mode = .step) : s.stepRefusal r n d = none ↔
    s.pass.state.takesSteps = true ∧ ¬ s.pass.stepping.abortRequested = true ∧ ¬ s.stepsOppose d = true ∧
      ¬ 255 < s.pass.stepping.pending + n ∧ ¬ s.stepsLeave r n d = true := by
  rw [State.stepRefusal_eq, if_neg (not_not.2 hm)]
  simp only [ite_eq_iff, reduceCtorEq, and_false, false_or, and_true, not_not, not_or, and_assoc]

theorem State.stepRefusal_deselect : (s.deselect l).stepRefusal r n d = s.stepRefusal r n d := by
  simp only [State.stepRefusal, State.deselect_pass]

/-! ### The command and the edge -/

section
variable (hs : s.phase = .serving)
include hs

theorem exec_passStep_refused {code : Nat} (h : s.pass.record = none ∨ s.pass.state = .idle) :
    exec (.passStep l n code) s = .next ((s.deselect l).refuse l .state) := by
  show execPassStep l n code s = _
  rw [execPassStep, State.taken_serving s l hs, State.deselect_pass]
  cases hr : s.pass.record with
  | none => rfl
  | some r => exact congrArg Host.Outcome.next (if_pos (h.resolve_left (by simp [hr])))

variable (hr : s.pass.record = some r) (hidle : s.pass.state ≠ .idle)
include hr hidle

theorem exec_passStep_range {code : Nat} (h : n = 0 ∨ 255 < n ∨ 1 < code) :
    exec (.passStep l n code) s = .next ((s.deselect l).refuse l .range) := by
  show execPassStep l n code s = _
  rw [execPassStep, State.taken_serving s l hs, State.deselect_pass, hr]
  dsimp only
  rw [if_neg hidle]
  cases hd : directionOf code with
  | none => rfl
  | some d =>
    have hcode := (directionOf_eq_some.1 hd).1
    exact congrArg Host.Outcome.next (if_neg (by omega))

theorem exec_passStep_taken {code : Nat} (h1 : 1 ≤ n) (h2 : n ≤ 255) (hd : directionOf code = some d) :
    exec (.passStep l n code) s = .next ((s.deselect l).takeSteps l r n d) := by
  show execPassStep l n code s = _
  rw [execPassStep, State.taken_serving s l hs, State.deselect_pass, hr, hd]
  dsimp only
  rw [if_neg hidle, if_pos ⟨h1, h2⟩]

end

theorem State.takeSteps_refused {w : Reason} (h : s.stepRefusal r n d = some w) :
    (s.deselect l).takeSteps l r n d = (s.deselect l).refuse l w := by
  rw [State.takeSteps, State.stepRefusal_deselect, h]

theorem State.takeSteps_accepted (h : s.stepRefusal r n d = none) (hf : r.step = some f) :
    (s.deselect l).takeSteps l r n d =
      ((s.deselect l).askSteps r f n d).ok l (((s.deselect l).askSteps r f n d).steppingResults r d) := by
  rw [State.takeSteps, State.stepRefusal_deselect, h, hf]

theorem exec_stepAdvanceEdge_of_none (hr : s.pass.record = none) : exec .stepAdvanceEdge s = .next s := by
  show execStepAdvanceEdge s = _
  rw [execStepAdvanceEdge, hr]

section
variable (hr : s.pass.record = some r)
include hr

theorem exec_stepAdvanceEdge (hf : r.step = some f) :
    exec .stepAdvanceEdge s = .next (
      if f.inputEnable = true ∧ s.stepRefusal r 1 r.direction = none then s.askSteps r f 1 r.direction else s) := by
  show execStepAdvanceEdge s = _
  rw [execStepAdvanceEdge, hr]
  simp only [hf, Bool.and_eq_true, decide_eq_true_eq]

theorem exec_stepAdvanceEdge_notStep (hm : r.mode ≠ .step) : exec .stepAdvanceEdge s = .next s := by
  cases hf : r.step with
  | none =>
    show execStepAdvanceEdge s = _
    simp only [execStepAdvanceEdge, hr, hf]
  | some f =>
    rw [exec_stepAdvanceEdge hr hf, State.stepRefusal_eq, if_pos hm, if_neg (by simp)]

end

/-! ### What steps that are taken leave -/

theorem State.askSteps_inHand (h : s.pass.state.stepInHand = true) :
    s.askSteps r f n d = s.withPass { s.pass with stepping := { s.pass.stepping with
      pending := s.pass.stepping.pending + n, direction := some d } } := by
  have hstart : s.pass.state ≠ .atStart := fun e => by simp [e, PassState.stepInHand] at h
  have hstand : ¬ s.pass.state.standing = true := by
    rcases (PassState.stepInHand_iff _).1 h with e | e | e <;> simp [e, PassState.standing]
  rw [State.askSteps, if_neg hstart, if_neg hstand]
  rfl

/-- The pass as its first step begins at phase `p`, with `x` its stepping state before. -/
def Stepping.begun (x : Stepping) (p : Int) (f : StepFields) (n : Nat) (d : Direction) : Stepping :=
  { x with
    pending := x.pending + n - 1, direction := some d
    destination := x.destination.map (fun y => stepFrom d y 1)
    ease := some { start := p, dist := d.move 0 puPerFrame, duration := f.stepTime, elapsed := 0 } }

theorem State.askSteps_stepReady (h : s.pass.state = .stepReady) :
    s.askSteps r f n d = s.withPass { s.pass with
      state := .stepMoving, stepping := s.pass.stepping.begun s.clock.phase f n d } := by
  have hstart : s.pass.state ≠ .atStart := by simp [h]
  have hstand : s.pass.state.standing = true := by rw [h]; rfl
  rw [State.askSteps, if_neg hstart, if_pos hstand]
  rfl

theorem State.askSteps_atStart (h : s.pass.state = .atStart) :
    s.askSteps r f n d = { s.clearReport r with
      clock := s.clock.place r
      pass := { s.pass with
        state := .stepMoving, report := .cleared r, cameraRun := true
        stepping := ({ s.pass.stepping with destination := some r.startFrame } : Stepping).begun
          (r.startFrame * puPerFrame) f n d } } := by
  have hstand : s.pass.state.standing = true := by rw [h]; rfl
  rw [State.askSteps, if_pos h, if_pos hstand]
  rfl

/-- Once the run has begun steps write the pass alone. -/
theorem State.askSteps_begun (h : s.pass.state ≠ .atStart) :
    s.askSteps r f n d = s.withPass (s.askSteps r f n d).pass := by
  rw [State.askSteps, if_neg h]
  split <;> rfl

theorem State.askSteps_axes (h : s.pass.state ≠ .atStart) : (s.askSteps r f n d).axes = s.axes :=
  (congrArg State.axes (State.askSteps_begun h) :)

/-- Steps write the pass, the clock and the axes alone. -/
theorem State.askSteps_eq : s.askSteps r f n d = { s with
    pass := (s.askSteps r f n d).pass
    clock := (s.askSteps r f n d).clock
    axes := (s.askSteps r f n d).axes } := by
  by_cases h : s.pass.state = .atStart
  · rw [State.askSteps_atStart h]
    rfl
  · rw [State.askSteps_begun h]
    rfl

/-- A deselection before them changes nothing of what steps do. -/
theorem State.askSteps_deselect : (s.deselect l).askSteps r f n d = (s.askSteps r f n d).deselect l := by
  by_cases h : s.pass.state = .atStart
  · rw [State.askSteps_atStart h, State.askSteps_atStart (by rwa [State.deselect_pass])]
    cases l <;> rfl
  · rw [State.askSteps, State.askSteps, State.deselect_pass, if_neg h, if_neg h]
    cases l <;> split <;> rfl

theorem State.askSteps_link (k : LinkId) : (s.askSteps r f n d).link k = s.link k := by
  rw [State.askSteps_eq]
  cases k <;> rfl

theorem State.clearReport_axis (a : AxisId) :
    (s.clearReport r).axis a = { s.axis a with softClamp := false, pulseClamp := false } := by
  rw [State.clearReport, State.onAxes_axis, State.withPass_axis]

/-- After steps are taken the step direction is the one asked for. -/
theorem State.askSteps_direction (h : s.pass.state.takesSteps = true) :
    (s.askSteps r f n d).pass.stepping.direction = some d := by
  rcases (PassState.takesSteps_iff _).1 h with h | h
  · rw [State.askSteps_inHand h]; rfl
  rcases (PassState.standing_iff _).1 h with h | h
  · rw [State.askSteps_atStart h]; rfl
  · rw [State.askSteps_stepReady h]; rfl

/-- The step that begins takes one from the pending count and adds one to the destination. -/
theorem Stepping.begun_committed {x : Stepping} {y : Int} (hx : x.destination = some y) (p start : Int) (h1 : 1 ≤ n) :
    (x.begun p f n d).committed start = stepFrom d y (x.pending + n) := by
  rw [Stepping.committed_of_direction (d := d) rfl]
  simp only [Stepping.begun, hx, Option.map_some, Option.getD_some, stepFrom_stepFrom]
  congr 1
  omega

/-- Steps that are taken move the committed frame on by their count. -/
theorem State.askSteps_committed (h : s.pass.state.takesSteps = true) (h1 : 1 ≤ n) (hopp : ¬ s.stepsOppose d = true)
    (hnone : s.pass.stepping.direction = none → s.pass.stepping.pending = 0)
    (hstart : s.pass.state = .atStart → s.pass.stepping.destination = none)
    (hdest : s.pass.state ≠ .atStart → s.pass.stepping.destination.isSome = true) :
    (s.askSteps r f n d).pass.stepping.committed r.startFrame =
      stepFrom d (s.pass.stepping.committed r.startFrame) n := by
  have hagrees : s.pass.stepping.pending = 0 ∨ s.pass.stepping.against d = false := by
    by_contra hc
    rw [not_or, Bool.not_eq_false] at hc
    exact hopp (by simp [State.stepsOppose, hc.2, Nat.pos_of_ne_zero hc.1])
  rw [Stepping.committed_of_agrees _ hnone hagrees, stepFrom_stepFrom]
  rcases (PassState.takesSteps_iff _).1 h with h | h
  · rw [State.askSteps_inHand h]; rfl
  rcases (PassState.standing_iff _).1 h with h | h
  · rw [State.askSteps_atStart h, hstart h]
    exact Stepping.begun_committed rfl _ _ h1
  · obtain ⟨y, hy⟩ := Option.isSome_iff_exists.1 (hdest (by simp [h]))
    rw [State.askSteps_stepReady h, hy]
    exact Stepping.begun_committed hy _ _ h1

end Sys2Proof.Machine
end

section
/-! SUPPORT. O42: the tests of R152 and what steps that are taken leave, in the terms of the statement. -/

namespace Sys2Proof.Machine

variable {s : State} {l : LinkId} {r : PassRecord} {f : StepFields} {n : Nat} {d : Direction}

theorem Stepping.begun_eq (x : Stepping) (p : Int) : x.begun p f n d = { x with
    pending := x.pending + n - 1, direction := some d
    destination := x.destination.map (fun y => if d = .forward then y + 1 else y - 1)
    ease := some { start := p, dist := (if d = .forward then 65536 else -65536), duration := f.stepTime, elapsed := 0 } } := by
  cases d <;> rfl

theorem directionOf_code (d : Direction) : directionOf (if d = .forward then 0 else 1) = some d := by cases d <;> rfl

/-- The answered PASS_STEP: the steps taken, and their answer on the link that asked. -/
def State.stepsAnswered (s : State) (l : LinkId) (r : PassRecord) (f : StepFields) (n : Nat) (d : Direction) : State :=
  ((s.askSteps r f n d).deselect l).ok l ((s.askSteps r f n d).steppingResults r d)

theorem exec_passStep_accepted (hs : s.phase = .serving) (hr : s.pass.record = some r) (hf : r.step = some f)
    (hidle : s.pass.state ≠ .idle) {code : Nat} (h1 : 1 ≤ n) (h2 : n ≤ 255) (hd : directionOf code = some d)
    (h : s.stepRefusal r n d = none) : exec (.passStep l n code) s = .next (s.stepsAnswered l r f n d) := by
  rw [exec_passStep_taken hs hr hidle h1 h2 hd, State.takeSteps_accepted h hf, State.askSteps_deselect,
    State.stepsAnswered]
  simp only [State.steppingResults, State.deselect_pass]

theorem State.stepsAnswered_but_motion : { s.stepsAnswered l r f n d with
    pass := (s.deselect l).pass, clock := (s.deselect l).clock, axes := (s.deselect l).axes
    linkA := (s.deselect l).linkA, linkB := (s.deselect l).linkB } = s.deselect l := by
  rw [State.stepsAnswered, State.askSteps_eq]
  cases l <;> rfl

theorem State.stepsAnswered_link : (s.stepsAnswered l r f n d).link l.other = s.link l.other ∧
    (s.stepsAnswered l r f n d).link l = { (s.deselect l).link l with
      answer := some (.response { illegal := false, frame := false, refused := false, rangeReset := false } .none
        ((s.askSteps r f n d).steppingResults r d)) } := by
  have hlink := s.askSteps_link (r := r) (f := f) (n := n) (d := d)
  constructor
  · exact (State.answer_link_other ..).trans ((State.deselect_link_other ..).trans (hlink _))
  · refine (State.answer_link ..).trans ?_
    rw [State.deselect_link, State.deselect_link, hlink]

/-- Settles O42: the tests of R152 as a chain, and what steps leave by whether one is in hand, the pass is STEP_READY, or
the run begins. -/
theorem stepsAreAskedForAndBegin : Obligations.StepsAreAskedForAndBegin := by
  unfold Obligations.StepsAreAskedForAndBegin
  refine ⟨fun s l n code hs => ⟨exec_passStep_refused hs, fun r hr hidle => ⟨exec_passStep_range hs hr hidle, ?_⟩⟩,
    fun s hr => exec_stepAdvanceEdge_of_none hr, fun s r hr hm => exec_stepAdvanceEdge_notStep hr hm,
    fun s r f hr hm hf => ?_⟩
  · intro h1 h2 hcode hm
    rw [exec_passStep_taken hs hr hidle h1 h2 (directionOf_eq_some.2 ⟨hcode, rfl⟩),
      State.takeSteps_refused (by rw [State.stepRefusal_eq, if_pos hm])]
  · intro q busy standing base committed goal t4 t5 t6 t7 t8 after kept
    have hbusy : busy ↔ s.pass.state.stepInHand = true := (PassState.stepInHand_iff _).symm
    have hstanding : standing ↔ s.pass.state.standing = true := (PassState.standing_iff _).symm
    have h4 : t4 ↔ ¬ s.pass.state.takesSteps = true := by
      simp only [t4, PassState.takesSteps_iff, hbusy, hstanding, not_or]
    have h6 : ∀ d, t6 d ↔ s.stepsOppose d = true := fun d => by
      simp only [t6, hbusy, State.stepsOppose_iff, q]
    have hcommitted : committed = q.committed r.startFrame := by
      simp only [committed, base, Stepping.committed]
      cases q.direction with
      | none => rfl
      | some e => cases e <;> rfl
    have hgoal : ∀ n d, goal n d = stepFrom d (q.committed r.startFrame) n := fun n d => by
      rw [stepFrom_eq, ← hcommitted]
    have h8 : ∀ n d, t8 n d ↔ s.stepsLeave r n d = true := fun n d => by
      simp only [t8, hgoal, State.stepsLeave_iff, q]
    have hnone : ∀ n d, s.stepRefusal r n d = none ↔ ¬t4 ∧ ¬t5 ∧ ¬t6 d ∧ ¬t7 n ∧ ¬t8 n d := fun n d => by
      rw [State.stepRefusal_eq_none_iff hm, h4, h6, h8, not_not]
    have hafter : ∀ n d (t : State), t.pass = (s.askSteps r f n d).pass →
        t.clock = (s.askSteps r f n d).clock → after t n d := by
      intro n d t hpass hclock
      simp only [after, hpass, hclock]
      refine ⟨fun h => ?_, fun h => ?_, fun h => ?_⟩
      · rw [State.askSteps_inHand (hbusy.1 h)]
        exact ⟨rfl, rfl⟩
      · rw [State.askSteps_stepReady h, Stepping.begun_eq]
        exact ⟨rfl, rfl⟩
      · rw [State.askSteps_atStart h, Stepping.begun_eq]
        exact ⟨rfl, rfl, rfl, rfl, rfl, rfl, rfl, rfl, rfl, rfl, rfl, rfl, rfl⟩
    have hkept : ∀ n d (t : State), t.pass = (s.askSteps r f n d).pass → t.axes = (s.askSteps r f n d).axes →
        (s.pass.state = .atStart → (∀ a, t.axis a = { s.axis a with softClamp := false, pulseClamp := false }) ∧
          { t.pass with state := s.pass.state, report := s.pass.report, cameraRun := s.pass.cameraRun,
                        stepping := q } = s.pass) ∧
        (s.pass.state ≠ .atStart → t.axes = s.axes) := by
      intro n d t hpass haxes
      refine ⟨fun h => ⟨fun a => ?_, ?_⟩, fun h => haxes.trans (State.askSteps_axes h)⟩
      · rw [State.axis, haxes, State.askSteps_atStart h]
        exact State.clearReport_axis (s := s) a
      · rw [hpass, State.askSteps_atStart h]
    refine ⟨fun l n d hs h1 h2 => ?_, ?_⟩
    · intro code refused
      have htaken : s.pass.state ≠ .idle →
          exec (.passStep l n code) s = .next ((s.deselect l).takeSteps l r n d) :=
        fun hidle => exec_passStep_taken hs hr hidle h1 h2 (directionOf_code d)
      have hrefused : ∀ why, s.pass.state ≠ .idle → s.stepRefusal r n d = some why → refused why :=
        fun why hidle h => (htaken hidle).trans (congrArg _ (State.takeSteps_refused h))
      have hactive : ¬t4 → s.pass.state ≠ .idle := fun h hidle => h (h4.2 (by simp [hidle, PassState.takesSteps]))
      refine ⟨fun hidle h => hrefused _ hidle ?_, fun ht4 h => hrefused _ (hactive ht4) ?_,
        fun ht4 ht5 ht6 h => hrefused _ (hactive ht4) ?_, fun ht4 ht5 ht6 ht7 ht8 => ⟨_, exec_passStep_accepted hs hr hf
          (hactive ht4) h1 h2 (directionOf_code d) ((hnone n d).2 ⟨ht4, ht5, ht6, ht7, ht8⟩), ?_⟩⟩
      · rw [State.stepRefusal_eq, if_neg (not_not.2 hm), if_pos (h4.1 h)]
      · rw [State.stepRefusal_eq, if_neg (not_not.2 hm), if_neg (mt h4.2 ht4), if_pos (h.imp_right (h6 d).1)]
      · rw [State.stepRefusal_eq, if_neg (not_not.2 hm), if_neg (mt h4.2 ht4),
          if_neg (not_or.2 ⟨ht5, mt (h6 d).2 ht6⟩), if_pos (h.imp_right (h8 n d).1)]
      · have hpass : (s.stepsAnswered l r f n d).pass = (s.askSteps r f n d).pass := by simp [State.stepsAnswered]
        have hclock : (s.stepsAnswered l r f n d).clock = (s.askSteps r f n d).clock := by simp [State.stepsAnswered]
        have haxes : (s.stepsAnswered l r f n d).axes = (s.askSteps r f n d).axes := by simp [State.stepsAnswered]
        have htakes : s.pass.state.takesSteps = true := not_not.1 (mt h4.2 ht4)
        have hdir := s.askSteps_direction (r := r) (f := f) (n := n) (d := d) htakes
        obtain ⟨hother, hlink⟩ := s.stepsAnswered_link (l := l) (r := r) (f := f) (n := n) (d := d)
        refine ⟨hafter n d _ hpass hclock, ⟨State.stepsAnswered_but_motion, hkept n d _ hpass haxes⟩, hother, ?_, ?_⟩
        · rw [hlink, State.deselect_link]
        · intro dest c
          have hc : c = (s.askSteps r f n d).pass.stepping.committed r.startFrame := by
            rw [Stepping.committed_of_direction hdir, stepFrom_eq, ← hpass]
          refine ⟨?_, fun hpending hstart hdest => ?_⟩
          · rw [hlink, hc, hpass, State.steppingResults]
          · rw [hc, hgoal]
            exact State.askSteps_committed htakes h1 (mt (h6 d).2 ht6) hpending hstart hdest
    · intro d taken
      refine ⟨fun h => ⟨s.askSteps r f 1 d, ?_, hafter 1 d _ rfl rfl, ⟨?_, hkept 1 d _ rfl rfl⟩,
        fun l => State.askSteps_link l⟩, fun h => ?_⟩
      · rw [exec_stepAdvanceEdge hr hf, if_pos (h.imp_right (hnone 1 d).2)]
      · rw [State.askSteps_eq]
      · rw [exec_stepAdvanceEdge hr hf, if_neg (mt (And.imp_right (hnone 1 d).1) h)]

end Sys2Proof.Machine
end

section
/-! SUPPORT. The step's part of a tick (R154 to R157, R159): the setpoints at the phase, the arrival of a step's ease, and
what an exposure leaves that is completed or timed out. -/

namespace Sys2Proof.Machine

variable {s : State} {r : PassRecord} {f : StepFields} {n : Nat}

/-! ### Setpoints -/

/-- Each pass axis whose drive is ON takes its track value at a phase, and no more of any axis is written. -/
def State.SetpointsAt (s t : State) (r : PassRecord) (phase : Int) : Prop :=
  (∀ m, s.move r.slot = some m → (r.axes.map (·.axis)).Nodup → ∀ pa ∈ r.axes,
    t.axis pa.axis = if (s.axis pa.axis).drive = .on
      then { s.axis pa.axis with setpoint := trackValue (m.axisTrack pa.axis) phase pa.offset }
      else s.axis pa.axis) ∧
  (∀ b, b ∉ r.axes.map (·.axis) → t.axis b = s.axis b) ∧
  (∀ b, { t.axis b with setpoint := (s.axis b).setpoint } = s.axis b)

theorem State.writeSetpoints_setpointsAt {u t : State} {p : Int} (hslots : u.slots = s.slots) (haxes : u.axes = s.axes)
    (ht : t.axes = (u.writeSetpoints r p).axes) : s.SetpointsAt t r p := by
  have hu : ∀ b, u.axis b = s.axis b := fun b => by rw [State.axis, haxes, State.axis]
  have htu : ∀ b, t.axis b = (u.writeSetpoints r p).axis b := fun b => by rw [State.axis, ht, State.axis]
  refine ⟨fun m hm hn pa hpa => ?_, fun b hb => ?_, fun b => ?_⟩
  · rw [htu, State.writeSetpoints_mem u r p ((State.move_congr hslots _).trans hm) hn hpa, hu]
  · rw [htu, State.writeSetpoints_notMem u r p hb, hu]
  · rw [htu, ← hu]
    exact u.writeSetpoints_axis r p b

/-- Writing setpoints writes the axes alone. -/
theorem State.writeSetpoints_eq (s : State) (r : PassRecord) (p : Int) :
    s.writeSetpoints r p = { s with axes := (s.writeSetpoints r p).axes } :=
  congrArg (fun u : State => { u with axes := (s.writeSetpoints r p).axes }) (s.writeSetpoints_frame r p)

/-! ### The tick, by the step state -/

theorem State.tickPass_inStep (hr : s.pass.record = some r) (hf : r.step = some f) (h : s.pass.state.inStep = true) :
    s.tickPass = s.tickStep r f := by
  have hrun : ¬ s.pass.state.inRun = true := fun hrun => by
    rw [PassState.not_inStep_of_inRun hrun] at h
    cases h
  simp only [State.tickPass, hr, hf, if_neg hrun, if_pos h]

/-- The phase of a step's ease on the coming tick. -/
def StepEase.nextPhase (e : StepEase) : Int := e.start + easeOffset e.dist e.duration (e.elapsed + 1)

theorem StepEase.nextPhase_of_last {e : StepEase} (h : e.elapsed + 1 = e.duration) : e.nextPhase = e.start + e.dist := by
  rw [StepEase.nextPhase, h, easeOffset_self _ (h ▸ Nat.le_add_left ..)]

/-- A step's ease moved on by a tick, its setpoints not yet written. -/
def State.stepEased (s : State) (e : StepEase) : State :=
  { s with
    clock := { s.clock with phase := e.nextPhase }
    pass := { s.pass with stepping := { s.pass.stepping with ease := some { e with elapsed := e.elapsed + 1 } } } }

theorem State.tickStep_stepMoving {e : StepEase} (hst : s.pass.state = .stepMoving) (he : s.pass.stepping.ease = some e) :
    s.tickStep r f =
      if e.duration ≤ e.elapsed + 1 then ((s.stepEased e).writeSetpoints r e.nextPhase).stepArrives f
      else (s.stepEased e).writeSetpoints r e.nextPhase := by
  simp only [State.tickStep, State.stepEased, StepEase.nextPhase, hst, he]

theorem State.tickStep_stepSettling (hst : s.pass.state = .stepSettling) (hn : s.pass.stepping.settleRemaining = some n) :
    s.tickStep r f =
      if n ≤ 1 then (s.writeSetpoints r s.clock.phase).beginExposure f
      else (s.writeSetpoints r s.clock.phase).withStepping { s.pass.stepping with settleRemaining := some (n - 1) } := by
  have hpass := (congrArg State.pass (s.writeSetpoints_eq r s.clock.phase) :)
  simp only [State.tickStep, hst, hpass, hn, Option.getD_some]

theorem State.tickStep_exposing (hst : s.pass.state = .exposing) (hn : s.pass.stepping.exposureRemaining = some n) :
    s.tickStep r f =
      if n ≤ 1 then (s.writeSetpoints r s.clock.phase).exposureElapsed r f
      else (s.writeSetpoints r s.clock.phase).withStepping { s.pass.stepping with exposureRemaining := some (n - 1) } := by
  have hpass := (congrArg State.pass (s.writeSetpoints_eq r s.clock.phase) :)
  simp only [State.tickStep, hst, hpass, hn, Option.getD_some]

theorem State.tickStep_stepReady (hst : s.pass.state = .stepReady) :
    s.tickStep r f = s.writeSetpoints r s.clock.phase := by
  simp only [State.tickStep, hst]

/-! ### The arrival of a step (R154, R159) -/

/-- The clock and the pass as a step arrives. -/
def State.stepArrived (s : State) : State :=
  { s with
    clock := { s.clock with currentFrame := s.clock.phase / puPerFrame }
    pass := { s.pass with stepping := { s.pass.stepping with ease := none } } }

theorem State.stepArrives_eq : s.stepArrives f =
    if s.pass.stepping.abortRequested = true then s.stepArrived.endRun .aborted (some .command)
    else if f.settle = 0 then s.stepArrived.beginExposure f
    else s.stepArrived.withPass { s.stepArrived.pass with
      state := .stepSettling
      stepping := { s.stepArrived.pass.stepping with settleRemaining := some f.settle } } := rfl

/-- What a step's arrival leaves, however the pass goes on. -/
theorem State.stepArrives_keeps : (s.stepArrives f).axes = s.axes ∧
    (s.stepArrives f).clock.phase = s.clock.phase ∧ (s.stepArrives f).clock.currentFrame = s.clock.phase / 65536 ∧
    (s.stepArrives f).pass.stepping.ease = none ∧ (s.stepArrives f).pass.record = s.pass.record ∧
    { s.stepArrives f with pass := s.pass, clock := s.clock, linkA := s.linkA, linkB := s.linkB } = s := by
  rw [State.stepArrives_eq]
  split_ifs <;> exact ⟨rfl, rfl, rfl, rfl, rfl, rfl⟩

/-! ### The ends of an exposure (R156, R157) -/

/-- Of the state outside axes and links, an exposure's end writes the pass, and the clock only with the run's end. -/
def State.ExposureKeeps (s t : State) : Prop :=
  { t with pass := s.pass, clock := s.clock, axes := s.axes, linkA := s.linkA, linkB := s.linkB } = s ∧
  t.pass.record = s.pass.record ∧ (t.pass.state ≠ .ended → t.clock = s.clock)

/-- A completed exposure: a frame counted, the trigger LOW, and the run ended, the next step begun, or STEP_READY. -/
def State.ExposureCompletes (s t : State) (r : PassRecord) : Prop :=
  s.ExposureKeeps t ∧ t.pass.report.frames = min (s.pass.report.frames + 1) 65536 ∧
  t.pass.stepping.trigger = false ∧ t.pass.stepping.exposureRemaining = none ∧
  (s.pass.stepping.destination = some r.endFrame →
    t.pass.state = .ended ∧ t.pass.report.outcome = .complete ∧ t.pass.report.cause = none ∧
    t.pass.cameraRun = false ∧ t.clock.state = .stopped ∧ t.clock.phase = s.clock.phase ∧
    ∀ l, t.link l = { s.link l with flags := (s.link l).flags ||| 0x8#17 }) ∧
  (s.pass.stepping.destination ≠ some r.endFrame →
    (0 < s.pass.stepping.pending → t.pass.state = .stepMoving ∧
      t.pass.stepping.pending = s.pass.stepping.pending - 1 ∧ ∀ l, t.link l = s.link l) ∧
    (s.pass.stepping.pending = 0 → t.pass.state = .stepReady ∧ t.pass.stepping.direction = none ∧
      ∀ l, t.link l = { s.link l with flags := (s.link l).flags ||| 0x20#17 }))

/-- A frame counted, the trigger LOW. -/
def State.exposureCounted (s : State) : State :=
  s.withPass { s.pass with
    report := { s.pass.report with frames := min (s.pass.report.frames + 1) 65536 }
    stepping := { s.pass.stepping with trigger := false, exposureRemaining := none } }

theorem State.exposureCompleted_eq : s.exposureCompleted r f =
    if s.pass.stepping.destination = some r.endFrame then s.exposureCounted.endRun .complete none
    else if 0 < s.pass.stepping.pending then s.exposureCounted.beginStep f
    else s.exposureCounted.stepReady := rfl

theorem EventKind.stepReady_bit : EventKind.stepReady.bit = 0x20#17 := by decide

theorem State.endRun_link (o : RunOutcome) (c : Option ReportCause) (l : LinkId) :
    (s.endRun o c).link l = { s.link l with flags := (s.link l).flags ||| 0x8#17 } := by
  rw [← EventKind.passEnded_bit]
  cases l <;> rfl

theorem State.stepReady_link (l : LinkId) :
    s.stepReady.link l = { s.link l with flags := (s.link l).flags ||| 0x20#17 } := by
  rw [← EventKind.stepReady_bit]
  cases l <;> rfl

/-- The exposure of a part whose setpoints a tick has written completes as it stands. -/
theorem State.exposureCompleted_completes (x : Vector Axis 16) :
    s.ExposureCompletes (({ s with axes := x } : State).exposureCompleted r f) r ∧
      (({ s with axes := x } : State).exposureCompleted r f).axes = x := by
  have hlink : ∀ l, ({ s with axes := x } : State).exposureCounted.link l = s.link l := fun l => by cases l <;> rfl
  have heq := State.exposureCompleted_eq (s := { s with axes := x }) (r := r) (f := f)
  dsimp only at heq
  rw [heq]
  split_ifs with hend hpending
  · exact ⟨⟨⟨rfl, rfl, fun h => absurd rfl h⟩, rfl, rfl, rfl, fun _ => ⟨rfl, rfl, rfl, rfl, rfl, rfl, fun l => by
      rw [State.endRun_link, hlink]⟩, fun h => absurd hend h⟩, rfl⟩
  · exact ⟨⟨⟨rfl, rfl, fun _ => rfl⟩, rfl, rfl, rfl, fun h => absurd h hend, fun _ => ⟨fun _ => ⟨rfl, rfl, fun l =>
      (State.withPass_link ..).trans (hlink l)⟩, fun h => absurd h hpending.ne'⟩⟩, rfl⟩
  · exact ⟨⟨⟨rfl, rfl, fun _ => rfl⟩, rfl, rfl, rfl, fun h => absurd h hend, fun _ => ⟨fun h => absurd h hpending,
      fun _ => ⟨rfl, rfl, fun l => by rw [State.stepReady_link, hlink]⟩⟩⟩, rfl⟩

/-- A timed-out exposure: EXPOSE_TIMEOUT noted, nothing counted, the pending steps dropped, STEP_READY. -/
def State.ExposureLapses (s t : State) : Prop :=
  t.pass.state = .stepReady ∧ t.pass.report.frames = s.pass.report.frames ∧ t.pass.stepping.pending = 0 ∧
  t.pass.stepping.trigger = false ∧ t.pass.stepping.direction = none ∧
  (s.pass.report.outcome = .running → t.pass.report.conditions =
    { s.pass.report.conditions with exposeTimeout := true }) ∧
  ∀ l, t.link l = { s.link l with flags := (s.link l).flags ||| 0x20#17 }

theorem Report.note_frames (g : Conditions → Conditions) (x : Report) : (x.note g).frames = x.frames := by
  unfold Report.note
  split <;> rfl

theorem Report.note_running {x : Report} (h : x.outcome = .running) (g : Conditions → Conditions) :
    x.note g = { x with conditions := g x.conditions } := if_pos h

/-- EXPOSE_TIMEOUT noted, the trigger LOW and no step pending. -/
def State.exposureLapsed (s : State) : State :=
  s.withPass { s.pass with
    report := s.pass.report.note (fun c => { c with exposeTimeout := true })
    stepping := { s.pass.stepping with pending := 0, trigger := false, exposureRemaining := none } }

theorem State.exposureTimedOut_eq : s.exposureTimedOut = s.exposureLapsed.stepReady := rfl

theorem State.exposureTimedOut_lapses (x : Vector Axis 16) :
    s.ExposureKeeps ({ s with axes := x } : State).exposureTimedOut ∧
      s.ExposureLapses ({ s with axes := x } : State).exposureTimedOut ∧
      ({ s with axes := x } : State).exposureTimedOut.axes = x := by
  rw [State.exposureTimedOut_eq]
  refine ⟨⟨rfl, rfl, fun _ => rfl⟩, ⟨rfl, Report.note_frames _ _, rfl, rfl, rfl, fun h => ?_, fun l => ?_⟩, rfl⟩
  · exact congrArg Report.conditions (Report.note_running h _)
  · refine (State.stepReady_link l).trans ?_
    cases l <;> rfl

end Sys2Proof.Machine
end

section
/-! SUPPORT. PASS_EXPOSE (R158), and the rows that end a step's ease, its settle and its exposure, each when it is due
(R154 to R156). -/

namespace Sys2Proof.Machine

variable {s : State} {l : LinkId} {r : PassRecord} {f : StepFields} {n : Nat}

/-! ### PASS_EXPOSE -/

section
variable (hs : s.phase = .serving)
include hs

theorem exec_passExpose_refused (h : s.pass.record = none ∨ s.pass.state = .idle) :
    exec (.passExpose l) s = .next ((s.deselect l).refuse l .state) := by
  show execPassExpose l s = _
  rw [execPassExpose, State.taken_serving s l hs, State.deselect_pass]
  cases hr : s.pass.record with
  | none => rfl
  | some r => exact congrArg Host.Outcome.next (if_pos (h.resolve_left (by simp [hr])))

variable (hr : s.pass.record = some r) (hidle : s.pass.state ≠ .idle)
include hr hidle

theorem exec_passExpose_mode (hm : r.mode ≠ .step) :
    exec (.passExpose l) s = .next ((s.deselect l).refuse l .mode) := by
  show execPassExpose l s = _
  rw [execPassExpose, State.taken_serving s l hs, State.deselect_pass, hr]
  dsimp only
  rw [if_neg hidle]
  cases hmode : r.mode with
  | master | follower => rfl
  | step => exact absurd hmode hm

theorem exec_passExpose (hm : r.mode = .step) (hf : r.step = some f) :
    exec (.passExpose l) s = .next (
      if s.pass.state.standing = true then ((s.deselect l).expose r f).ok l .none
      else (s.deselect l).refuse l .state) := by
  show execPassExpose l s = _
  rw [execPassExpose, State.taken_serving s l hs, State.deselect_pass, hr]
  dsimp only
  rw [if_neg hidle, hm, hf]

end

/-- An exposure that begins writes the pass, the clock and the axes alone. -/
theorem State.expose_eq : s.expose r f = { s with
    pass := (s.expose r f).pass, clock := (s.expose r f).clock, axes := (s.expose r f).axes } := by
  unfold State.expose
  split <;> rfl

theorem State.expose_stepReady (h : s.pass.state = .stepReady) : s.expose r f = s.beginExposure f := by
  rw [State.expose, if_neg (by simp [h])]

theorem State.expose_atStart (h : s.pass.state = .atStart) : s.expose r f = { s.clearReport r with
    clock := s.clock.place r
    pass := { s.pass with
      state := .exposing, report := .cleared r, cameraRun := true
      stepping := { s.pass.stepping with
        destination := some r.startFrame, trigger := true, exposureRemaining := some f.exposure.ticks
        settleRemaining := none } } } := by
  rw [State.expose, if_pos h]
  rfl

/-! ### The rows of a step, each when it is due (entry 5) -/

theorem exec_stepEaseEnd_due {e : StepEase} (hst : s.pass.state = .stepMoving) (he : s.pass.stepping.ease = some e)
    (h : e.duration ≤ e.elapsed + 1) : exec .stepEaseEnd s = .next s.tickPass := by
  show execStepEaseEnd s = _
  rw [execStepEaseEnd, if_pos (by simp [State.stepEaseDue, he, hst, h])]

theorem exec_stepSettleEnd (hst : s.pass.state = .stepSettling) (hn : s.pass.stepping.settleRemaining = some n) :
    exec .stepSettleEnd s = .next (if n ≤ 1 then s.tickPass else s) := by
  show execStepSettleEnd s = _
  simp only [execStepSettleEnd, State.settleDue, hst, hn, Option.getD_some, decide_true, Bool.true_and, decide_eq_true_eq]

theorem exec_exposureDoneEdge_ignored (hst : s.pass.state ≠ .exposing) : exec .exposureDoneEdge s = .next s := by
  show execExposureDoneEdge s = _
  rw [execExposureDoneEdge, State.exposing, if_neg hst]

section
variable (hr : s.pass.record = some r) (hf : r.step = some f) (hst : s.pass.state = .exposing) {c : Nat}
include hr hf hst

theorem State.exposing_eq : s.exposing = some (r, f) := by
  rw [State.exposing, if_pos hst, hr]
  simp only [hf, Option.map_some]

theorem exec_exposureDoneEdge_handshake (hc : f.exposure = .handshake c) :
    exec .exposureDoneEdge s = .next (s.exposureCompleted r f) := by
  show execExposureDoneEdge s = _
  simp only [execExposureDoneEdge, State.exposing_eq hr hf hst, hc]

theorem exec_exposureDoneEdge_timed (hc : f.exposure = .timed c) : exec .exposureDoneEdge s = .next s := by
  show execExposureDoneEdge s = _
  simp only [execExposureDoneEdge, State.exposing_eq hr hf hst, hc]

variable (hn : s.pass.stepping.exposureRemaining = some n)
include hn

theorem exec_exposureTimeEnd (hc : f.exposure = .timed c) :
    exec .exposureTimeEnd s = .next (if n ≤ 1 then s.tickPass else s) := by
  show execExposureTimeEnd s = _
  simp only [execExposureTimeEnd, State.exposing_eq hr hf hst, hc, State.remainingDue, hn, Option.getD_some,
    decide_eq_true_eq]

theorem exec_exposureTimeout (hc : f.exposure = .handshake c) :
    exec .exposureTimeout s = .next (if n ≤ 1 then s.tickPass else s) := by
  show execExposureTimeout s = _
  simp only [execExposureTimeout, State.exposing_eq hr hf hst, hc, State.remainingDue, hn, Option.getD_some,
    decide_eq_true_eq]

/-! ### The end of an exposure -/

/-- The last tick of an exposure writes the setpoints and ends it. -/
theorem State.tickPass_exposed (h1 : n ≤ 1) : ∃ x, x = (s.writeSetpoints r s.clock.phase).axes ∧
    s.tickPass = ({ s with axes := x } : State).exposureElapsed r f := by
  refine ⟨_, rfl, ?_⟩
  rw [State.tickPass_inStep hr hf (by rw [hst]; rfl), State.tickStep_exposing hst hn, if_pos h1,
    ← State.writeSetpoints_eq]

theorem exposureTimeEnd_completes (hc : f.exposure = .timed c) (h1 : n ≤ 1) : ∃ t,
    exec .exposureTimeEnd s = .next t ∧ s.ExposureCompletes t r ∧ s.SetpointsAt t r s.clock.phase := by
  obtain ⟨x, hx, htick⟩ := State.tickPass_exposed hr hf hst hn h1
  simp only [State.exposureElapsed, hc] at htick
  obtain ⟨hcompletes, haxes⟩ := s.exposureCompleted_completes (r := r) (f := f) x
  refine ⟨_, exec_exposureTimeEnd hr hf hst hn hc, ?_⟩
  rw [if_pos h1, htick]
  exact ⟨hcompletes, State.writeSetpoints_setpointsAt rfl rfl (haxes.trans hx)⟩

theorem exposureTimeout_lapses (hc : f.exposure = .handshake c) (h1 : n ≤ 1) : ∃ t,
    exec .exposureTimeout s = .next t ∧ s.ExposureKeeps t ∧ s.SetpointsAt t r s.clock.phase ∧ s.ExposureLapses t := by
  obtain ⟨x, hx, htick⟩ := State.tickPass_exposed hr hf hst hn h1
  simp only [State.exposureElapsed, hc] at htick
  obtain ⟨hkeeps, hlapses, haxes⟩ := s.exposureTimedOut_lapses x
  refine ⟨_, exec_exposureTimeout hr hf hst hn hc, ?_⟩
  rw [if_pos h1, htick]
  exact ⟨hkeeps, State.writeSetpoints_setpointsAt rfl rfl (haxes.trans hx), hlapses⟩

end

/-! ### The arrival of a step and the end of its settle -/

section
variable (hr : s.pass.record = some r) (hf : r.step = some f)
include hr hf

theorem exec_stepEaseEnd {e : StepEase} (hst : s.pass.state = .stepMoving) (he : s.pass.stepping.ease = some e)
    (h : e.duration ≤ e.elapsed + 1) :
    exec .stepEaseEnd s = .next (((s.stepEased e).writeSetpoints r e.nextPhase).stepArrives f) := by
  rw [exec_stepEaseEnd_due hst he h, State.tickPass_inStep hr hf (by rw [hst]; rfl), State.tickStep_stepMoving hst he,
    if_pos h]

theorem exec_stepSettleEnd_due (hst : s.pass.state = .stepSettling) (hn : s.pass.stepping.settleRemaining = some n)
    (h : n ≤ 1) : exec .stepSettleEnd s = .next ((s.writeSetpoints r s.clock.phase).beginExposure f) := by
  rw [exec_stepSettleEnd hst hn, if_pos h, State.tickPass_inStep hr hf (by rw [hst]; rfl),
    State.tickStep_stepSettling hst hn, if_pos h]

end

end Sys2Proof.Machine
end

section
/-! SUPPORT. O43: PASS_EXPOSE, the ends of a step's ease, settle and exposure, and the ticks between them. -/

namespace Sys2Proof.Machine

variable {s : State} {l : LinkId} {r : PassRecord} {f : StepFields} {n : Nat}

/-! ### The arrival of a step, by whether an abort was requested -/

theorem State.stepArrives_aborts (h : s.pass.stepping.abortRequested = true) :
    (s.stepArrives f).pass.state = .ended ∧ (s.stepArrives f).pass.report.outcome = .aborted ∧
    (s.stepArrives f).pass.report.cause = some .command ∧ (s.stepArrives f).clock.state = .stopped ∧
    (s.stepArrives f).pass.cameraRun = false ∧
    ∀ l, (s.stepArrives f).link l = { s.link l with flags := (s.link l).flags ||| 0x8#17 } := by
  rw [State.stepArrives_eq, if_pos h]
  refine ⟨rfl, rfl, rfl, rfl, rfl, fun l => (State.endRun_link _ _ l).trans ?_⟩
  cases l <;> rfl

theorem State.stepArrives_goesOn (h : s.pass.stepping.abortRequested = false) :
    (∀ l, (s.stepArrives f).link l = s.link l) ∧
    (f.settle = 0 → (s.stepArrives f).pass.state = .exposing ∧ (s.stepArrives f).pass.stepping.trigger = true ∧
      (s.stepArrives f).pass.stepping.exposureRemaining = some f.exposure.ticks) ∧
    (f.settle ≠ 0 → (s.stepArrives f).pass.state = .stepSettling ∧
      (s.stepArrives f).pass.stepping.settleRemaining = some f.settle ∧
      (s.stepArrives f).pass.stepping.trigger = s.pass.stepping.trigger) := by
  rw [State.stepArrives_eq, if_neg (by simp [h])]
  split_ifs with h0
  · exact ⟨fun l => by cases l <;> rfl, fun _ => ⟨rfl, rfl, rfl⟩, fun hne => absurd h0 hne⟩
  · exact ⟨fun l => by cases l <;> rfl, fun he => absurd he h0, fun _ => ⟨rfl, rfl, rfl⟩⟩

/-- The last tick of a step's ease: on the axes `x` it has written, the phase stands on the destination and the step
arrives. -/
theorem exec_stepEaseEnd_last (hr : s.pass.record = some r) (hf : r.step = some f) {e : StepEase}
    (hst : s.pass.state = .stepMoving) (he : s.pass.stepping.ease = some e) (hlast : e.elapsed + 1 = e.duration) :
    ∃ x, exec .stepEaseEnd s = .next (({ s.stepEased e with axes := x } : State).stepArrives f) ∧
      s.SetpointsAt (({ s.stepEased e with axes := x } : State).stepArrives f) r (e.start + e.dist) := by
  refine ⟨((s.stepEased e).writeSetpoints r e.nextPhase).axes, ?_, ?_⟩
  · rw [exec_stepEaseEnd hr hf hst he hlast.ge, ← State.writeSetpoints_eq]
  · rw [← StepEase.nextPhase_of_last hlast]
    exact State.writeSetpoints_setpointsAt (u := s.stepEased e) rfl rfl State.stepArrives_keeps.1

/-! ### The ticks between the ends -/

/-- What a tick leaves that moves the counts on: the clock `c`, the pass `p`, and the setpoints at a phase. -/
def State.StepsOn (s t : State) (r : PassRecord) (c : Clock) (p : Pass) (phase : Int) : Prop :=
  t.clock = c ∧ t.pass = p ∧ s.SetpointsAt t r phase ∧
    { t with pass := s.pass, clock := s.clock, axes := s.axes } = s

theorem State.stepsOn_of_written {u t : State} {c : Clock} {p : Pass} {phase : Int} (hslots : u.slots = s.slots)
    (haxes : u.axes = s.axes)
    (ht : t = { s with clock := c, pass := p, axes := (u.writeSetpoints r phase).axes }) :
    s.StepsOn t r c p phase := by
  subst ht
  exact ⟨rfl, rfl, State.writeSetpoints_setpointsAt hslots haxes rfl, rfl⟩

section
variable (hr : s.pass.record = some r) (hf : r.step = some f)
include hr hf

theorem State.tickPass_stepMoving {e : StepEase} (hst : s.pass.state = .stepMoving)
    (he : s.pass.stepping.ease = some e) (h : e.elapsed + 1 < e.duration) :
    s.StepsOn s.tickPass r { s.clock with phase := e.nextPhase }
      { s.pass with stepping := { s.pass.stepping with ease := some { e with elapsed := e.elapsed + 1 } } }
      e.nextPhase := by
  refine State.stepsOn_of_written (u := s.stepEased e) rfl rfl ?_
  rw [State.tickPass_inStep hr hf (by rw [hst]; rfl), State.tickStep_stepMoving hst he, if_neg (by omega)]
  exact State.writeSetpoints_eq ..

theorem State.tickPass_stepSettling (hst : s.pass.state = .stepSettling)
    (hn : s.pass.stepping.settleRemaining = some n) (h : 1 < n) :
    s.StepsOn s.tickPass r s.clock
      { s.pass with stepping := { s.pass.stepping with settleRemaining := some (n - 1) } } s.clock.phase := by
  refine State.stepsOn_of_written (u := s) rfl rfl ?_
  rw [State.tickPass_inStep hr hf (by rw [hst]; rfl), State.tickStep_stepSettling hst hn, if_neg (by omega),
    State.writeSetpoints_eq]
  rfl

theorem State.tickPass_exposing (hst : s.pass.state = .exposing)
    (hn : s.pass.stepping.exposureRemaining = some n) (h : 1 < n) :
    s.StepsOn s.tickPass r s.clock
      { s.pass with stepping := { s.pass.stepping with exposureRemaining := some (n - 1) } } s.clock.phase := by
  refine State.stepsOn_of_written (u := s) rfl rfl ?_
  rw [State.tickPass_inStep hr hf (by rw [hst]; rfl), State.tickStep_exposing hst hn, if_neg (by omega),
    State.writeSetpoints_eq]
  rfl

theorem State.tickPass_stepReady (hst : s.pass.state = .stepReady) :
    s.StepsOn s.tickPass r s.clock s.pass s.clock.phase := by
  refine State.stepsOn_of_written (u := s) rfl rfl ?_
  rw [State.tickPass_inStep hr hf (by rw [hst]; rfl), State.tickStep_stepReady hst]
  exact State.writeSetpoints_eq ..

end

/-! ### PASS_EXPOSE as the run begins -/

theorem State.expose_begins (hst : s.pass.state = .atStart) :
    let d := s.deselect l
    let t := (d.expose r f).ok l .none
    t.pass.state = .exposing ∧ t.pass.cameraRun = true ∧ t.pass.report.outcome = .running ∧
    t.pass.stepping.trigger = true ∧ t.pass.stepping.destination = some r.startFrame ∧
    t.pass.stepping.exposureRemaining = some f.exposure.ticks ∧ t.clock.state = .stepping ∧
    t.clock.phase = r.startFrame * 65536 ∧
    (∀ a, t.axis a = { s.axis a with softClamp := false, pulseClamp := false }) ∧
    (t.link l.other = s.link l.other ∧ { t.link l with answer := none } = d.link l ∧
      { t with pass := s.pass, clock := s.clock, axes := s.axes, linkA := d.linkA, linkB := d.linkB } = d) := by
  intro d t
  have hbegun := State.expose_atStart (s := d) (r := r) (f := f) ((s.deselect_pass l).symm ▸ hst)
  have hpass : t.pass = _ := (State.ok_pass ..).trans (congrArg State.pass hbegun)
  have hclock : t.clock = _ := (State.ok_clock ..).trans (congrArg State.clock hbegun)
  have haxis : ∀ a, t.axis a = (d.clearReport r).axis a := fun a => (State.ok_axis ..).trans (by rw [hbegun]; rfl)
  have hlink : ∀ k, (d.expose r f).link k = d.link k := fun k => by
    rw [State.expose_eq]
    cases k <;> rfl
  rw [hpass, hclock]
  refine ⟨rfl, rfl, rfl, rfl, rfl, rfl, rfl, rfl, fun a => ?_, ?_, ?_, ?_⟩
  · rw [haxis, State.clearReport_axis, State.deselect_axis]
  · exact (State.answer_link_other ..).trans ((hlink _).trans (s.deselect_link_other l))
  · refine (congrArg (fun k : Link => { k with answer := none }) (State.answer_link ..)).trans ?_
    rw [hlink, State.deselect_link]
  · have heq := State.expose_eq (s := d) (r := r) (f := f)
    generalize (d.expose r f).pass = p, (d.expose r f).clock = c, (d.expose r f).axes = x at heq
    simp only [t, heq]
    cases l <;> rfl

end Sys2Proof.Machine
end

section
/-! SUPPORT. The statement on the settle and the exposure of a step. -/

namespace Sys2Proof.Machine

/-- Settles O43: PASS_EXPOSE by the pass state, the ends of ease, settle and exposure by what their last tick leaves, and
the tick of a step that is no such end. -/
theorem stepsSettleAndExpose : Obligations.StepsSettleAndExpose := by
  unfold Obligations.StepsSettleAndExpose
  refine ⟨⟨fun s l r hs hr hidle => ⟨exec_passExpose_mode hs hr hidle, fun f hm hf => ?_⟩,
    fun s r f n hr hf hst hn => ?_, fun s hst => exec_exposureDoneEdge_ignored hst⟩, fun s r f hr hf => ⟨?_, ?_⟩,
    fun s l hs h => exec_passExpose_refused hs h, fun s r f hr hf => ?_⟩
  · rw [exec_passExpose hs hr hidle hm hf]
    refine ⟨fun h1 h2 => ?_, fun hst => ?_, fun hst => ⟨_, congrArg _ (if_pos (by rw [hst]; rfl)), ?_⟩⟩
    · rw [if_neg (by simp [PassState.standing_iff, h1, h2])]
    · rw [if_pos (by rw [hst]; rfl), State.expose_stepReady ((s.deselect_pass l).symm ▸ hst), State.beginExposure,
        State.deselect_pass]
      cases f.exposure <;> rfl
    · exact State.expose_begins hst
  · intro kept written completed
    have hdone := s.exposureCompleted_completes (r := r) (f := f) s.axes
    refine ⟨fun c hc => ⟨⟨_, exec_exposureDoneEdge_handshake hr hf hst hc, hdone⟩,
      exposureTimeout_lapses hr hf hst hn hc⟩, fun c hc => ⟨exec_exposureDoneEdge_timed hr hf hst hc,
      exposureTimeEnd_completes hr hf hst hn hc, fun h => ?_⟩⟩
    rw [exec_exposureTimeEnd hr hf hst hn hc, if_neg (by omega)]
  · intro e hst he hlast
    obtain ⟨x, hexec, hmem, hnotMem, hkeeps⟩ := exec_stepEaseEnd_last hr hf hst he hlast
    obtain ⟨-, hphase, hframe, hease, hrecord, hrest⟩ :=
      State.stepArrives_keeps (s := { s.stepEased e with axes := x }) (f := f)
    have hdest : ({ s.stepEased e with axes := x } : State).clock.phase = e.start + e.dist :=
      StepEase.nextPhase_of_last hlast
    refine ⟨_, hexec, hphase.trans hdest, hdest ▸ hframe, hease, hmem, hnotMem, hkeeps, ?_, hrecord, fun ha => ?_,
      fun ha => ?_⟩
    · exact congrArg (fun u : State => { u with
        pass := s.pass, clock := s.clock, axes := s.axes, linkA := s.linkA, linkB := s.linkB }) hrest
    · exact State.stepArrives_aborts (s := { s.stepEased e with axes := x }) ha
    · exact State.stepArrives_goesOn (s := { s.stepEased e with axes := x }) ha
  · intro n hst hn
    refine ⟨fun h => ⟨_, exec_stepSettleEnd_due hr hf hst hn h, ?_⟩, fun h => ?_⟩
    · obtain ⟨hmem, hnotMem, hkeeps⟩ := State.writeSetpoints_setpointsAt (s := s) (u := s)
        (t := (s.writeSetpoints r s.clock.phase).beginExposure f) rfl rfl rfl
      refine ⟨?_, hmem, hnotMem, hkeeps, ?_⟩ <;> rw [State.writeSetpoints_eq] <;> rfl
    · rw [exec_stepSettleEnd hst hn, if_neg (by omega)]
  · intro t written
    have hsteps : ∀ c p phase, s.StepsOn t r c p phase → t.clock = c ∧ written phase ∧ t.pass = p :=
      fun _ _ _ ⟨hclock, hpass, ⟨hmem, hnotMem, _⟩, hframe⟩ => ⟨hclock, ⟨hmem, hnotMem, hframe⟩, hpass⟩
    refine ⟨fun e hst he => ⟨fun h => hsteps _ _ _ (State.tickPass_stepMoving hr hf hst he h),
        exec_stepEaseEnd_due hst he⟩,
      fun n hst hn => ⟨fun h => hsteps _ _ _ (State.tickPass_stepSettling hr hf hst hn h), fun h => ?_⟩,
      fun n hst hn => ⟨fun h => hsteps _ _ _ (State.tickPass_exposing hr hf hst hn h),
        fun h => ⟨fun c hc => ?_, fun c hc => ?_⟩⟩, fun hst => ?_⟩
    · rw [exec_stepSettleEnd hst hn, if_pos h]
    · rw [exec_exposureTimeEnd hr hf hst hn hc, if_pos h]
    · rw [exec_exposureTimeout hr hf hst hn hc, if_pos h]
    · obtain ⟨hclock, hwritten, hpass⟩ := hsteps _ _ _ (State.tickPass_stepReady hr hf hst)
      exact ⟨hclock, hpass, hwritten⟩

end Sys2Proof.Machine
end
